-- ==== Sys2Proof/Word.lean ====
section
/-! DEFINITION. The word types of the registers and of memory, and the one shape in which sparse contents are held. -/
namespace Sys2Proof

/-- A CSR word (00, Numbers, units and layouts: a CSR word is 8 bytes). -/
abbrev W64 := BitVec 64
/-- A 32-bit element, field or FP32 encoding. -/
abbrev W32 := BitVec 32
/-- One byte of a memory, an image, a message or a record. -/
abbrev Byte := BitVec 8
/-- A byte string, lowest address first. -/
abbrev Bytes := List Byte

/-- Sparse contents by key: keys rise strictly, and no entry holds the value an unlisted key reads as. -/
abbrev SMap (α : Type) := List (Nat × α)

end Sys2Proof
end

