-- ==== Sys2Proof/Config.lean ====
section
/-! DEFINITION. What the spec leaves open: free values, of which nothing can be proved, and the constants of an implementation. -/
namespace Sys2Proof

/-- The contents of a memory byte that is undefined since the loss numbered `gen` (R39, R177, R329, R345, R575). -/
opaque Config.undefinedByte (gen addr : Nat) : Byte

/-- A fresh free value, by how many have been taken: keys, seeds and salts that the security block generates (R614, R426), a
signature's salt (R609). -/
opaque Config.fresh (n : Nat) : BitVec 512

/-- LPD_STATUS.FAILED (8 bits) when more than 255 units have failed. -/
opaque Config.failedOver (n : Nat) : BitVec 8

/-- LPD_STATUS.NO_LINK_ECC (8 bits) for a set of packages that reaches above P7. -/
opaque Config.noEccOver (mask : Nat) : BitVec 8

/-- The identity key's signature of an attestation report (R608, R609): the key is derived from the device secret by a function
the spec does not state. -/
opaque Config.signature (secret : Nat) (report : Bytes) (salt : Nat) : Bytes

/-- The GETSTATUS bytes of the I3C target, by how many free values were taken (R606: the standard's own). -/
opaque Config.i3cStatus (n : Nat) : Bytes

/-- What the ECC of an undefined tile-store word finds (R329): 0 clean, 1 corrected, 2 or 3 uncorrectable. -/
opaque Config.undefinedEcc (gen word : Nat) : BitVec 2

/-- The clocks a tile-store master waited for engine masters and for the others during one transfer, by how many free values
have been taken (R325). -/
opaque Config.waited (n : Nat) : BitVec 16 × BitVec 16

/-- The two bytes that name a requester of T1 that is no engine in event 0x8B00 (R617 gives a code for engines alone). -/
opaque Config.requester (n : Nat) : BitVec 16

/-- Where the owner's mooring of a buoy lies in its T1, while no PLACEMENT grant has told it: no rule says how a requester learns it
(R457). -/
opaque Config.ownerOffset (buoy : Nat) : BitVec 45

/-- The byte that event 0x4100 carries for a fence's level, false for engine level and true for full: no rule encodes it. -/
opaque Config.fenceLevel (full : Bool) : BitVec 8

/-- What an authority record changes: none where it is not well formed, else a place (8 for the operator authority) and the modulus
that it enrols there, or none where it revokes. No rule gives the record's layout (R605). -/
opaque Config.authority (record : Bytes) : Option (Nat × Option Nat)

/-- Groups of 8 bytes that Keeper has drained from the transfer buffer since the last write, by how many free values were taken: the
rate is only bounded from below (R603). -/
opaque Config.drained (n : Nat) : BitVec 14

/-- Where a relay forwards a fragment of a control message: no rule says how a relay tells the tree edge that a fragment travels on, by
how many free values were taken; none where this module is the edge's end (R466, R469). -/
opaque Config.relay (n : Nat) : Option (Fin 48)

/-- Symbols beyond 2^20 that a lane has corrected in the second that raises event 0x4D05, by how many free values were taken (R440). -/
opaque Config.symbols (n : Nat) : BitVec 31

/-- What a peer answers to a configuration read that a private read performs (R560, R607), by how many free values were taken. -/
opaque Config.peerReply (n : Nat) : Option (BitVec 32)

/-- Lines that an aperture read prefetches beyond the one it needs, by how many free values were taken (R554: up to 16). -/
opaque Config.prefetched (n : Nat) : Fin 17

/-- The place, among 1 024, of the line that a full aperture read buffer gives up, by how many free values were taken (R554). -/
opaque Config.replaced (n : Nat) : Fin 1024

end Sys2Proof
end

