-- ==== Sys2Proof/Machine/Bits.lean ====
section
/-! DEFINITION. Bit fields, byte order and saturating counters. -/
namespace Sys2Proof

/-- Bits [hi:lo] of a number (00, Numbers, units and layouts). -/
def bits (v hi lo : Nat) : Nat := (v / 2 ^ lo) % 2 ^ (hi + 1 - lo)

/-- Bit n of a number. -/
def bit (v n : Nat) : Bool := v.testBit n

/-- n bytes of v, least significant first (R3). -/
def leBytes : Nat → Nat → Bytes
  | 0, _ => []
  | n + 1, v => BitVec.ofNat 8 v :: leBytes n (v / 256)

/-- The number a byte string holds, least significant byte first (R3). -/
def leNat : Bytes → Nat
  | [] => 0
  | b :: r => b.toNat + 256 * leNat r

/-- The number a byte string holds, most significant byte first. -/
def beNat (bs : Bytes) : Nat := bs.foldl (fun a b => a * 256 + b.toNat) 0

/-- n bytes of v, most significant first. -/
def beBytes (n v : Nat) : Bytes := (leBytes n v).reverse

/-- n bytes from offset o of a byte string; bytes beyond its end read as zero. -/
def bytesAt (bs : Bytes) (o n : Nat) : Bytes :=
  let r := (bs.drop o).take n
  r ++ List.replicate (n - r.length) 0

/-- The little-endian number in n bytes from offset o. -/
def natAt (bs : Bytes) (o n : Nat) : Nat := leNat ((bs.drop o).take n)

/-- The two's-complement value of an n-bit number. -/
def signed (n v : Nat) : Int :=
  let u := v % 2 ^ n
  if u < 2 ^ (n - 1) then (u : Int) else (u : Int) - (2 ^ n : Nat)

/-- The n-bit two's-complement encoding of an integer. -/
def unsigned (n : Nat) (v : Int) : Nat := (v % ((2 ^ n : Nat) : Int)).toNat

/-- A sum that holds at the maximum of an n-bit counter. -/
def satAdd (n a b : Nat) : Nat := min (a + b) (2 ^ n - 1)

/-- ⌈a / b⌉. -/
def ceilDiv (a b : Nat) : Nat := (a + b - 1) / b

/-- Bytes of an ASCII text. -/
def ascii (s : String) : Bytes := s.toList.map (fun c => BitVec.ofNat 8 c.toNat)

/-- 0 or 1. -/
def b01 (b : Bool) : Nat := if b then 1 else 0

/-- The value v placed at bit lo. -/
def at_ (lo v : Nat) : Nat := v * 2 ^ lo

/-- A CSR word out of a number. -/
def w64 (n : Nat) : W64 := BitVec.ofNat 64 n

/-- Replaces n elements from position o by the given ones, where the list reaches that far. -/
def splice {α : Type} (xs : List α) (o : Nat) (ys : List α) : List α :=
  xs.take o ++ ys.take (xs.length - o) ++ xs.drop (o + ys.length)

end Sys2Proof
end

