-- ==== Sys2Proof/Machine/Maps.lean ====
section
/-! DEFINITION. Sparse maps: reading, writing and the canonical form. -/
namespace Sys2Proof

/-- An element placed before the first one that it does not come after. -/
def insertBy {α : Type} (le : α → α → Bool) (x : α) : List α → List α
  | [] => [x]
  | y :: r => if le x y then x :: y :: r else y :: insertBy le x r

/-- A list in order, equal elements as they stood. -/
def sortBy {α : Type} (le : α → α → Bool) : List α → List α
  | [] => []
  | x :: r => insertBy le x (sortBy le r)

/-- The entry of key k, if one is listed. -/
def SMap.find? {α : Type} : SMap α → Nat → Option α
  | [], _ => none
  | (j, v) :: r, k => if j = k then some v else SMap.find? r k

/-- What key k reads as, where an unlisted key reads as d. -/
def SMap.get {α : Type} (m : SMap α) (k : Nat) (d : α) : α := (SMap.find? m k).getD d

/-- Without the entry of key k. -/
def SMap.erase {α : Type} (m : SMap α) (k : Nat) : SMap α := m.filter (fun e => e.1 != k)

/-- With key k listed as v, in key order. -/
def SMap.insert {α : Type} : SMap α → Nat → α → SMap α
  | [], k, v => [(k, v)]
  | (j, w) :: r, k, v =>
    if k < j then (k, v) :: (j, w) :: r
    else if k = j then (k, v) :: r
    else (j, w) :: SMap.insert r k v

/-- A write of v to key k: the default d is never listed. -/
def SMap.set {α : Type} [DecidableEq α] (m : SMap α) (k : Nat) (v d : α) : SMap α :=
  if v = d then SMap.erase m k else SMap.insert m k v

/-- A write of f of the present value. -/
def SMap.modify {α : Type} [DecidableEq α] (m : SMap α) (k : Nat) (d : α) (f : α → α) : SMap α :=
  SMap.set m k (f (SMap.get m k d)) d

/-- The keys rise strictly from above `lo`. -/
def SMap.sortedFrom {α : Type} : Nat → SMap α → Bool
  | _, [] => true
  | lo, (k, _) :: r => decide (lo ≤ k) && SMap.sortedFrom (k + 1) r

/-- The canonical form: keys strictly rising and no entry equal to the default. -/
def SMap.wf {α : Type} [DecidableEq α] (m : SMap α) (d : α) : Bool :=
  SMap.sortedFrom 0 m && m.all (fun e => decide (e.2 ≠ d))

/-- The canonical form of a map whose unlisted keys hold no value: keys strictly rising. -/
def SMap.sorted {α : Type} (m : SMap α) : Bool := SMap.sortedFrom 0 m

/-- The entries at keys a to a + n − 1. -/
def SMap.slice {α : Type} (m : SMap α) (a n : Nat) : SMap α := m.filter (fun e => a ≤ e.1 && e.1 < a + n)

/-- Without the entries at keys a to a + n − 1. -/
def SMap.clear {α : Type} (m : SMap α) (a n : Nat) : SMap α := m.filter (fun e => !(a ≤ e.1 && e.1 < a + n))

/-- n values from position p on, out of entries in key order; d gives an unlisted position. -/
def SMap.fill {α : Type} (d : Nat → α) : Nat → Nat → SMap α → List α
  | 0, _, _ => []
  | n + 1, p, [] => d p :: SMap.fill d n (p + 1) []
  | n + 1, p, (k, v) :: r =>
    if k = p then v :: SMap.fill d n (p + 1) r else d p :: SMap.fill d n (p + 1) ((k, v) :: r)

/-- The n values from key a on. -/
def SMap.read {α : Type} (m : SMap α) (a n : Nat) (d : Nat → α) : List α :=
  SMap.fill d n a (SMap.slice m a n)

/-- Values paired with their keys from a on. -/
def SMap.keyed {α : Type} : Nat → List α → SMap α
  | _, [] => []
  | a, v :: r => (a, v) :: SMap.keyed (a + 1) r

/-- A write of a run of values from key a on, every one listed. -/
def SMap.writeAll {α : Type} (m : SMap α) (a : Nat) (vs : List α) : SMap α :=
  m.filter (fun e => e.1 < a) ++ SMap.keyed a vs ++ m.filter (fun e => a + vs.length ≤ e.1)

/-- A write of a run of values from key a on; the default d is never listed. -/
def SMap.write {α : Type} [DecidableEq α] (m : SMap α) (a : Nat) (vs : List α) (d : α) : SMap α :=
  m.filter (fun e => e.1 < a) ++ (SMap.keyed a vs).filter (fun e => e.2 != d)
    ++ m.filter (fun e => a + vs.length ≤ e.1)

/-- Two sorted lists of entries merged, the first winning where both list a key; the fuel is the sum of their lengths. -/
def SMap.mergeFuel {α : Type} : Nat → SMap α → SMap α → SMap α
  | 0, _, _ => []
  | _ + 1, [], b => b
  | _ + 1, a, [] => a
  | n + 1, (j, v) :: r, (k, w) :: q =>
    if j < k then (j, v) :: SMap.mergeFuel n r ((k, w) :: q)
    else if j = k then (j, v) :: SMap.mergeFuel n r q
    else (k, w) :: SMap.mergeFuel n ((j, v) :: r) q

/-- The entries of a over those of b. -/
def SMap.overlay {α : Type} (a b : SMap α) : SMap α := SMap.mergeFuel (a.length + b.length) a b

/-- With every key moved up by d. -/
def SMap.shift {α : Type} (m : SMap α) (d : Nat) : SMap α := m.map (fun e => (e.1 + d, e.2))

/-- Every entry changed by f; entries that become the default are no longer listed. -/
def SMap.mapAll {α : Type} [DecidableEq α] (m : SMap α) (d : α) (f : α → α) : SMap α :=
  m.filterMap (fun e => if f e.2 = d then none else some (e.1, f e.2))

end Sys2Proof
end

