-- ==== Sys2Proof/Types/Num.lean ====
section
/-! DEFINITION. The vocabulary of number formats and rounding (chapter 04). -/
namespace Sys2Proof

/-- A decoded value: NaN, an infinity, or ± m × 2^e. -/
inductive Fl where
  | nan
  | inf (neg : Bool)
  | fin (neg : Bool) (m : Nat) (e : Int)
  deriving DecidableEq, Repr

/-- What a floating-point format has beside finite values (Table 4.2). -/
inductive Specials where
  /-- infinities and NaNs in the top exponent (FP32, BF16, FP16, E5M2) -/
  | ieee
  /-- NaN alone, in the last code (E4M3) -/
  | nanOnly
  /-- finite values alone (MXFP6, MXFP4) -/
  | none
  deriving DecidableEq, Repr

/-- The layout of a floating-point format (Table 4.1). -/
structure Fmt where
  exp : Nat
  man : Nat
  bias : Int
  specials : Specials
  deriving DecidableEq, Repr

/-- The rounding modes (R141); SR carries the 24-bit random value of R146. -/
inductive Rnd where
  | rne
  | rtz
  | sr (rnd : Nat)
  deriving DecidableEq, Repr

/-- An element format of Table 4.1 by its use. -/
inductive Elem where
  | fp (f : Fmt)
  | mx (f : Fmt)
  | int8
  | int32
  | uint32
  deriving DecidableEq, Repr

/-- A tile header (Table 10.6), without its CRC. -/
structure Header where
  format : Nat
  tse : Nat
  step : Int
  flags : Nat
  codec : Nat
  buoy : Nat
  tile : Nat
  epoch : Nat
  payloadLen : Nat
  compressedLen : Nat
  deriving DecidableEq, Repr

/-- What one narrowing of an element reports to the census, the header and the step gate (R137 to R139, R162). -/
structure NarrowNote where
  flush : Bool := false
  subn : Bool := false
  sat : Bool := false
  nonfin : Bool := false
  deriving DecidableEq, Repr

/-- What a stochastic rounding of a tile takes its randomness from (Table 4.8). -/
structure SrKey where
  seed : Nat
  tile : Nat
  buoy : Nat
  step : Nat
  purpose : Nat
  ordinal : Nat
  deriving DecidableEq, Repr

/-- How a tile's elements are rounded: one mode for all, or by SR with a key (R141). -/
inductive RoundBy where
  | rne
  | rtz
  | sr (key : SrKey)
  deriving DecidableEq, Repr

/-- What narrowing a tile gives: its payload, and what the header, the census, the amax and the step gate take. -/
structure Narrowed where
  payload : Bytes := []
  nonfinite : Bool := false
  saturated : Bool := false
  conv : Nat := 0
  flush : Nat := 0
  subn : Nat := 0
  sat : Nat := 0
  nonfin : Nat := 0
  /-- largest finite magnitude among the sources, as an FP32 encoding -/
  amax : Nat := 0
  /-- every element was written as zero -/
  allZero : Bool := false
  deriving DecidableEq, Repr

end Sys2Proof
end

