-- ==== Sys2Proof/Types/Beam.lean ====
section
/-! DEFINITION. The beam state (chapter 02) and the numerics state (chapter 04). -/
namespace Sys2Proof

/-- BEAM_STATUS.ROLE (Table 2.5). -/
inductive Role where
  | follower | master | standby
  deriving DecidableEq, Repr

/-- A halt that waits for its halt tick (R74, R467). -/
structure PendingHalt where
  tick : Nat
  origin : Nat
  deriving DecidableEq, Repr

/-- The kinds of vote that travel the control tree (R469). -/
inductive VoteKind where
  | hold | arm | release
  deriving DecidableEq, Repr

/-- A vote of one member, or of a subtree of the control tree (R469, Table 13.14). -/
structure Vote where
  kind : VoteKind
  sender : Nat
  jobId : W64
  group : W64
  beam : W64
  ok : Bool
  deriving DecidableEq, Repr

/-- The beam state of a module. -/
structure Beam where
  /-- 02 Table 2.5. BEAM_STATUS.STANDBY_MODULE. [13 bits] -/
  standby : Nat := 0
  /-- 02 Table 2.5. BEAM_STATUS.MASTER_MODULE. [13 bits] -/
  master : Nat := 0
  /-- 02 Table 2.5. BEAM_STATUS.ROLE. [2 bits] -/
  role : Role := .follower
  /-- 02 R57. BEAM_STATUS.HOLDOVER. [1 bit] -/
  holdover : Bool := false
  /-- 02 R58. BEAM_STATUS.COUNT_VALID. [1 bit] -/
  countValid : Bool := false
  /-- 02 R48. BEAM_TICK_COUNT. [64 bits] -/
  count : W64 := 0
  /-- 02 Table 2.10. BEAM_OFFSET, clocks since the current beam tick. [23 bits] -/
  offset : Nat := 0
  /-- 02 R47. Clocks since the last base tick. [1] -/
  sinceTick : Nat := 0
  /-- 02 R58. Base ticks generated in this holdover. [1] -/
  holdTicks : Nat := 0
  /-- 02 R54. Consecutive base ticks without a tick on any trained link. [1] -/
  missed : Nat := 0
  /-- 02 R49. The link on which this module accepts ticks. [1] -/
  treeLink : Option Nat := none
  /-- 02 R49. The link of the standby tree. [1] -/
  standbyLink : Option Nat := none
  /-- 02 R55. The tick link in use while the tree link misses ticks. [1] -/
  altLink : Option Nat := none
  /-- 02 R50. Compensated tick arrivals on other links since the accepted tick: link, picoseconds after it. [1] -/
  arrivals : List (Nat × Int) := []
  /-- 02 Table 2.5. BEAM_STATUS.IDLE. [1 bit] -/
  idle : Bool := false
  /-- 02 R85. BEAM_POSITION.STEP, training step since commit. [32 bits] -/
  step : Nat := 0
  /-- 02 R76. BEAM_POSITION.PLAN_BEAM. [32 bits] -/
  planBeam : Nat := 0
  /-- 02 Table 2.13. BEAM_IDLE.TOTAL. [32 bits] -/
  idleTotal : Nat := 0
  /-- 02 Table 2.13. BEAM_IDLE.RUN. [32 bits] -/
  idleRun : Nat := 0
  /-- 18 Table 18.2. Idle beams of the step in progress. [1] -/
  idleStep : Nat := 0
  /-- 02 R53. BEAM_MASTER_PRIO. [64 bits] -/
  prio : W64 := 0x80
  /-- 02 R74. The halt that waits for its tick. [1] -/
  halt : Option PendingHalt := none
  /-- 02 R73. This module's engines are stopped until the halt tick. [1] -/
  stopped : Bool := false
  /-- 02 R73. The first fault code raised in this beam (18 Table 18.13). [1] -/
  ownFault : Nat := 0
  /-- 02 R75. Own hold votes sampled, by the plan beam's run tick, not yet combined. [1] -/
  ownVotes : SMap Bool := []
  /-- 02 R75. Combined hold results known, by the tick they decide. [1] -/
  holdResults : SMap Bool := []
  /-- 13 R469. Votes received from children of the control tree, newest first. [1] -/
  votes : List Vote := []
  /-- 02 R65. Tasks of the current plan beam that have started: logical engine and index. [1] -/
  started : List (Nat × Nat) := []
  /-- 02 R65. Tasks of the current plan beam that have completed. [1] -/
  done : List (Nat × Nat) := []
  /-- 02 R62. A beam of the job group runs its tasks at this tick: the beam tick has been taken. [1] -/
  atTick : Bool := false
  /-- 02 R67. The eclipse of the current beam has started. [1] -/
  inEclipse : Bool := false
  deriving DecidableEq, Repr

/-- The counts of Table 4.10 (R162). -/
structure Census where
  conv : Nat := 0
  flush : Nat := 0
  subn : Nat := 0
  sat : Nat := 0
  nonfin : Nat := 0
  deriving DecidableEq, Repr

/-- The latched census of RDX_CENSUS_SEL (R167). -/
structure CensusLatch where
  /-- 04 Table 4.14. RDX_CENSUS_INFO. [64 bits] -/
  info : W64 := 0
  /-- 04 Table 4.15. RDX_CENSUS_AMAX. [64 bits] -/
  amax : W64 := 0
  /-- 04 Table 4.16. RDX_CENSUS_CONV to RDX_CENSUS_NONFIN. [5 × 64 bits] -/
  counts : Census := {}
  deriving DecidableEq, Repr

/-- The numerics state (chapter 04). -/
structure NumState where
  /-- 04 R150. Amax history of each buoy, entry 0 first. [16 × 32 bits] [1] -/
  amax : SMap (List W32) := []
  /-- 04 R150. Amax of the step in progress of each buoy. [32 bits] [1] -/
  stepAmax : SMap W32 := []
  /-- 04 R158. Delta amax history by 2 × layer, plus 1 for ORBIT_DELTA. [16 × 32 bits] [1] -/
  delta : SMap (List W32) := []
  /-- 04 R158. Delta amax of the step or orbit in progress. [32 bits] [1] -/
  deltaNow : SMap W32 := []
  /-- 04 R159. STEP of each layer and class in this step or orbit, once chosen: by 2 × layer, plus 1 for ORBIT_DELTA. [1] -/
  stepNow : SMap (Option Int) := []
  /-- 04 R153. Warm-up steps left of each buoy. [16 bits] [1] -/
  warmup : SMap Nat := []
  /-- 04 R162. Census of each buoy. [5 × 64 bits] [1] -/
  census : SMap Census := []
  /-- 04 R167. The census as the last step gate left it. [5 × 64 bits] [1] -/
  covered : SMap Census := []
  /-- 04 R167. Job step of the last step gate since the commit of the full image. [1] -/
  coveredStep : Option Nat := none
  /-- 04 R167. The latch of RDX_CENSUS_SEL. [7 × 64 bits] -/
  latch : CensusLatch := {}
  /-- 04 Table 4.13. RDX_CENSUS_SEL. [64 bits] -/
  sel : W64 := 0
  /-- 04 R165. Silent-layer counter of each layer. [32 bits] [1] -/
  silent : SMap Nat := []
  /-- 04 R164. Layers reduced in this step, with whether every tile was silent. [1] -/
  reduced : SMap (Option Bool) := []
  /-- 04 Table 4.17. RDX_SILENT.LAYER. [16 bits] -/
  silentSel : Nat := 0
  /-- 04 R147. The step base that a restart loads. [64 bits] [1] -/
  stepBase : Nat := 0
  /-- 14 R512. The non-finite indication of the step in progress. [1] -/
  nonFinite : Bool := false
  deriving DecidableEq, Repr

end Sys2Proof
end

