-- ==== Sys2Proof/Types/Fabric.lean ====
section
/-! DEFINITION. The Soern fabric (chapter 13), the gradient exchange (14) and orbits, captures and restores (15). -/
namespace Sys2Proof

/-- A member of the domain, by serial number (R474). -/
structure Member where
  serial : Nat
  number : Nat
  prio : Nat
  deriving DecidableEq, Repr

/-- What a module's LINK_STATE and HELLO tell of it (R464): its far ends are (own link, far serial, far link). -/
structure LinkState where
  serial : Nat
  number : Option Nat
  prio : Nat
  location : Option Nat
  links : List (Nat × Nat × Nat)
  deriving DecidableEq, Repr

/-- The header of a flit message (R464), but for its TYPE, which its body gives, and its LENGTH. -/
structure MsgHeader where
  scope : Nat
  hopsLeft : Nat
  origin : Nat
  dest : Nat
  id : Nat
  deriving DecidableEq, Repr

/-- The content of HELLO (Table 13.8). -/
structure Hello where
  serial : Nat
  number : Option Nat
  location : W64
  prio : Nat
  domain : W64
  link : Nat
  deriving DecidableEq, Repr

/-- The content of ASSIGN (Table 13.8): a number for each admitted serial number. -/
structure Assign where
  domain : W64
  members : List Member
  count : W64
  deriving DecidableEq, Repr

/-- The content of MEMBERSHIP (Table 13.8), and a change that awaits its effective tick (R475). -/
structure Change where
  tick : Nat
  joining : List Member
  leaving : List Nat
  deriving DecidableEq, Repr

/-- The kinds of PLACEMENT message (Table 13.8). -/
inductive PlacementKind where
  | replicaRequest | replicaGrant | repairRequest | repairGrant
  deriving DecidableEq, Repr

/-- The content of PLACEMENT: the buoy and tile, and in a grant where the owner's mooring lies in its T1. -/
structure Placement where
  kind : PlacementKind
  buoy : Nat
  tile : Nat
  offset : Option Nat
  deriving DecidableEq, Repr

/-- The content of a flit message (Table 13.8). -/
inductive MsgBody where
  | hello (h : Hello)
  | linkState (l : LinkState)
  | assign (a : Assign)
  | membership (c : Change)
  | join (m : Member)
  | leave (number : Nat)
  | invalidate (planBeam : Nat) (buoys : List Nat)
  | placement (p : Placement)
  deriving DecidableEq, Repr

/-- A flit message (R464). -/
structure Message where
  hdr : MsgHeader
  body : MsgBody
  deriving DecidableEq, Repr

/-- A flit (R441, Table 13.2), without its CRC; a MESSAGE flit carries its message. -/
structure Flit where
  seq : Nat
  kind : Nat
  flow : Nat
  dest : Nat
  hops : Nat
  first : Bool
  last : Bool
  poison : Bool
  data : Bytes
  msg : Option Message
  deriving DecidableEq, Repr

/-- The contents of a control message (R466, Table 13.9); `up` is its direction. -/
inductive CtlMsg where
  | holdVote (job : BitVec 24) (planBeam : W32) (ok up : Bool)
  | armVote (job group : W64) (beam : W64) (ok up : Bool)
  | collect (job : BitVec 24) (num op : Nat) (up : Bool) (value : W64)
  | releaseVote (job group : W64) (beam : W64) (ok up : Bool)
  deriving DecidableEq, Repr

/-- A control block (R433, Table 13.1). -/
inductive Ctl where
  | idle
  | ack (seq : Nat)
  | nak (seq : Nat)
  | tick (late count : Nat)
  | halt (job : BitVec 24) (origin tick : Nat)
  | msg (frag ty : Nat) (content : Bytes)
  | echo (time : Nat) (reply : Bool)
  deriving DecidableEq, Repr

/-- One Soern link. -/
structure Link where
  /-- 13 Table 13.18. FAB_LINK_INFO.STATE: 0 down, 1 training, 2 up, 3 not admitted, 4 disabled. [4 bits] -/
  state : Nat := 0
  /-- 13 Table 13.18. FAB_LINK_INFO.SPARE_FOR. [4 bits] -/
  spareFor : Nat := 15
  /-- 13 Table 13.18. FAB_LINK_INFO.DELAY. [8 bits] -/
  delay : Nat := 255
  /-- 13 Table 13.18. FAB_LINK_INFO.PEER_LINK. [6 bits] -/
  peerLink : Nat := 0
  /-- 13 Table 13.18. FAB_LINK_INFO.PEER_VALID. [1 bit] -/
  peerValid : Bool := false
  /-- 13 Table 13.18. FAB_LINK_INFO.PEER_MODULE. [13 bits] -/
  peerModule : Nat := 0
  /-- 13 R464. Serial number of the far end, from HELLO. [1] -/
  peerSerial : Nat := 0
  /-- 13 R436. Domain identifier of the far end, from HELLO. [64 bits] [1] -/
  peerDomain : Nat := 0
  /-- 13 Table 13.18. FAB_LINK_INFO.TRAININGS. [16 bits] -/
  trainings : Nat := 0
  /-- 13 Table 13.19. FAB_LINK_ERR.FEC_CORRECTED. [32 bits] -/
  corrected : Nat := 0
  /-- 13 Table 13.19. FAB_LINK_ERR.FEC_UNCORRECTED. [16 bits] -/
  uncorrected : Nat := 0
  /-- 13 Table 13.19. FAB_LINK_ERR.RETRIES. [16 bits] -/
  retries : Nat := 0
  /-- 13 R439. Consecutive groups that held an uncorrectable codeword. [1] -/
  badGroups : Nat := 0
  /-- 13 R442. SEQ of the next numbered flit to send. [16 bits] [1] -/
  sendSeq : Nat := 0
  /-- 13 R443. SEQ of the next flit expected. [16 bits] [1] -/
  expectSeq : Nat := 0
  /-- 13 R443. A NAK has gone out since the last accepted flit. [1] -/
  nakSent : Bool := false
  /-- 13 R442. The replay buffer, oldest flit first. [64 flits] [1] -/
  replay : List Flit := []
  /-- 13 R442. Flits that wait for room in the replay buffer. [1] -/
  waiting : List Flit := []
  /-- 13 R434. An ACK is owed. [1] -/
  ackOwed : Bool := false
  /-- 13 R434. A NAK is owed. [1] -/
  nakOwed : Bool := false
  /-- 13 R434. The previous block was an ACK or a NAK. [1] -/
  prevAck : Bool := false
  /-- 13 R434. HALT blocks that wait to be sent. [1] -/
  halts : List Ctl := []
  /-- 13 R434. The count of a TICK block that waits to be sent. [64 bits] [1] -/
  tick : Option Nat := none
  /-- 13 R434. MSG fragments that wait to be sent, in order. [1] -/
  msgs : List Ctl := []
  /-- 13 R466. Fragments of the message being received. [1] -/
  frags : List (Nat × Bytes) := []
  /-- 13 R436. Round trips of the ECHO exchanges of this training, in picoseconds. [1] -/
  echoes : List Nat := []
  /-- 13 R440. Lanes that the spare lane pair replaces at the next training. [1] -/
  worn : List Nat := []
  deriving DecidableEq, Repr

/-- What a T1 read of another module is for (R457, R365, R373). -/
inductive ReqUse where
  | fetch (buoy tile : Nat)
  | replica (buoy tile : Nat)
  | repair (buoy tile : Nat)
  deriving DecidableEq, Repr

/-- A transaction this module has issued and not seen answered (R459). -/
structure Request where
  tag : Nat
  target : Nat
  op : Nat
  use : ReqUse
  deriving DecidableEq, Repr

/-- A tile of another module that has arrived for an engine (R457). -/
structure InTile where
  buoy : Nat
  tile : Nat
  bytes : Bytes
  deriving DecidableEq, Repr

/-- A collective or vote under combination (R470): the node's own value and its children's. -/
structure Collect where
  num : Nat
  op : Nat
  own : Option W64
  children : List (Nat × W64)
  deriving DecidableEq, Repr

/-- A run this module sends (R446): its flow, link, SEQ after its last flit, and the plan beam. -/
structure SentRun where
  link : Nat
  flow : Nat
  lastSeq : Nat
  planBeam : Nat
  deriving DecidableEq, Repr

/-- The Soern fabric state. -/
structure Fab where
  /-- 13 R429. The 48 links. [48 links] -/
  links : SMap Link := []
  /-- 13 Table 13.12. FAB_STATUS.DISCOVERY. [2 bits] -/
  discovery : Nat := 0
  /-- 13 Table 13.13. FAB_DOMAIN. [64 bits] -/
  domain : W64 := 0
  /-- 13 Table 13.14. FAB_LOCATION. [64 bits] -/
  location : W64 := 0
  /-- 13 Table 13.16. FAB_LINK_DISABLE. [64 bits] -/
  disable : W64 := 0
  /-- 13 Table 13.17. FAB_LINK_SEL. [64 bits] -/
  linkSel : W64 := 0
  /-- 13 R480. FAB_LINK_INFO as latched. [64 bits] -/
  linkInfo : W64 := 0x0FFF000000000000
  /-- 13 R480. FAB_LINK_ERR as latched. [64 bits] -/
  linkErr : W64 := 0
  /-- 13 Table 13.20. FAB_ROUTE_SEL. [64 bits] -/
  routeSel : W64 := 0
  /-- 13 R480. FAB_ROUTE as latched. [64 bits] -/
  route : W64 := 0
  /-- 13 Table 13.22. FAB_COUNTS.RETRIES. [32 bits] -/
  retries : Nat := 0
  /-- 13 Table 13.22. FAB_COUNTS.HALTS_RELAYED. [16 bits] -/
  halts : Nat := 0
  /-- 13 Table 13.22. FAB_COUNTS.DROPS. [16 bits] -/
  drops : Nat := 0
  /-- 13 R472. What LINK_STATE has told of the other modules, by serial number. [1] -/
  graph : List LinkState := []
  /-- 13 R474. The members of the domain (FAB_STATUS.MODULES). [14 bits] -/
  members : List Member := []
  /-- 13 R474. Numbers reserved to modules that left: serial and number. [1] -/
  reserved : List (Nat × Nat) := []
  /-- 13 R475. The pending membership change (CHANGE_PENDING). [1 bit] -/
  change : Option Change := none
  /-- 13 R475. Requests to join or leave that the master merges into the next change. [1] -/
  joinReqs : List Member := []
  /-- 13 R475. Requests to leave, by module number. [1] -/
  leaveReqs : List Nat := []
  /-- 13 R477. The routing table: module number to first link and hop count. [8 192 entries] [1] -/
  routes : SMap (Nat × Nat) := []
  /-- 13 R464. Flooded messages already seen: origin and ID. [1] -/
  seen : List (Nat × Nat) := []
  /-- 13 R464. The message counter of this module. [32 bits] [1] -/
  nextMsg : Nat := 0
  /-- 13 R459. The next transaction tag. [16 bits] [1] -/
  nextTag : Nat := 0
  /-- 13 R465. Where owners' moorings lie in their T1, as PLACEMENT grants told, by buoy. [1] -/
  ownerAt : SMap Nat := []
  /-- 13 R459. Transactions issued and not answered. [1] -/
  requests : List Request := []
  /-- 13 R457. Tiles of other modules that have arrived for an engine. [1] -/
  inbox : List InTile := []
  /-- 13 R452. The relay store: flits held by 2 × flow + RESP, in order of arrival. [16 384 flits] [1] -/
  relay : SMap (List Flit) := []
  /-- 13 R454. Data of flows that end here and is not yet whole tiles, by flow. [1] -/
  landing : SMap Bytes := []
  /-- 13 R454. Tiles landed of each flow in this plan beam. [1] -/
  landed : SMap Nat := []
  /-- 03 R99. Flits received of each receive run of this beam: link × 256 + first slot. [1] -/
  received : SMap Nat := []
  /-- 03 R99. Slots whose arrival is complete: link and slot. [1] -/
  arrived : List (Nat × Nat) := []
  /-- 13 R453, R457. Flits that wait for the next run of a flow that starts here, by 2 × flow + RESP. [1] -/
  outgoing : SMap (List Flit) := []
  /-- 13 R451. Runs of each flow and hop sent in this step: (flow × 16 + hop) × 2 + RESP. [1] -/
  runs : SMap Nat := []
  /-- 13 R446. Runs sent whose acknowledgement is awaited. [1] -/
  sent : List SentRun := []
  /-- 13 R467. Halt ticks already relayed in this job. [1] -/
  haltSeen : List Nat := []
  /-- 13 R470. Collectives being combined. [1] -/
  collects : List Collect := []
  /-- 13 R459. Flits of a transaction or message being assembled, by link. [1] -/
  assembling : SMap Bytes := []
  deriving DecidableEq, Repr

/-- A tile received on a reduction flow (R490): bucket entry, sending rank, direction, tile, bytes. -/
structure RedTile where
  bucket : Nat
  sender : Nat
  down : Bool
  tile : Nat
  bytes : Bytes
  deriving DecidableEq, Repr

/-- The values a layer's clipping leaves (R508). -/
structure LayerClip where
  clip : W32 := 0
  norm : W32 := 0
  deriving DecidableEq, Repr

/-- The gradient exchange state (chapter 14). -/
structure Rdx where
  /-- 14 Table 14.10. RDX_STATUS.LAST_SKIPPED. [1 bit] -/
  lastSkipped : Bool := false
  /-- 14 Table 14.11. RDX_APPLIED. [64 bits] -/
  applied : Nat := 0
  /-- 14 Table 14.12. RDX_GATE.SKIPPED. [32 bits] -/
  skipped : Nat := 0
  /-- 14 Table 14.12. RDX_GATE.RUN. [32 bits] -/
  run : Nat := 0
  /-- 14 R500. Epoch words by shard, for the shards of which this member holds one. [64 bits] [1] -/
  epochs : SMap (Option Nat) := []
  /-- 14 R504. Complete bits by shard. [1] -/
  complete : SMap Bool := []
  /-- 14 Table 14.14. RDX_EPOCH_SEL. [64 bits] -/
  epochSel : W64 := 0
  /-- 14 Table 14.15. RDX_EPOCH as latched. [64 bits] -/
  epochLatch : W64 := 0
  /-- 14 Table 14.16. RDX_LAYER_SEL. [64 bits] -/
  layerSel : W64 := 0
  /-- 14 Table 14.17. RDX_LAYER_NORM as latched. [64 bits] -/
  normLatch : W64 := 0
  /-- 14 Table 14.18. RDX_LAYER_LR as latched. [64 bits] -/
  lrLatch : W64 := 0
  /-- 14 R494. Layer pairs of this step. [2 × 32 bits] [1] -/
  pairs : SMap (W32 × W32) := []
  /-- 14 R508. Clip factor and norm of each layer in this step. [1] -/
  clips : SMap (Option LayerClip) := []
  /-- 14 Table 14.17. Clip factor and norm of each layer in the last completed step. [1] -/
  lastClips : SMap LayerClip := []
  /-- 14 R506. The global clip factor of this step (CLIP 1). [1] -/
  globalClip : Option LayerClip := none
  /-- 14 R513. The gate's OR result, once known. [1] -/
  gate : Option Bool := none
  /-- 14 R490. Tiles received on reduction flows. [1] -/
  tiles : List RedTile := []
  /-- 14 R490. Tiles combined of each bucket entry in this step. [1] -/
  combined : SMap Nat := []
  /-- 14 R491. Bucket entries whose result held a non-finite element in this step. [1] -/
  nonfin : List Nat := []
  /-- 14 Table 14.19. RDX_COUNTS.BUCKETS. [32 bits] -/
  buckets : Nat := 0
  /-- 14 Table 14.19. RDX_COUNTS.NONFIN_BUCKETS. [32 bits] -/
  nonfinBuckets : Nat := 0
  /-- 14 R491. The own tile the RDE waits for. [1] -/
  held : Option (Nat × Nat) := none
  deriving DecidableEq, Repr

/-- A capture taken at the tick of plan beam 0 and copied in the CAPTURE beams (R539). -/
structure Capture where
  checkpoint : Bool
  jobStep : Nat
  applied : Nat
  orbitOut : Nat
  orbitApplied : Nat
  anchorEpoch : Nat
  epochs : List (Nat × Nat)
  numerics : Bytes
  deriving DecidableEq, Repr

/-- A checkpoint object as the restore has validated it (R542). -/
structure Restored where
  jobStep : Nat
  applied : Nat
  orbitOut : Nat
  orbitApplied : Nat
  anchorEpoch : Nat
  epochs : List (Nat × Nat)
  numerics : Option Bytes
  deriving DecidableEq, Repr

/-- Orbits, snapshots and checkpoints (chapter 15). -/
structure Orbit where
  /-- 15 Table 15.6. RDX_ORBIT_STATUS.OUT. [24 bits] -/
  out : Nat := 0
  /-- 15 Table 15.6. RDX_ORBIT_STATUS.APPLIED. [24 bits] -/
  applied : Nat := 0
  /-- 15 Table 15.6. RDX_ORBIT_STATUS.ANCHOR_BUSY. [1 bit] -/
  anchorBusy : Bool := false
  /-- 15 Table 15.6. RDX_ORBIT_STATUS.IN_READY. [1 bit] -/
  inReady : Bool := false
  /-- 15 Table 15.6. RDX_ORBIT_STATUS.OUT_WRITTEN. [1 bit] -/
  outWritten : Bool := false
  /-- 15 R531. The orbit whose incoming packets are being validated. [1] -/
  staged : Option Nat := none
  /-- 15 R530. Last orbit whose outgoing packets the host has taken. [1] -/
  taken : Nat := 0
  /-- 15 R539. Last orbit whose ORBIT_OUT has run. [1] -/
  lastOut : Nat := 0
  /-- 15 R535. EPOCH of the anchor version in force. [32 bits] [1] -/
  anchorEpoch : Nat := 0
  /-- 15 R523. Orbit that ORBIT_OUT and PACK serve in this step. [1] -/
  dueOut : Option Nat := none
  /-- 15 R523. Orbit that UNPACK and ORBIT_IN serve in this step. [1] -/
  dueIn : Option Nat := none
  /-- 15 R528. Job step whose gate closed the orbit of dueOut. [1] -/
  closeStep : Nat := 0
  /-- 15 R525. PACK, UNPACK and CAPTURE work of this step that has ended, as flag bits. [1] -/
  workDone : Nat := 0
  /-- 15 Table 15.8. RDX_CAPTURE.CKPT_WRITING. [1 bit] -/
  ckptWriting : Bool := false
  /-- 15 Table 15.8. RDX_CAPTURE.SNAP_HELD. [1 bit] -/
  snapHeld : Bool := false
  /-- 15 Table 15.8. RDX_CAPTURE.SNAP_RELEASE. [1 bit] -/
  snapRelease : Bool := false
  /-- 15 Table 15.8. RDX_CAPTURE.CKPT_REQ. [1 bit] -/
  ckptReq : Bool := false
  /-- 15 Table 15.8. RDX_CAPTURE.SNAP_REQ. [1 bit] -/
  snapReq : Bool := false
  /-- 15 R537. The captures due in this step. [1] -/
  due : List Capture := []
  /-- 15 R540. The checkpoint whose capture completed and that is being written. [1] -/
  writing : Option Capture := none
  /-- 15 R540. The snapshot whose deep copy is being written. [1] -/
  snapWriting : Option Capture := none
  /-- 15 Table 15.9. RDX_CKPT_LAST. [58 bits] -/
  ckptLast : W64 := 0
  /-- 15 Table 15.11. RDX_RESTORE_STATUS.STATE. [2 bits] -/
  restore : Nat := 0
  /-- 15 Table 15.11. RDX_RESTORE_STATUS.STEP. [32 bits] -/
  restoreStep : Nat := 0
  /-- 15 R542. Object number of the restore. [36 bits] [1] -/
  restoreObj : Nat := 0
  /-- 15 R543. What the next commit takes from the loaded checkpoint. [1] -/
  restored : Option Restored := none
  deriving DecidableEq, Repr

end Sys2Proof
end

