-- ==== Sys2Proof/Types/Image.lean ====
section
/-! DEFINITION. The Emsuong image as structured data (chapter 03, with the entries that chapters 04, 06, 07, 09, 10, 13, 14
and 15 define) and the staging state of the IMG block. -/
namespace Sys2Proof

/-- An ENGINES entry (R96, Table 3.6); its identifier is its place in the list. -/
structure EngineEntry where
  kind : Nat
  ldie : Nat
  unit : Nat
  chain : Nat
  deriving DecidableEq, Repr

/-- A ROUTES entry (R97). -/
structure RouteEntry where
  id : Nat
  src : Nat
  dst : Nat
  kind : Nat
  hops : Nat
  deriving DecidableEq, Repr

/-- A BANKS entry (R314, Table 9.1). -/
structure BankEntry where
  ldie : Nat
  first : Nat
  count : Nat
  words : Nat
  mask : Nat
  power : Nat
  fromBeam : Nat
  deriving DecidableEq, Repr

/-- A record of the PLANS beam index (03, PLANS). -/
structure BeamRec where
  first : Nat
  count : Nat
  hold : Nat
  flags : Nat
  deriving DecidableEq, Repr

/-- A task entry (R98, Table 3.8); the payload's 256 bits are one number, bit 0 the lowest bit of byte 0x20. -/
structure TaskEntry where
  release : Nat
  le : Nat
  idx : Nat
  deps : List Nat
  accFirst : Nat
  accCount : Nat
  payload : Nat
  deriving DecidableEq, Repr

/-- An access record (R100). -/
structure Access where
  buoy : Nat
  first : Nat
  count : Nat
  budget : Nat
  mode : Nat
  deriving DecidableEq, Repr

/-- The PLANS section. -/
structure Plans where
  beams : List BeamRec
  holds : List (List Nat)
  tasks : List TaskEntry
  accs : List Access
  deriving DecidableEq, Repr

/-- A BUOYS entry (R101, Table 3.10, with the residence fields of Table 10.3). -/
structure BuoyEntry where
  id : Nat
  flags : Nat
  size : Nat
  format : Nat
  shape : Nat
  layer : Nat
  ownerRank : Nat
  initOffset : Nat
  initTier : Nat
  cls : Nat
  /-- bytes 0x22 to 0x39, lowest first -/
  residence : Bytes
  deriving DecidableEq, Repr

/-- A class policy (R142, Table 4.6). -/
structure ClassPolicy where
  cls : Nat
  round : Nat
  scaling : Nat
  margin : Int
  deriving DecidableEq, Repr

/-- An accumulation policy (R217, Table 6.4). -/
structure AccPolicy where
  policy : Nat
  mode : Nat
  budget : Nat
  onExcess : Nat
  maxChain : Nat
  deriving DecidableEq, Repr

/-- The NUMERIC section. -/
structure Numeric where
  seed : W64
  classes : List ClassPolicy
  accs : List AccPolicy
  deriving DecidableEq, Repr

/-- A vector program descriptor (R242, Table 7.2). -/
structure ProgDesc where
  update : Bool
  count : Nat
  first : Nat
  deriving DecidableEq, Repr

/-- The UPDATE section: descriptors, and every entry of the body as a word (the first ones are the descriptors). -/
structure Update where
  progs : List ProgDesc
  words : List W64
  deriving DecidableEq, Repr

/-- A slot entry (R448, Table 13.4). -/
structure SlotEntry where
  link : Nat
  first : Nat
  count : Nat
  recv : Bool
  hop : Nat
  resp : Bool
  flow : Nat
  peer : Nat
  deriving DecidableEq, Repr

/-- A flow descriptor (R449, Table 13.5). -/
structure Flow where
  kind : Nat
  hops : Nat
  le : Nat
  src : Nat
  dst : Nat
  srcBuoy : Nat
  dstBuoy : Nat
  srcTile : Nat
  dstTile : Nat
  count : Nat
  deriving DecidableEq, Repr

/-- The SLOTS section (R447): plan beams, one (first, count) record per plan beam, slot entries, flow table. -/
structure Slots where
  planBeams : Nat
  index : List (Nat × Nat)
  entries : List SlotEntry
  flows : List Flow
  deriving DecidableEq, Repr

/-- A TREE_NODE entry (Table 14.2). -/
structure TreeNode where
  tree : Nat
  pos : Nat
  parent : Nat
  deriving DecidableEq, Repr

/-- A BUCKET entry (Table 14.3). -/
structure Bucket where
  wire : Nat
  tree : Nat
  buoy : Nat
  first : Nat
  count : Nat
  root : Nat
  flowBase : Nat
  shard : Nat
  layer : Nat
  beam : Nat
  deriving DecidableEq, Repr

/-- An EPOCH_PAIR entry (Table 14.4). -/
structure EpochPair where
  shard : Nat
  cur : Nat
  next : Nat
  half0 : Nat
  half1 : Nat
  deriving DecidableEq, Repr

/-- A LAYER entry (Table 14.5). -/
structure LayerEntry where
  layer : Nat
  tau : W32
  lrMult : W32
  wd : W32
  clipBeam : Nat
  deriving DecidableEq, Repr

/-- A SCHEDULE entry (Table 14.6). -/
structure Schedule where
  shape : Nat
  start : W32
  peak : W32
  min : W32
  warmup : Nat
  decay : Nat
  deriving DecidableEq, Repr

/-- The EXCHANGE section (R482); `kinds` holds the KIND of every entry in order. -/
structure Exchange where
  kinds : List Nat
  mode : Nat
  clip : Nat
  arith : Nat
  normBeam : Nat
  bucketBytes : Nat
  globalTau : W32
  nodes : List TreeNode
  buckets : List Bucket
  pairs : List EpochPair
  layers : List LayerEntry
  schedules : List Schedule
  deriving DecidableEq, Repr

/-- An ORBIT_SET entry (Table 15.3). -/
structure OrbitSet where
  layer : Nat
  delta : Nat
  inBuoy : Nat
  anchor : Nat
  stage : Nat
  outPkt : Nat
  inPkt : Nat
  deriving DecidableEq, Repr

/-- The ORBIT section (R526). -/
structure OrbitSec where
  h : Nat
  d : Nat
  snapEvery : Nat
  ckptEvery : Nat
  outArea : Nat
  inArea : Nat
  snapHold : Nat
  snapBytes : Nat
  ckptHold : Nat
  ckptMib : Nat
  snapDeep : Bool
  sets : List OrbitSet
  deriving DecidableEq, Repr

/-- A REGS entry (R102). -/
structure RegsEntry where
  offset : Nat
  value : W64
  deriving DecidableEq, Repr

/-- A whole image: the header fields the device acts on (R89) and its sections (R94). -/
structure Image where
  kind : Nat
  jobId : W64
  memberRank : Nat
  commitBeam : Nat
  periodClk : Nat
  eclipseClk : Nat
  groupDigest : Bytes
  group : List Nat
  logicalDies : Nat
  engines : List EngineEntry
  routes : List RouteEntry
  banks : List BankEntry
  plans : Plans
  slots : Slots
  buoys : List BuoyEntry
  numeric : Numeric
  update : Update
  exchange : Exchange
  orbit : Option OrbitSec
  regs : List RegsEntry
  /-- section types a delta image carries (R120) -/
  carried : List Nat
  deriving DecidableEq, Repr

/-- The stages of Table 3.11 (R104). -/
inductive Stage where
  | empty | filling | checking | checked | armed | failed
  deriving DecidableEq, Repr

/-- The kinds of staged set that IMG_STATUS.KIND reports (Table 3.13). -/
inductive StageKind where
  | none | full | delta | regs
  deriving DecidableEq, Repr

/-- The staging state (chapter 03). -/
structure ImgState where
  /-- 03 R104. IMG_STATUS.STAGE. [4 bits] -/
  stage : Stage := .empty
  /-- 03 Table 3.13. IMG_STATUS.KIND. [2 bits] -/
  kind : StageKind := .none
  /-- 03 R105. The staging area's appended bytes; IMG_STATUS.FILL_BYTES is their number. [2 GiB] [1] -/
  staging : Bytes := []
  /-- 03 R104. The live area's bytes. [2 GiB] [1] -/
  liveBytes : Bytes := []
  /-- 03 Table 3.13. IMG_STATUS.LAST_EVENT. [16 bits] -/
  lastEvent : Nat := 0
  /-- 03 R105. An IMG_LOAD in progress: source offset and length in the host region (LOAD_BUSY). [1] -/
  load : Option (Nat × Nat) := none
  /-- 03 R112. IMG_CHECK_DETAIL: event, section, entry. [64 bits] -/
  detail : Nat × Nat × Nat := (0, 0, 0)
  /-- 03 R112. The merged set that passed its check, live after commit. [1] -/
  checked : Option Image := none
  /-- 03 R118. Digest of the staged image as it was checked. [512 bits] [1] -/
  checkedDigest : Bytes := []
  /-- 03 R115. The binding found at the check: physical die of each logical die. [1] -/
  checkedBinding : List Nat := []
  /-- 03 R117. The commit beam the set was armed for. [64 bits] [1] -/
  armedBeam : Nat := 0
  /-- 03 R118. This member's armed vote, as it was sampled. [1] -/
  ownArm : Option Bool := none
  /-- 03 R123. This member's release vote, as it was sampled. [1] -/
  ownRelease : Option Bool := none
  /-- 03 R119. This member's armed vote has been sent. [1] -/
  voteSent : Bool := false
  /-- 02 R84. Result of the armed vote once it is known. [1] -/
  voteResult : Option Bool := none
  /-- 03 R122. IMG_STATUS.LIVE_VALID, with the live image. [1] -/
  live : Option Image := none
  /-- 03 R93. IMG_LIVE_DIGEST0 to 7. [512 bits] -/
  liveDigest : Bytes := []
  /-- 03 R121. IMG_COMMITTED.TICK. [64 bits] -/
  committed : Nat := 0
  /-- 03 R115. IMG_BINDING.MAP: physical die of each logical die, none bound at reset. [32 bits] -/
  binding : List Nat := []
  /-- 03 R123. The pending release beam (RELEASE_PENDING). [1] -/
  release : Option Nat := none
  /-- 03 R123. Result of the release vote once it is known. [1] -/
  releaseResult : Option Bool := none
  deriving DecidableEq, Repr

/-- The 166 RWS registers of Table 19.5 (R637): one such set is live, one is the shadow. -/
structure Rws where
  /-- 02 Table 2.6. BEAM_PERIOD. [64 bits] -/
  period : W64 := 0x000000000005B8D8
  /-- 02 Table 2.7. BEAM_ECLIPSE. [64 bits] -/
  eclipse : W64 := 0x0000000000002EE0
  /-- 02 Table 2.12. BEAM_HOLD_LIMIT. [64 bits] -/
  holdLimit : W64 := 0x0000000000000FA0
  /-- 10 Table 10.12. PLE_POLICY. [64 bits] -/
  plePolicy : W64 := 0x0000000300001770
  /-- 04 Table 4.12. RDX_NUM_POLICY. [64 bits] -/
  numPolicy : W64 := 0x0000001000000100
  /-- 14 Table 14.13. RDX_GATE_POLICY. [64 bits] -/
  gatePolicy : W64 := 0x0000000000000010
  /-- 16 Table 16.31. FWL_WIN0_RANGE to FWL_WIN63_RANGE. [64 × 64 bits] -/
  fwlRange : SMap W64 := []
  /-- 16 Table 16.32. FWL_WIN0_PERM to FWL_WIN63_PERM. [64 × 64 bits] -/
  fwlPerm : SMap W64 := []
  /-- 16 Table 16.21. APT_LW0_RANGE to APT_LW15_RANGE. [16 × 64 bits] -/
  lwRange : SMap W64 := []
  /-- 16 Table 16.22. APT_LW0_CTRL to APT_LW15_CTRL. [16 × 64 bits] -/
  lwCtrl : SMap W64 := []
  deriving DecidableEq, Repr

end Sys2Proof
end

