-- ==== Sys2Proof/Types/Engine.lean ====
section
/-! DEFINITION. The engines of a compute die (chapters 05 to 08): accumulator memory, vector registers, contexts, status. -/
namespace Sys2Proof

/-- A tile that an engine waits for (R181, R253, R276). -/
structure HeldTile where
  buoy : Nat
  tile : Nat
  deriving DecidableEq, Repr

/-- The task an engine is running: its entry, its accesses with CUR and NEXT resolved (R501), its plan beam and start offset. -/
structure RunTask where
  task : TaskEntry
  accs : List Access
  planBeam : Nat
  start : Nat
  deriving DecidableEq, Repr

/-- The accumulator contents of one slot set (R202, R203). -/
structure SlotSet where
  mode : Nat := 0
  s : SMap Nat := []
  c : SMap Nat := []
  lambda : Int := 0
  attempt : Nat := 0
  deriving DecidableEq, Repr

/-- A stream tile (R192): its bytes, the sending logical engine and its task index. -/
structure StreamTile where
  bytes : Bytes
  sender : Nat
  idx : Nat
  deriving DecidableEq, Repr

/-- ME_ACC_LAST (Table 6.7). -/
structure AccLast where
  taskIndex : Nat := 0
  lambda : Int := 0
  accSlot : Nat := 0
  attempt : Nat := 0
  excess : Bool := false
  exhausted : Bool := false
  rerun : Bool := false
  nonfinInput : Bool := false
  nonfinResult : Bool := false
  saturated : Bool := false
  deriving DecidableEq, Repr

/-- One matrix engine. -/
structure MeUnit where
  /-- 05 Table 5.12. ME_STATUS.TASK_INDEX. [16 bits] -/
  taskIndex : Nat := 0
  /-- 05 Table 5.12. ME_STATUS.ACC_SLOT. [8 bits] -/
  accSlot : Nat := 0
  /-- 05 Table 5.12. ME_STATUS.REPLAYS. [4 bits] -/
  replays : Nat := 0
  /-- 05 R181. The tile the task is held for (ME_STATUS.HELD). [1 bit] -/
  held : Option HeldTile := none
  /-- 05 Table 5.12. ME_STATUS.PHASE. [3 bits] -/
  phase : Nat := 0
  /-- 05 Table 5.13. ME_BUSY. [64 bits] -/
  busy : Nat := 0
  /-- 05 Table 5.14. ME_MACS. [64 bits] -/
  macs : Nat := 0
  /-- 05 Table 5.15. ME_STALL.FETCH. [32 bits] -/
  stallFetch : Nat := 0
  /-- 05 Table 5.15. ME_STALL.HELD. [32 bits] -/
  stallHeld : Nat := 0
  /-- 05 Table 5.16. ME_COUNTS.CRC_FAIL. [32 bits] -/
  crcFail : Nat := 0
  /-- 05 Table 5.16. ME_COUNTS.REPLAYS. [32 bits] -/
  replayCount : Nat := 0
  /-- 06 Table 6.7. ME_ACC_LAST. [64 bits] -/
  last : AccLast := {}
  /-- 06 Table 6.8. ME_ACC_COUNTS.EXHAUSTED. [16 bits] -/
  exhausted : Nat := 0
  /-- 06 Table 6.8. ME_ACC_COUNTS.RERUNS. [16 bits] -/
  reruns : Nat := 0
  /-- 06 Table 6.8. ME_ACC_COUNTS.NONFIN_TASKS. [32 bits] -/
  nonfinTasks : Nat := 0
  /-- 06 R202. The accumulator slots, by first slot of a set; cleared by a module reset (R39). [8 MiB] -/
  slots : SMap SlotSet := []
  /-- 05 R177. The number of the loss since which the slots are undefined; 0 after a module reset. [1] -/
  undefined : Nat := 0
  /-- 02 R65. The running task. [1] -/
  run : Option RunTask := none
  /-- 05 R181. Offset at which the hold began. [1] -/
  heldAt : Nat := 0
  deriving DecidableEq, Repr

/-- A write buffer of a vector engine (R255): the tile it is open for and its 16 384 elements. -/
structure WBuf where
  access : Nat
  tile : Nat
  elems : SMap W32
  deriving DecidableEq, Repr

/-- One level of the loop stack: first body word, words in the body, iterations left, and the counter's index. -/
structure LoopFrame where
  first : Nat
  body : Nat
  count : Nat
  index : Nat
  deriving DecidableEq, Repr

/-- The state of a vector task (Table 7.1): none of it survives the task (R237). -/
structure VeRegs where
  /-- 07 R236. Vector registers v0 to v31, by 4096 × register + byte. [32 × 4 KiB] -/
  v : SMap Byte := []
  /-- 07 R236. Scalar registers s0 to s15. [16 × 32 bits] -/
  s : SMap W32 := []
  /-- 07 R236. Mask registers m0 to m3, set bits by 4096 × register + bit. [4 × 4 096 bits] -/
  m : SMap Bool := []
  /-- 07 R236. VL. [13 bits] -/
  vl : Nat := 0
  /-- 07 R236. Loop counters L0 to L3. [4 × 32 bits] -/
  l : SMap W32 := []
  /-- 07 R236. Read buffers b0 to b3: tiles with headers, verified. [4 tiles] -/
  rb : SMap Bytes := []
  /-- 07 R236. Write buffers w0 to w3. [4 × 16 384 × 32 bits] -/
  wb : SMap (Option WBuf) := []
  /-- 07 R270. The sticky flags NV, DZ, OF, NF, LC. [5 bits] -/
  flags : BitVec 5 := 0
  /-- 07 Table 7.12. The word index of the next instruction. [16 bits] -/
  pc : Nat := 0
  /-- 07 R249. The active loops, innermost first. [1] -/
  loops : List LoopFrame := []
  deriving DecidableEq, Repr

/-- One vector engine. -/
structure VeUnit where
  /-- 07 Table 7.12. VE_STATUS.TASK_INDEX. [16 bits] -/
  taskIndex : Nat := 0
  /-- 07 Table 7.12. VE_STATUS.PC. [16 bits] -/
  pcLast : Nat := 0
  /-- 07 R253. The tile the task is held for (VE_STATUS.HELD). [1 bit] -/
  held : Option HeldTile := none
  /-- 07 Table 7.12. VE_STATUS.PHASE. [3 bits] -/
  phase : Nat := 0
  /-- 07 Table 7.13. VE_FLAGS.ACCUM. [5 bits] -/
  accum : BitVec 5 := 0
  /-- 07 Table 7.13. VE_FLAGS.LAST. [5 bits] -/
  lastFlags : BitVec 5 := 0
  /-- 07 Table 7.14. VE_BUSY. [64 bits] -/
  busy : Nat := 0
  /-- 07 Table 7.15. VE_COUNTS.CRC_FAIL. [32 bits] -/
  crcFail : Nat := 0
  /-- 07 Table 7.15. VE_COUNTS.TWRITES. [32 bits] -/
  twrites : Nat := 0
  /-- 07 Table 7.16. VE_FAULT: task index, word index, subcode. [64 bits] -/
  fault : Nat × Nat × Nat := (0, 0, 0)
  /-- 07 R252. The stream buffer, oldest first. [2 tiles] [1] -/
  stream : List StreamTile := []
  /-- 07 R236. The architectural state of the running task. -/
  regs : VeRegs := {}
  /-- 02 R65. The running task. [1] -/
  run : Option RunTask := none
  deriving DecidableEq, Repr

/-- One sequence context of an attention engine (R284): running maxima, sums and accumulators as FP32C pairs. -/
structure AeCtx where
  isOpen : Bool := false
  m : List W32 := []
  l : List (W32 × W32) := []
  o : List (List (W32 × W32)) := []
  o2 : List (List (W32 × W32)) := []
  deriving DecidableEq, Repr

/-- An attention, gather-scatter or layout engine (08, registers). -/
structure SeqUnit where
  /-- 08 Tables 8.10, 8.13, 8.15. TASK_INDEX. [16 bits] -/
  taskIndex : Nat := 0
  /-- 08 Tables 8.10, 8.15. AE_STATUS.BLOCK or LYE_STATUS.TILE. [16 bits] -/
  item : Nat := 0
  /-- 08 R276. The tile the task is held for (HELD). [1 bit] -/
  held : Option HeldTile := none
  /-- 08 Tables 8.10, 8.13, 8.15. PHASE. [3 bits] -/
  phase : Nat := 0
  /-- 08 Table 8.11. AE_BUSY. [64 bits] -/
  busy : Nat := 0
  /-- 08 Tables 8.12, 8.14, 8.16. CRC_FAIL. [32 bits] -/
  crcFail : Nat := 0
  /-- 08 Tables 8.12, 8.14, 8.16. SKIPPED, PAD_ROWS or TILES. [32 bits] -/
  count : Nat := 0
  /-- 08 R284. The sequence contexts of an attention engine, CTX_OPEN among them. [8 × 512 KiB] [1] -/
  ctx : SMap AeCtx := []
  /-- 02 R65. The running task. [1] -/
  run : Option RunTask := none
  deriving DecidableEq, Repr

end Sys2Proof
end

