-- ==== Sys2Proof/Types/Memory.lean ====
section
/-! DEFINITION. The memories of the module: tile stores (chapter 09), placement (10), local LPDDR5X (11), deep tier (12). -/
namespace Sys2Proof

/-- What TST_OWNERb holds (Table 9.14). -/
structure BankOwner where
  power : Nat := 0
  words : Nat := 0
  count : Nat := 0
  first : Nat := 0
  mask : Nat := 0
  deriving DecidableEq, Repr

/-- One tile store: 0 to 7 on the compute dies, 8 on the hub (R311). -/
structure TileStore where
  /-- 09 R311. The cells, by physical bank × 4 MiB + byte; cleared by a module reset (R39). [128 MiB] -/
  cells : SMap Byte := []
  /-- 09 R329, 10 R345. Words whose contents are undefined, by bank × 65 536 + word: the number of the loss, 0 where defined. [2] -/
  undef : SMap Nat := []
  /-- 09 Table 9.14. TST_OWNER0 to TST_OWNER31. [32 × 64 bits] -/
  owner : SMap BankOwner := []
  /-- 09 Table 9.6. TST_STATUS.FAILING. [32 bits] -/
  failing : W32 := 0
  /-- 09 Table 9.7. TST_ECC.CORRECTED. [32 bits] -/
  corrected : Nat := 0
  /-- 09 Table 9.7. TST_ECC.UNCORRECTABLE. [32 bits] -/
  uncorrectable : Nat := 0
  /-- 09 Table 9.8. TST_TEST_CTRL. [64 bits] -/
  testCtrl : W64 := 1
  /-- 09 Table 9.9. TST_TEST_STATUS.PASSES. [32 bits] -/
  passes : Nat := 0
  /-- 09 Table 9.9. TST_TEST_STATUS.REGION. [6 bits] -/
  region : Nat := 0
  /-- 09 Table 9.9. TST_TEST_STATUS.BANK. [5 bits] -/
  bank : Nat := 0
  /-- 09 Table 9.9. TST_TEST_STATUS.PHASE. [3 bits] -/
  phase : Nat := 0
  /-- 09 R332. The save buffer: contents of the region under test. [64 KiB] [1] -/
  save : SMap Byte := []
  /-- 09 R333. Beams left before the next region. [16 bits] [1] -/
  gap : Nat := 0
  /-- 09 Table 9.10. TST_LANE_ADDR. [64 bits] -/
  laneAddr : W64 := 0
  /-- 09 R334. The region that failed its test stays redirected to the save buffer: its first word, by bank × 65 536 + word. [1] -/
  failedRegion : Option Nat := none
  /-- 09 R331. A region's test is under way. [1] -/
  testing : Bool := false
  /-- 09 Table 9.15. TST_CONFLICT0 to TST_CONFLICT11. [12 × 64 bits] -/
  conflict : SMap (Nat × Nat) := []
  deriving DecidableEq, Repr

/-- A space that can hold a buoy (R336 to R340). -/
inductive Place where
  /-- a T0 space: tile store, first logical bank and bank count of the partition (R312), first word -/
  | t0 (store first count word : Nat)
  /-- a T1 space at a local offset -/
  | t1 (offset : Nat)
  /-- the owner's authoritative mooring on another module -/
  | owner (modNum : Nat)
  /-- a deep-tier object -/
  | deep (obj : Nat)
  deriving DecidableEq, Repr

/-- A mooring (R339): where the buoy lies, and whether its tiles are held compressed (R369). -/
structure Mooring where
  place : Place
  compressed : Bool
  deriving DecidableEq, Repr

/-- PLE_BUOY_INFO.STATE (Table 10.14). -/
inductive BuoyPhase where
  | free | moored | moving | repairing | lost
  deriving DecidableEq, Repr

/-- What a move is for (R360). -/
inductive MoveKind where
  | promotion | eviction | fill | writeBack | replica | repair
  deriving DecidableEq, Repr

/-- A move in progress (R357): its shadow mooring, the tiles copied so far and those marked to be copied again (R358). -/
structure Move where
  kind : MoveKind
  dest : Mooring
  next : Nat
  marked : List Nat
  paused : Bool
  deriving DecidableEq, Repr

/-- A buoy-table entry (R339). -/
structure BuoyState where
  phase : BuoyPhase := .free
  auth : Mooring := ⟨.t1 0, false⟩
  home : Place := .t1 0
  retained : List Mooring := []
  move : Option Move := none
  lastEpoch : Nat := 0
  deriving DecidableEq, Repr

/-- A repair requested by engines that wait on a tile (R373, R375); an engine is named by its code of R617. -/
structure RepairReq where
  buoy : Nat
  tile : Nat
  waiters : List Nat
  since : Nat
  deriving DecidableEq, Repr

/-- A window fill or write-back of the current plan beam (R344, R345). -/
structure WindowJob where
  buoy : Nat
  fill : Bool
  planBeam : Nat
  left : Nat
  deriving DecidableEq, Repr

/-- The counters of PLE_MOVES to PLE_CODEC (Tables 10.16 to 10.23). -/
structure PleCounts where
  promotions : Nat := 0
  demotions : Nat := 0
  fills : Nat := 0
  writebacks : Nat := 0
  redirected : Nat := 0
  stayed : Nat := 0
  fromRetained : Nat := 0
  fromOwner : Nat := 0
  fromDeep : Nat := 0
  failed : Nat := 0
  maxBeam : Nat := 0
  totalClocks : Nat := 0
  better : Nat := 0
  atBudget : Nat := 0
  bytes : Nat := 0
  encoded : Nat := 0
  decoded : Nat := 0
  deriving DecidableEq, Repr

/-- The placement engine (chapter 10). -/
structure Ple where
  /-- 10 R339. The buoy table, by BUOY_ID. [1] -/
  table : SMap BuoyState := []
  /-- 10 R354. PLE_LOOKAHEAD.FIRST. [32 bits] -/
  lookFirst : Nat := 0
  /-- 10 R354. PLE_LOOKAHEAD.LAST. [32 bits] -/
  lookLast : Nat := 0
  /-- 10 Table 10.13. PLE_BUOY_SEL. [64 bits] -/
  sel : W64 := 0
  /-- 10 R380. PLE_BUOY_INFO as latched. [64 bits] -/
  info : W64 := 0
  /-- 10 R380. PLE_BUOY_MOOR as latched. [64 bits] -/
  moor : W64 := 0
  /-- 10 Tables 10.16 to 10.23. PLE_MOVES to PLE_CODEC. [8 × 64 bits] -/
  counts : PleCounts := {}
  /-- 10 R375. Repair clocks of this beam. [1] -/
  repairBeam : Nat := 0
  /-- 10 R373. Repairs asked for, oldest first. [1] -/
  repairs : List RepairReq := []
  /-- 10 R359. Old spaces that are freed at the next beam tick. [1] -/
  toFree : List (Nat × Mooring) := []
  /-- 10 R366. SHARED buoys this owner wrote in the current plan beam. [1] -/
  sharedWritten : List Nat := []
  /-- 10 R366. Buoys whose replica is discarded at the next beam tick. [1] -/
  invalid : List Nat := []
  /-- 10 R346. Fills and write-backs of the current plan beam. [1] -/
  windows : List WindowJob := []
  deriving DecidableEq, Repr

/-- What LPD_UNIT_INFO reports of one unit (Table 11.8, R410). -/
structure UnitInfo where
  readEye : Nat := 0
  writeEye : Nat := 0
  refresh : Nat := 0
  retries : Nat := 0
  eccWrite : Bool := false
  eccRead : Bool := false
  deriving DecidableEq, Repr

/-- An entry of a write-combining buffer (R397): its line, its valid bytes and the logical engines whose tasks wrote it. -/
structure WcbEntry where
  line : Nat
  bytes : SMap Byte
  writers : List Nat
  deriving DecidableEq, Repr

/-- Local memory (chapter 11). -/
structure Lpd where
  /-- 11 R384. U, the in-service units in ascending order (LPD_STATUS.UNITS, LPD_INSERVICE0 to 3). [256 bits] -/
  units : List Nat := []
  /-- 11 R390. Units failed since the last module reset (LPD_STATUS.FAILED). [256 bits] [1] -/
  failed : List Nat := []
  /-- 11 Table 11.8. Units out of service since module reset with their die fully fenced. [256 bits] [1] -/
  fenced : List Nat := []
  /-- 11 R394. Packages without read link ECC (LPD_STATUS.NO_LINK_ECC). [16 bits] [1] -/
  noEcc : List Nat := []
  /-- 11 Table 11.8. The state of each unit. [256 × 64 bits] -/
  info : SMap UnitInfo := []
  /-- 11 R385. T1 bytes written since T1 was lost or zeroed, by local offset. [1 152 GiB] [2] -/
  cells : SMap Byte := []
  /-- 01 R39. The number of the loss since which unlisted bytes of T1 are undefined; 0 where T1 has been written with zeros. [2] -/
  generation : Nat := 1
  /-- 11 R397. The write-combining buffer of each controller, oldest entry first. [16 × 512 × 64 bytes] [1] -/
  wcb : SMap (List WcbEntry) := []
  /-- 11 R405. The data group whose turn it is, by package. [2 bits] [1] -/
  turn : SMap Nat := []
  /-- 11 R405. Consecutive recalibration units missed, by 4 × package + data group. [1] -/
  missed : SMap Nat := []
  /-- 11 R402. The packages are in self-refresh. [1] -/
  selfRefresh : Bool := false
  /-- 11 Table 11.7. LPD_UNIT_SEL. [64 bits] -/
  sel : W64 := 0
  /-- 11 R410. LPD_UNIT_INFO as latched. [64 bits] -/
  latch : W64 := 0
  /-- 11 Table 11.9. LPD_ERRORS.LINK_CORRECTED. [32 bits] -/
  corrected : Nat := 0
  /-- 11 Table 11.9. LPD_ERRORS.RETRIES. [32 bits] -/
  retries : Nat := 0
  /-- 11 Table 11.10. LPD_WCB.MERGE_READS. [32 bits] -/
  mergeReads : Nat := 0
  /-- 11 Table 11.10. LPD_WCB.RECORD_FLUSHES. [32 bits] -/
  recordFlushes : Nat := 0
  /-- 11 Table 11.11. LPD_ECLIPSE.MAX_FLUSH. [16 bits] -/
  maxFlush : Nat := 0
  /-- 11 Table 11.11. LPD_ECLIPSE.MAX_WORK. [16 bits] -/
  maxWork : Nat := 0
  /-- 11 Table 11.11. LPD_ECLIPSE.MAX_MISSED. [16 bits] -/
  maxMissed : Nat := 0
  deriving DecidableEq, Repr

/-- An object of the deep tier (R415, Table 12.1): a tile not written yet is none; `content` is what a snapshot or checkpoint holds
ahead of its tiles (R539). -/
structure DeepObj where
  num : Nat
  area : Nat
  c0 : Nat
  format : Nat
  jobId : W64
  buoy : Nat
  epoch : Nat
  size : Nat
  tileCount : Nat
  tiles : SMap (Option Bytes)
  content : Bytes
  created : Nat
  valid : Bool
  deriving DecidableEq, Repr

/-- The deep tier (chapter 12); its media are kept without power. -/
structure Deep where
  /-- 12 R413. V, the in-service channels (DEEP_STATUS.CHANNELS). [16 bits] -/
  channels : List Nat := []
  /-- 12 R414. Channels failed since the last module reset. [16 bits] [1] -/
  failed : List Nat := []
  /-- 12 Table 12.3. DEEP_WRITE_POLICY. [64 bits] -/
  policy : W64 := 0x00000400004000BE
  /-- 12 R426. Areas whose crypto-erase is in progress (ERASE_BUSY). [4 bits] [1] -/
  erasing : Option (BitVec 4) := none
  /-- 12 R425. DEEP_STATUS.KEY_VALID, the areas that hold a media key. [4 bits] -/
  keyValid : BitVec 4 := 0
  /-- 12 R423. C, the write credit, in bytes; kept in the serial NOR. [64 bits] -/
  credit : Int := 0
  /-- 12 R423. C as the serial NOR holds it, in bytes. [64 bits] [3] -/
  creditNor : Int := 0
  /-- 12 R424. Lifetime logical bytes written. [1] -/
  written : Nat := 0
  /-- 12 Table 12.5. DEEP_WEAR.SPARE_PCT. [8 bits] [3] -/
  sparePct : Nat := 0
  /-- 12 R424. Spare-exhaustion steps taken. [3] -/
  spareSteps : Nat := 0
  /-- 12 R415. The objects on the media. [16 TiB] [3] -/
  objects : List DeepObj := []
  /-- 12 R415. The next object number. [36 bits] [3] -/
  nextObj : Nat := 0
  deriving DecidableEq, Repr

end Sys2Proof
end

