-- ==== Sys2Proof/Types/Module.lean ====
section
/-! DEFINITION. The identity, module state, fencing and event state of the module: chapters 00, 01 and 18. -/
namespace Sys2Proof

/-- The two ports through which software reaches the CSR space (R635). -/
inductive Port where
  | host
  | mgmt
  deriving DecidableEq, Repr

/-- The module states of Table 1.7 (R33). -/
inductive ModState where
  | off | lantern | ready | armed | running | halted | hostLost | recovery
  deriving DecidableEq, Repr

/-- What brought the module into RECOVERY: it decides which action ends it (R590, R604, R614, Table 18.5). -/
inductive RecoveryCause where
  | none | bootFailed | zeroize | service | firmwareTrial | reclaim | scrub
  deriving DecidableEq, Repr

/-- A die-to-die port of the package (Table 1.4): the hub port of CDn, or the ring port from CDn to its clockwise neighbour. -/
inductive DiePort where
  | hub (n : Fin 8)
  | ring (n : Fin 8)
  deriving DecidableEq, Repr

/-- The kinds of fence change that can be requested (R30, R31, Table 18.5). -/
inductive FenceKind where
  | engine | full | lift
  deriving DecidableEq, Repr

/-- A fence change that waits for READY, HALTED or RECOVERY (R31). -/
structure FenceReq where
  die  : Fin 8
  kind : FenceKind
  deriving DecidableEq, Repr

/-- The GLB block's module part. -/
structure Glb where
  /-- 01 Table 1.9. GLB_ID.SERIAL, low 32 bits of the serial number; loaded at boot stage 0x02. [32 bits] -/
  serial : W32 := 0
  /-- 01 R33. GLB_STATE.STATE, the module state. [4 bits] -/
  state : ModState := .lantern
  /-- 01 R34. GLB_STATE.PREV_STATE, the state before the last transition. [4 bits] -/
  prev : ModState := .lantern
  /-- 01 R42. GLB_STATE.BOOT_STAGE. [8 bits] -/
  bootStage : Nat := 1
  /-- 01 R43. GLB_DIE_STATUS.CD_PRESENT. [8 bits] -/
  present : BitVec 8 := 0xFF
  /-- 01 R28. GLB_DIE_STATUS.CD_ENGINE_FENCED. [8 bits] -/
  engineFenced : BitVec 8 := 0
  /-- 01 R29. GLB_DIE_STATUS.CD_FULL_FENCED. [8 bits] -/
  fullFenced : BitVec 8 := 0
  /-- 01 Table 1.11. GLB_DIE_STATUS.HOST_PRESENT. [1 bit] -/
  hostPresent : Bool := false
  /-- 01 Table 1.11. GLB_DIE_STATUS.PARTNER_PRESENT. [1 bit] -/
  partnerPresent : Bool := false
  /-- 01 R44. GLB_CAPACITY.VALID. [1 bit] -/
  capValid : Bool := false
  /-- 01 R27. GLB_MODULE.MODULE_NUMBER. [13 bits] -/
  moduleNumber : BitVec 13 := 0
  /-- 01 R45. GLB_MODULE.VALID. [1 bit] -/
  moduleValid : Bool := false
  /-- 01 R31. Fence changes that wait for READY, HALTED or RECOVERY, oldest first. [1] -/
  heldFences : List FenceReq := []
  /-- 01 R19. Flit replays of each die-to-die port in this beam. [1] -/
  replays : List (DiePort × Nat) := []
  /-- 01 R20. Ports that the halt sequence retrains. [1] -/
  retrain : List DiePort := []
  /-- 01 R20. Failed data lanes that wait for a spare: port, group, lane. [1] -/
  failedLanes : List (DiePort × Nat × Nat) := []
  /-- 01 R34. What brought the module into RECOVERY. [1] -/
  recovery : RecoveryCause := .none
  /-- 01 R37. HOST_LOST arose while ARMED or RUNNING and is entered at the halt tick: its cause code (R588). [1] -/
  hostLostAtHalt : Option Nat := none
  /-- 18 Table 18.5 command 1. RECOVERY was asked for while ARMED or RUNNING and is entered at the halt tick. [1] -/
  recoveryAtHalt : Bool := false
  /-- 20 R651, 01 R41. The halt sequence of this HALTED state has ended its steps 1 to 3. [1] -/
  haltStarted : Bool := false
  deriving DecidableEq, Repr

/-- A 64-byte event record (R616, Table 18.1); unused bytes of DETAIL are zero and left off the list. -/
structure EvRecord where
  code : Nat
  modNum : Nat
  seq : W32
  tick : W64
  rtc : W64
  detail : Bytes
  deriving DecidableEq, Repr

/-- The state of one MSI-X vector in the signalling period (R620). -/
structure MsixVec where
  /-- 18 R620. A message of the vector went out in this period. [1] -/
  sent : Bool := false
  /-- 18 R620. A record since then is owed a message at the next period. [1] -/
  owed : Bool := false
  deriving DecidableEq, Repr

/-- Events, telemetry and service state (chapter 18). -/
structure EventState where
  /-- 18 R618. The volatile ring: the latest 4 096 records, newest first. [1] -/
  ring : List EvRecord := []
  /-- 18 Table 18.7. GLB_EVENT_STATUS.NEXT_SEQ. [32 bits] -/
  nextSeq : W32 := 0
  /-- 18 R619. GLB_EVENT_STATUS.LOST. [32 bits] -/
  lost : W32 := 0
  /-- 18 R619. A run of losses is under way, so 0x1202 has been raised for it. [1] -/
  lostRun : Bool := false
  /-- 18 Table 18.8. GLB_EVENT_SEL. [64 bits] -/
  sel : W64 := 0
  /-- 18 R631. The record latched into GLB_EVENT_REC0 to REC7, none for zeros. [512 bits] -/
  latched : Option EvRecord := none
  /-- 18 Table 18.10. GLB_TELEM. [64 bits] -/
  telem : W64 := 0
  /-- 18 R621. WRITE_SEQ, entries written into the telemetry area. [64 bits] [1] -/
  writeSeq : Nat := 0
  /-- 18 R622. Entries of a completed step that Keeper has still to write, oldest first. [1] -/
  telemQueue : List Bytes := []
  /-- 18 R622. Job step of the queued entries. [32 bits] [1] -/
  telemStep : Nat := 0
  /-- 18 Table 18.11. GLB_FENCE_POLICY. [64 bits] -/
  fencePolicy : W64 := 0x0000000000180003
  /-- 18 Table 18.13. GLB_LAST_HALT.OWN_FAULT. [16 bits] -/
  ownFault : Nat := 0
  /-- 18 Table 18.13. GLB_LAST_HALT.ORIGIN. [13 bits] -/
  haltOrigin : Nat := 0
  /-- 18 Table 18.13. GLB_LAST_HALT.HALT_TICK. [32 bits] -/
  haltTick : Nat := 0
  /-- 18 R620. MSI-X vectors 0 to 4. [1] -/
  msix : SMap MsixVec := []
  deriving DecidableEq, Repr

end Sys2Proof
end

