-- ==== Sys2Proof/Types/Site.lean ====
section
/-! DEFINITION. The host site (chapter 16), Keeper, Lantern and security (17), power (20), the non-volatile media, the
physical environment that no command sets, and what leaves the module at its pins. -/
namespace Sys2Proof

/-- The two sites that reach the aperture (R546). -/
inductive Site where
  | host
  | partner
  deriving DecidableEq, Repr

/-- What a landing window holds when it is locked, and, once a hold has admitted it, as it then stood (R566, R660). -/
structure LockedWin where
  gen : W64
  base : Nat
  size : Nat
  producer : Nat
  release : Nat
  /-- job step of the hold that admitted it -/
  admitted : Option Nat
  /-- the first dropped write of this lock has raised 0x5005 -/
  dropped : Bool
  deriving DecidableEq, Repr

/-- A root port's link (Table 16.18). -/
structure PortLink where
  up : Bool := false
  width : Nat := 0
  rate : Nat := 0
  flit : Bool := false
  errors : Nat := 0
  deriving DecidableEq, Repr

/-- A copy engine. -/
structure CopyUnit where
  /-- 16 Table 16.25. CPY_STATUS.HELD: the tile the task is held for. [1 bit] -/
  held : Option HeldTile := none
  /-- 16 Table 16.25. CPY_STATUS.BUSY: the running task. [1 bit] -/
  run : Option RunTask := none
  /-- 16 R572. The next tile of the running task. [1] -/
  next : Nat := 0
  deriving DecidableEq, Repr

/-- The host site, the root ports, the copy engines and the firewall (chapter 16). -/
structure HostSite where
  /-- 16 Table 16.12. APT_STATUS.RETRAINS. [16 bits] -/
  retrains : Nat := 0
  /-- 16 Table 16.12. APT_STATUS.LOST_CAUSE. [8 bits] -/
  lostCause : Nat := 0
  /-- 16 Table 16.12. APT_STATUS.SCRUB_BUSY. [1 bit] -/
  scrubBusy : Bool := false
  /-- 16 Table 16.12. APT_STATUS.PARTNER_UP. [1 bit] -/
  partnerUp : Bool := false
  /-- 16 Table 16.12. APT_STATUS.HOST_UP. [1 bit] -/
  hostUp : Bool := false
  /-- 16 R548. APT_HOST_REGION.SIZE_GIB. [9 bits] -/
  regionGib : Nat := 0
  /-- 16 R548. APT_HOST_REGION.BASE. [45 bits] -/
  regionBase : Nat := 0
  /-- 16 Table 16.14. APT_APERTURE. [64 bits] -/
  aperture : W64 := 0
  /-- 16 R554. The host site's aperture read buffer, newest line first: line, contents, poison. [1 024 × 64 bytes] -/
  bufHost : List (Nat × Bytes × Bool) := []
  /-- 16 R554. The partner site's aperture read buffer. [1 024 × 64 bytes] -/
  bufPartner : List (Nat × Bytes × Bool) := []
  /-- 16 Table 16.15. APERTURE_DRAIN.DRAINS of the host site. [32 bits] -/
  drainsHost : Nat := 0
  /-- 16 Table 16.15. APERTURE_DRAIN.DRAINS of the partner site. [32 bits] -/
  drainsPartner : Nat := 0
  /-- 16 Table 16.16. APT_HOST_FLAGS. [64 bits] -/
  flags : W64 := 0
  /-- 16 Table 16.18. APT_PCIE_LINK, root port 0. [32 bits] -/
  port0 : PortLink := {}
  /-- 16 Table 16.18. APT_PCIE_LINK, root port 1. [32 bits] -/
  port1 : PortLink := {}
  /-- 16 Table 16.19. APT_CFG_ADDR. [64 bits] -/
  cfgAddr : W64 := 0
  /-- 16 Table 16.20. APT_CFG_DATA.DATA, as the last access left it. [32 bits] -/
  cfgData : W32 := 0
  /-- 16 Table 16.20. APT_CFG_DATA.FAILED. [1 bit] -/
  cfgFailed : Bool := false
  /-- 16 Table 16.23. APT_LW0_GEN to APT_LW15_GEN. [16 × 64 bits] -/
  lwGen : SMap W64 := []
  /-- 16 R566. Locked landing windows. [1] -/
  locked : SMap LockedWin := []
  /-- 16 R565. The out-of-sequence values of FILL_GEN reported, by window. [1] -/
  badGen : SMap (List W64) := []
  /-- 16 Table 16.25. CE0 to CE7. [8 copy engines] -/
  ce : SMap CopyUnit := []
  /-- 16 Table 16.26. CPY_COUNTS.CRC_FAIL. [16 bits] -/
  crcFail : Nat := 0
  /-- 16 Table 16.26. CPY_COUNTS.RECORDS. [16 bits] -/
  records : Nat := 0
  /-- 16 Table 16.26. CPY_COUNTS.FROM_HOST. [16 bits] -/
  fromHost : Nat := 0
  /-- 16 Table 16.26. CPY_COUNTS.TO_HOST. [16 bits] -/
  toHost : Nat := 0
  /-- 16 Table 16.28. FWL_STATUS.VIOLATIONS. [32 bits] -/
  violations : Nat := 0
  /-- 16 Table 16.28. FWL_STATUS.LAST_SECOND. [32 bits] -/
  lastSecond : Nat := 0
  /-- 16 R585. Violations in the second in progress. [1] -/
  thisSecond : Nat := 0
  /-- 16 Table 16.29. FWL_LAST. [64 bits] -/
  fwlLast : W64 := 0
  /-- 16 R584. Requesters whose first violation of this signalling period is recorded. [1] -/
  violated : List Nat := []
  /-- 16 Table 16.30. FWL_ALARM_RATE. [64 bits] -/
  alarmRate : W64 := 0x400
  deriving DecidableEq, Repr

/-- A transfer through KPR_XFER_DATA (R602); an owner of none closes it. -/
structure Xfer where
  /-- 17 Table 17.14. KPR_XFER_STATUS.OWNER. [3 bits] -/
  owner : Option Port := none
  /-- 17 Table 17.14. KPR_XFER_STATUS.OBJECT. [4 bits] -/
  object : Nat := 0
  /-- 17 R602. The transfer writes its object. [1] -/
  write : Bool := false
  /-- 17 Table 17.14. KPR_XFER_STATUS.STATE. [3 bits] -/
  state : Nat := 0
  /-- 17 Table 17.14. KPR_XFER_STATUS.POSITION. [32 bits] -/
  position : Nat := 0
  /-- 17 R603. Bytes of the 64 KiB buffer that Keeper has not drained; SPACE is what they leave. [17 bits] [1] -/
  undrained : Nat := 0
  /-- 17 R603. The object read, or what has been written. [1] -/
  data : Bytes := []
  deriving DecidableEq, Repr

/-- Keeper, the management port and the security block's volatile state (chapter 17). -/
structure Keeper where
  /-- 17 Table 17.10. KPR_STATUS.RESTARTS. [16 bits] -/
  restarts : Nat := 0
  /-- 17 Table 17.10. KPR_STATUS.TRIAL. [1 bit] -/
  trial : Bool := false
  /-- 17 R604. The slot on trial. [1] -/
  trialSlot : Bool := false
  /-- 17 R601. The halt came from 0x9100 or 0x9101, so the halt sequence restarts Keeper. [1] -/
  restartDue : Bool := false
  /-- 17 Table 17.10. KPR_STATUS.A_VALID, as boot or VERIFY_FW found slot A. [1 bit] -/
  aValid : Bool := false
  /-- 17 Table 17.10. KPR_STATUS.B_VALID, as boot or VERIFY_FW found slot B. [1 bit] -/
  bValid : Bool := false
  /-- 17 R595. The boot ROM serves the management port: no slot is valid. [1] -/
  romService : Bool := false
  /-- 17 R604. Keeper restarts: the management port is unserved until the trial or the restart ends. [1] -/
  restarting : Bool := false
  /-- 17 Table 17.12. KPR_OCCUPANCY.PERCENT. [7 bits] -/
  occupancy : Nat := 0
  /-- 17 Table 17.12. KPR_OCCUPANCY.LEVEL. [3 bits] -/
  shed : Nat := 0
  /-- 17 Table 17.12. KPR_OCCUPANCY.SHED_BEAMS. [32 bits] -/
  shedBeams : Nat := 0
  /-- 17 R598. 0 in the band; 1 the last evaluation was above 90 %; 2 it was below 70 %. [1] -/
  band : Nat := 0
  /-- 17 R602. The open transfer. [1] -/
  xfer : Xfer := {}
  /-- 17 Table 17.17. KPR_NONCE0 to KPR_NONCE3. [4 × 64 bits] -/
  nonce : SMap W64 := []
  /-- 17 Table 17.9. SEC_STATUS.ZEROIZE_BUSY. [1 bit] -/
  zeroizeBusy : Bool := false
  /-- 17 Table 17.9. SEC_STATUS.VAULT_READY. [1 bit] -/
  vaultReady : Bool := false
  /-- 17 R607. The CSR offset that the last private write named. [32 bits] [1] -/
  mgmtOffset : Nat := 0
  /-- 17 R606. The dynamic address the I3C controller assigned. [7 bits] [1] -/
  dynAddr : Option (BitVec 7) := none
  /-- 17 R606. In-band interrupts are enabled. [1 bit] [1] -/
  ibi : Bool := false
  /-- 20 R650. SLOT_ID[3:0] as read at the module reset. [4 bits] [1] -/
  slotId : BitVec 4 := 0
  /-- 20 R647. Event 0x5401 is armed: the hub has been below 90 °C since the last. [1] -/
  tempArmed : Bool := true
  deriving DecidableEq, Repr

/-- Lantern (chapter 17); reset only from OFF (R40). -/
structure Lantern where
  /-- 17 Table 17.18. LNT_RTC.NS. [64 bits] -/
  rtc : W64 := 0
  /-- 17 R611. Thirds of a nanosecond counted beyond NS. [1] -/
  rtcThirds : Nat := 0
  /-- 17 Table 17.20. LNT_TICK_EST.COUNT at the moment the arithmetic clock last counted it. [64 bits] -/
  tickEst : W64 := 0
  /-- 02 R59. LNT_RTC at the tick that tickEst counts. [64 bits] [1] -/
  tickRtc : W64 := 0
  /-- 17 Table 17.21. LNT_COMP.LATCHED. [6 bits] -/
  latched : BitVec 6 := 0
  /-- 17 Table 17.21. LNT_COMP.NOW. [6 bits] -/
  now : BitVec 6 := 0
  /-- 17 Table 17.22. LNT_SENSE.HUB_TEMP. [16 bits] -/
  hubTemp : BitVec 16 := 0
  /-- 17 Table 17.22. LNT_SENSE.INPUT. [16 bits] -/
  input : BitVec 16 := 0
  /-- 17 Table 17.22. LNT_SENSE.CELL. [16 bits] -/
  cell : BitVec 16 := 0
  /-- 17 Table 17.23. LNT_ZEROIZE.COUNT. [32 bits] -/
  zeroizeCount : W32 := 0
  /-- 17 Table 17.23. LNT_ZEROIZE.PENDING. [1 bit] -/
  zeroizePending : Bool := false
  /-- 17 R615. The alarm that ZEROIZE carries. [16 bits] [1] -/
  zeroizeAlarm : Nat := 0
  /-- 17 R611. Alarms latched while 56 V is absent, oldest first. [1] -/
  heldAlarms : List Nat := []
  /-- 17 R611. 56 V is present at the input. [1] -/
  power : Bool := false
  /-- 20 R645. A backup cell above its cut-off is fitted. [1] -/
  cellFitted : Bool := true
  deriving DecidableEq, Repr

/-- The contents of a firmware slot (R593): header, body and signature block. -/
structure FwSlot where
  bytes : Bytes := []
  deriving DecidableEq, Repr

/-- A time at which an engine raised fault 0x9200 (R623). -/
structure EngineFault where
  engine : Nat
  rtc : W64
  deriving DecidableEq, Repr

/-- The serial NOR (Table 17.1); kept without power. -/
structure Nor where
  /-- 17 R592. The directory's active slot: false A, true B. [1 bit] [3] -/
  active : Bool := false
  /-- 17 R604. The directory's pending slot. [2 bits] [3] -/
  pending : Option Bool := none
  /-- 17 Table 17.1. Firmware slot A. [16 MiB] [3] -/
  slotA : Bytes := []
  /-- 17 Table 17.1. Firmware slot B. [16 MiB] [3] -/
  slotB : Bytes := []
  /-- 17 Table 17.1. The module's serial number, in the identity record. [64 bits] [3] -/
  serial : Nat := 0
  /-- 20 Table 20.6. A_h of the fitted host option, in the identity record. [watts] [3] -/
  hostWatts : Nat := 0
  /-- 20 Table 20.6. A_p of the fitted partner option, in the identity record. [watts] [3] -/
  partnerWatts : Nat := 0
  /-- 17 Table 17.1. The certificate chain. [1 MiB] [3] -/
  certs : Bytes := []
  /-- 17 R612. The sealed alarm policy record, none until one is sealed. [1 MiB] [3] -/
  policy : Option Bytes := none
  /-- 17 R605. The operator authority's modulus. [4 096 bits] [3] -/
  operator : Option Nat := none
  /-- 03 R92. The image authorities' moduli by place. [8 × 4 096 bits] [3] -/
  authorities : SMap Nat := []
  /-- 01 R18. Lanes the die-to-die ports have repaired: port, group, lane. [3] -/
  laneMaps : List (DiePort × Nat × Nat) := []
  /-- 13 R436. The lane map of each Soern link: the active lane pairs of its last training, as a mask. [3] -/
  soernMaps : SMap Nat := []
  /-- 11 R387. Units that hold training results. [8 MiB] [3] -/
  trained : List Nat := []
  /-- 11 R388. Retired LPDDR5X units. [3] -/
  retiredUnits : List Nat := []
  /-- 09 R334. Retired tile-store banks, as die × 32 + bank. [3] -/
  retiredBanks : List Nat := []
  /-- 18 Table 18.5 command 6. Banks whose record has been cleared, out of service until the next module reset. [1] -/
  clearedBanks : List Nat := []
  /-- 12 R414. Retired NAND channels. [3] -/
  retiredChannels : List Nat := []
  /-- 01 R31. Engine fences that software or R623 requested. [8 bits] [3] -/
  engineFences : BitVec 8 := 0
  /-- 01 R31. Full fences that software requested. [8 bits] [3] -/
  fullFences : BitVec 8 := 0
  /-- 13 Table 13.14. FAB_LOCATION as recorded. [64 bits] [3] -/
  location : W64 := 0
  /-- 13 Table 13.16. FAB_LINK_DISABLE as recorded. [64 bits] [3] -/
  disable : W64 := 0
  /-- 16 R548. The host-region size, in bytes. [3] -/
  regionBytes : Nat := 64 * 2 ^ 30
  /-- 16 R586. The operator's firewall windows, none without operator settings: RANGE and PERM by window. [3] -/
  firewall : Option (SMap (W64 × W64)) := none
  /-- 17 Table 17.7. The vault seed. [256 bits] [3] -/
  vaultSeed : Option Nat := none
  /-- 12 R425. The wrapped media keys of the four areas, by area. [4 × 512 bits] [3] -/
  mediaKeys : SMap Nat := []
  /-- 18 R618. The event log ring, newest record first. [229 376 records] [3] -/
  log : List EvRecord := []
  /-- 18 R619. Records of the ring that have not been read: the newest so many. [3] -/
  unread : Nat := 0
  /-- 18 R623. Times of faults 0x9200. [3] -/
  engineFaults : List EngineFault := []
  deriving DecidableEq, Repr

/-- What the module is made of and how its parts stand: no command sets it, and no rule of the spec gives it. -/
structure Env where
  /-- 17 Table 17.9. SEC_STATUS.ROLLBACK, the fused rollback counter. [6 bits] [4] -/
  rollback : Nat := 0
  /-- 17 Table 17.7. The fused device secret. [256 bits] [4] -/
  deviceSecret : Nat := 0
  /-- 17 R593. SHA-512 digest of the Basfel firmware authority's modulus. [512 bits] [4] -/
  firmwareKey : Bytes := []
  /-- 17 R593. The Basfel firmware authority's modulus, from where the device takes it. [4 096 bits] [4] -/
  firmwareModulus : Nat := 0
  /-- 17 R605. SHA-512 digest of the Basfel service authority's modulus. [512 bits] [4] -/
  serviceKey : Bytes := []
  /-- 17 R605. The Basfel service authority's modulus, from where the device takes it. [4 096 bits] [4] -/
  serviceModulus : Nat := 0
  /-- 20 R650. The SLOT_ID pins. [4 bits] [4] -/
  slotPins : BitVec 4 := 0
  /-- 17 R606. The provisional identifier, BCR, DCR and GETMXDS bytes of the I3C target. [4] -/
  i3cId : Bytes := [0, 0, 0, 0, 0, 0]
  /-- 17 R606. The BCR byte. [8 bits] [4] -/
  bcr : Byte := 0
  /-- 17 R606. The DCR byte. [8 bits] [4] -/
  dcr : Byte := 0
  /-- 17 R606. The GETMXDS bytes. [16 bits] [4] -/
  mxds : Bytes := [0, 0]
  /-- 09 R329. Words of tile stores whose reads meet an ECC error, by store × 2^21 + bank × 65 536 + word: true for uncorrectable. [4] -/
  badT0 : SMap (Option Bool) := []
  /-- 11 R391. Lines of T1 whose reads fail their link ECC on every retry, by local offset / 64. [4] -/
  badT1 : List Nat := []
  /-- 12 R421. Deep-tier tiles whose stored bytes fail their check: object and tile. [4] -/
  badDeep : List (Nat × Nat) := []
  deriving DecidableEq, Repr

/-- What leaves the module at its ports and pins. -/
inductive Out where
  /-- the reply to a CSR read over a port (R5) -/
  | csr (port : Port) (offset : Nat) (value : W64)
  /-- the bytes of a private read or of a CCC reply (R606, R607) -/
  | i3c (data : Bytes)
  /-- the I3C target does not acknowledge (R598, R603, R658) -/
  | nack
  /-- an in-band interrupt with its data byte (R606) -/
  | ibi (data : Byte)
  /-- an MSI-X message (R620) -/
  | msix (vector : Nat)
  /-- data of a CXL.mem read, with its poison (R584) -/
  | memData (line : Nat) (data : Bytes) (poison : Bool)
  /-- the completion of a CXL.mem write (R549) -/
  | memDone (line : Nat)
  /-- a back-invalidate whose response the device has (R550) -/
  | backInvalidate (line : Nat)
  /-- data of an aperture read, with its poison; an abort is a Completer Abort (R408, R553, R584) -/
  | apertureData (site : Site) (data : Bytes) (poison abort : Bool)
  /-- the reply to a read of APERTURE_DRAIN (Table 16.15) -/
  | drained (site : Site) (value : W64)
  /-- data of an inbound read at a root port, with its poison (R408, R558, R584) -/
  | peerData (port : Nat) (data : Bytes) (poison abort : Bool)
  /-- Unsupported Request at a root port (R557, R558) -/
  | unsupported (port : Nat)
  /-- a memory request of the host to a peer, at a bus address (R560) -/
  | peerAccess (port : Nat) (addr : Nat) (data : Option Bytes)
  /-- the reply to the host for a BAR4 read -/
  | bar4Data (data : Bytes)
  /-- a configuration request to a peer (R560) -/
  | cfgAccess (addr : W64) (data : Option W32)
  /-- a control block on a link (R433) -/
  | block (link : Nat) (b : Ctl)
  /-- a flit on a link (R441) -/
  | flit (link : Nat) (f : Flit)
  /-- a die-to-die port asks for a replay of a flit (R19) -/
  | replay (port : DiePort)
  /-- reset asserted to the compute, host and partner dies (R644) -/
  | diesReset
  deriving DecidableEq, Repr

end Sys2Proof
end

