-- ==== Sys2Proof/Types/Cmd.lean ====
section
/-! DEFINITION. The operands of the commands: what each operation or event carries, and what its physical work measured. -/
namespace Sys2Proof

/-- The fields of a vector instruction word (R245, Table 7.4), all but OP. -/
structure VWord where
  et : BitVec 4
  m : Bool
  mr : BitVec 2
  d : BitVec 5
  a : BitVec 5
  b : BitVec 5
  c : BitVec 5
  bs : Bool
  sub : BitVec 4
  imm : BitVec 24
  deriving DecidableEq, Repr

/-- What the boot found, for the stage that completes (R42, R595, R596, Table 20.3). -/
structure BootReport where
  /-- the hub die passed its self-test -/
  hubOk : Bool
  /-- stage 0x03: compute dies that answered -/
  dies : BitVec 8
  /-- stage 0x03: dies of which an engine failed its self-test -/
  badEngines : BitVec 8
  /-- stage 0x03: lanes found failed and replaced: port, group, lane -/
  repairs : List (DiePort × Nat × Nat)
  /-- stage 0x03: hub ports that could not be repaired, by die -/
  badPorts : BitVec 8
  /-- stage 0x04: units that failed their training or pattern test, with the cause code of R656 -/
  badUnits : List (Nat × Nat)
  /-- stage 0x04: packages whose read link ECC does not work -/
  noEcc : List Nat
  /-- stage 0x04: eye widths measured: unit, read, write -/
  eyes : List (Nat × Nat × Nat)
  /-- stage 0x05: NAND channels attached -/
  channels : BitVec 16
  /-- stage 0x06: the host link trained -/
  hostUp : Bool
  /-- stage 0x06: the partner link trained -/
  partnerUp : Bool
  /-- stage 0x06: root-port links as trained -/
  ports : PortLink × PortLink
  deriving DecidableEq, Repr

/-- What training a Soern link found (R436, R438). -/
structure LinkReport where
  /-- lane pairs 0 to 4 that passed -/
  lanes : BitVec 5
  /-- one-way delay D in clocks -/
  delay : Nat
  deriving DecidableEq, Repr

/-- A status of a transaction reply (R463). -/
structure Reply where
  tag : Nat
  status : Nat
  data : Bytes
  deriving DecidableEq, Repr

/-- What the eclipse work of a package found (R404, R405). -/
structure EclipseReport where
  /-- eye widths measured: unit, read, write -/
  eyes : List (Nat × Nat × Nat)
  /-- clocks the flush took -/
  flush : Nat
  /-- clocks all the work took -/
  work : Nat
  /-- recalibration units that did not fit: package, data group -/
  missed : List (Nat × Nat)
  deriving DecidableEq, Repr

end Sys2Proof
end

