-- ==== Sys2Proof/Syntax.lean ====
section
/-! DEFINITION. The commands of the block: every row of the opcode table, with its operands. -/
namespace Sys2Proof

/-- The commands, one constructor for each row of the opcode table, in the table's order; each docstring gives the row's
rule and the row's own words. -/
inductive Instr where
  /-- R8. A write to a register that has no row of its own takes effect according to its access code, including narrow, misaligned, reserved-encoding and RWS shadow handling. -/
  | csrWrite (p : Port) (off width : Nat) (v : W64)
  /-- R34. 56 V appears at the input, Lantern takes its supply from it and boot starts. -/
  | inputPowerPresent
  /-- R34. A backup cell is fitted to a module in OFF, which enters LANTERN and resets Lantern. -/
  | backupCellFitted
  /-- R34. With 56 V absent, the backup cell falls below its cut-off and the module enters OFF. -/
  | backupCellCutoff
  /-- R42. A boot stage finishes and BOOT_STAGE advances; after the last stage the module enters READY, or RECOVERY if boot cannot complete. -/
  | bootStageComplete (r : BootReport)
  /-- R19. A 256-byte die-to-die flit arrives; on a CRC failure it is discarded and replayed, and a third replay in a beam is fault 0x8101. -/
  | dieToDieFlit (port : DiePort) (crcOk : Bool)
  /-- R20. A die-to-die lane fails; while RUNNING this is fault 0x8100, and the port is retrained or the die fenced during the halt sequence. -/
  | laneFailure (port : DiePort) (group lane : Nat)
  /-- R47. Every 75 000 clocks of its own clock, the time master emits a tick symbol on every Soern link. -/
  | tickEmit
  /-- R435. A TICK control block is received; the module takes its tick time from its tree link, compares other links, and relays the tick. -/
  | tick (link : Fin 48) (late count : Nat) (ps : Int)
  /-- R57. No tick arrives on the tree link within ±100 ns; the module takes the tick from another link (R55) or enters holdover. -/
  | tickWindowExpiry
  /-- R54. The standby master receives no tick on any link for two consecutive ticks and becomes time master. -/
  | standbyTakeover
  /-- R58. Holdover reaches 8 ms; the module raises fault 0x8202 if ARMED or RUNNING, and otherwise clears COUNT_VALID. -/
  | holdoverLimit
  /-- R62. A job group's beam tick makes staged sets live, applies hold results and selects the plan beam, together with the other work placed at the tick. -/
  | beamTick
  /-- R67. At offset P − E, unstarted tasks fault, votes are evaluated and sent, write-combining buffers flush and eclipse work begins. -/
  | eclipseStart (r : EclipseReport)
  /-- R65. An engine starts a task once its release offset is reached, its dependencies are complete and its previous task has finished. -/
  | taskStart (le off : Nat)
  /-- R72. A task is still running at the next beam tick; it is aborted with fault 0x8200. -/
  | beamOverrun (le : Nat)
  /-- R467. A HALT control block for the module's own group is received, relayed on member links, and sets the halt tick. -/
  | halt (link : Fin 48) (job : BitVec 24) (origin tick : Nat)
  /-- R624. After the buffers drain, Keeper restarts where required, ports retrain, held fences and bank retirements take effect, and the module enters READY. -/
  | haltSequenceEnd (micros : Nat) (unrepaired : List DiePort)
  /-- R470. A HOLD_VOTE control message is received and combined up or down the reduction tree. -/
  | holdVote (link : Fin 48) (v : CtlMsg)
  /-- R79. A member's hold vote has not arrived by the tick that needs it; the module raises fault 0x8203. -/
  | holdVoteMissing
  /-- R118. An ARM_VOTE control message carrying JOB_ID, the group digest and B_c is received and combined. -/
  | armVote (link : Fin 48) (v : CtlMsg)
  /-- R123. A RELEASE_VOTE control message carrying JOB_ID, the group digest and B_r is received and combined. -/
  | releaseVote (link : Fin 48) (v : CtlMsg)
  /-- R470. A COLLECT control message is received and combined along tree 0 with AND, OR, UMAX or FSUM. -/
  | collect (link : Fin 48) (v : CtlMsg)
  /-- R105. The IMG_CTRL command clears the staging area and enters FILLING for a full image. -/
  | beginFull (p : Port)
  /-- R105. The IMG_CTRL command clears the staging area and enters FILLING for a delta image. -/
  | beginDelta (p : Port)
  /-- R109. The IMG_CTRL command starts the check of a register delta, or of the full or delta image being filled. -/
  | check (p : Port)
  /-- R119. The IMG_CTRL command aborts an armed set before its armed vote, returning STAGE to CHECKED. -/
  | abort (p : Port)
  /-- R108. The IMG_CTRL command empties the staged set outside ARMED. -/
  | discard (p : Port)
  /-- R105. A write requests an append of a host-region range to the staging area, or is refused. -/
  | imgLoad (p : Port) (v : W64)
  /-- R106. The pull of an IMG_LOAD finishes in copy-engine idle cycles, and LOAD_BUSY clears. -/
  | imgLoadComplete
  /-- R105. A write appends eight bytes to the staging area, or is refused. -/
  | imgData (p : Port) (v : W64)
  /-- R112. The image check ends in a pass (CHECKED) or at its first failure (FAILED, with IMG_CHECK_DETAIL written). -/
  | checkComplete
  /-- R117. A write arms the staged set for commit beam B_c, or is refused. -/
  | imgArm (p : Port) (v : W64)
  /-- R123. A write requests the release of a running job at beam B_r, or is refused. -/
  | imgRelease (p : Port) (v : W64)
  /-- R124. An uncorrectable error in the live image area raises fault 0x8300. -/
  | liveAreaError
  /-- R153. A buoy's warm-up step count runs out, and event 0x0401 is raised when the last buoy leaves warm-up. -/
  | warmupEnd (buoy : Nat)
  /-- R167. A write latches the census and scale state of the selected buoy. -/
  | rdxCensusSel (p : Port) (v : W64)
  /-- R187. A matrix task fetches and verifies its tile pairs, accumulates the groups in order, and applies its output action. -/
  | matmul (die : Fin 8) (u : Fin 2) (endAt fetchStall : Nat)
  /-- R374. The PLE finds a clean source, writes the tile and releases the held engines, or makes the buoy LOST with fault 0x8A00. -/
  | repairDeliver (buoy tile clocks : Nat)
  /-- R375. The summed repair time in a beam exceeds REPAIR_ALLOW, raising fault 0x8A01. -/
  | repairAllowExceeded
  /-- R200. A write zeroes the matrix engine's counters and ME_ACC_COUNTS. -/
  | meClear (p : Port) (die : Fin 8) (u : Fin 2) (v : W64)
  /-- R247. The vector instruction does nothing. -/
  | nop (u : Fin 16) (w : VWord)
  /-- R244. The vector instruction ends the program and completes the task. -/
  | endTask (u : Fin 16) (endAt : Nat)
  /-- R247. The vector instruction sets VL, clamped to 4 096, setting LC if clamped. -/
  | setvl (u : Fin 16) (w : VWord)
  /-- R249. The vector instruction runs the following BODY words COUNT times. -/
  | loopN (u : Fin 16) (body : BitVec 16) (count : BitVec 32)
  /-- R247. The vector instruction loads the low half of a scalar register. -/
  | slil (u : Fin 16) (w : VWord)
  /-- R247. The vector instruction loads the high half of a scalar register. -/
  | slih (u : Fin 16) (w : VWord)
  /-- R247. The vector instruction adds scalars modulo 2³². -/
  | sadd (u : Fin 16) (w : VWord)
  /-- R247. The vector instruction subtracts scalars modulo 2³². -/
  | ssub (u : Fin 16) (w : VWord)
  /-- R247. The vector instruction multiplies scalars and keeps the low 32 bits. -/
  | smul (u : Fin 16) (w : VWord)
  /-- R248. The vector instruction reads a special source such as the step, LAYER, learning rate, clip factor, weight decay or VL. -/
  | sget (u : Fin 16) (w : VWord)
  /-- R260. The vector instruction performs a scalar FP32 add. -/
  | sfadd (u : Fin 16) (w : VWord)
  /-- R260. The vector instruction performs a scalar FP32 subtract. -/
  | sfsub (u : Fin 16) (w : VWord)
  /-- R260. The vector instruction performs a scalar FP32 multiply. -/
  | sfmul (u : Fin 16) (w : VWord)
  /-- R260. The vector instruction performs a scalar FP32 divide. -/
  | sfdiv (u : Fin 16) (w : VWord)
  /-- R260. The vector instruction takes a scalar FP32 square root. -/
  | sfsqrt (u : Fin 16) (w : VWord)
  /-- R260. The vector instruction takes a scalar FP32 reciprocal square root. -/
  | sfrsqrt (u : Fin 16) (w : VWord)
  /-- R261. The vector instruction takes the scalar FP32 maximum. -/
  | sfmax (u : Fin 16) (w : VWord)
  /-- R261. The vector instruction takes the scalar FP32 minimum. -/
  | sfmin (u : Fin 16) (w : VWord)
  /-- R271. The vector instruction raises the non-finite indication and sets NF if a scalar is non-finite. -/
  | snf (u : Fin 16) (w : VWord)
  /-- R260. The vector instruction adds element-wise. -/
  | vadd (u : Fin 16) (w : VWord)
  /-- R260. The vector instruction subtracts element-wise. -/
  | vsub (u : Fin 16) (w : VWord)
  /-- R260. The vector instruction multiplies element-wise. -/
  | vmul (u : Fin 16) (w : VWord)
  /-- R260. The vector instruction performs a fused multiply-add, rounded once. -/
  | vfma (u : Fin 16) (w : VWord)
  /-- R261. The vector instruction takes the element-wise minimum. -/
  | vmin (u : Fin 16) (w : VWord)
  /-- R261. The vector instruction takes the element-wise maximum. -/
  | vmax (u : Fin 16) (w : VWord)
  /-- R247. The vector instruction takes the element-wise absolute value. -/
  | vabs (u : Fin 16) (w : VWord)
  /-- R247. The vector instruction negates element-wise. -/
  | vneg (u : Fin 16) (w : VWord)
  /-- R260. The vector instruction divides element-wise in FP32. -/
  | vdiv (u : Fin 16) (w : VWord)
  /-- R260. The vector instruction takes the element-wise square root. -/
  | vsqrt (u : Fin 16) (w : VWord)
  /-- R260. The vector instruction takes the element-wise reciprocal square root. -/
  | vrsqrt (u : Fin 16) (w : VWord)
  /-- R260. The vector instruction takes the element-wise reciprocal. -/
  | vrcp (u : Fin 16) (w : VWord)
  /-- R260. The vector instruction computes 2 to the power of each element. -/
  | vexp2 (u : Fin 16) (w : VWord)
  /-- R260. The vector instruction computes the base-2 logarithm of each element. -/
  | vlog2 (u : Fin 16) (w : VWord)
  /-- R263. The vector instruction performs an element-wise compensated add into a register pair. -/
  | vaddc (u : Fin 16) (w : VWord)
  /-- R263. The vector instruction folds a register pair into one with RNE. -/
  | vfold (u : Fin 16) (w : VWord)
  /-- R247. The vector instruction performs a bitwise AND. -/
  | vand (u : Fin 16) (w : VWord)
  /-- R247. The vector instruction performs a bitwise OR. -/
  | vor (u : Fin 16) (w : VWord)
  /-- R247. The vector instruction performs a bitwise XOR. -/
  | vxor (u : Fin 16) (w : VWord)
  /-- R247. The vector instruction shifts each element left. -/
  | vshl (u : Fin 16) (w : VWord)
  /-- R247. The vector instruction shifts each element right, arithmetically for I32 and logically for U32. -/
  | vshr (u : Fin 16) (w : VWord)
  /-- R247. The vector instruction selects between two sources by a mask. -/
  | vsel (u : Fin 16) (w : VWord)
  /-- R247. The vector instruction moves a register or broadcasts a scalar. -/
  | vmov (u : Fin 16) (w : VWord)
  /-- R247. The vector instruction writes element indices plus an immediate. -/
  | vidx (u : Fin 16) (w : VWord)
  /-- R265. The vector instruction converts between element types inside registers. -/
  | vcvt (u : Fin 16) (w : VWord)
  /-- R264. The vector instruction sets mask bits by a comparison predicate. -/
  | vcmp (u : Fin 16) (w : VWord)
  /-- R247. The vector instruction performs a mask operation selected by SUB. -/
  | mop (u : Fin 16) (w : VWord)
  /-- R247. The vector instruction counts the set mask bits. -/
  | mpop (u : Fin 16) (w : VWord)
  /-- R267. The vector instruction sums the active elements in the fixed lane order. -/
  | vrsum (u : Fin 16) (w : VWord)
  /-- R268. The vector instruction performs a compensated sum of the active elements. -/
  | vrsumc (u : Fin 16) (w : VWord)
  /-- R267. The vector instruction finds the largest active element. -/
  | vrmax (u : Fin 16) (w : VWord)
  /-- R267. The vector instruction finds the smallest active element. -/
  | vrmin (u : Fin 16) (w : VWord)
  /-- R269. The vector instruction finds the largest finite magnitude among the active elements. -/
  | vramax (u : Fin 16) (w : VWord)
  /-- R268. The vector instruction performs a compensated sum of squares of the active elements. -/
  | vrssqc (u : Fin 16) (w : VWord)
  /-- R251. The vector instruction reads and verifies a tile of an access into a read buffer, holding on a CRC failure. -/
  | tload (u : Fin 16) (w : VWord)
  /-- R252. The vector instruction takes the oldest stream tile into a read buffer after verifying it. -/
  | tstream (u : Fin 16) (w : VWord)
  /-- R254. The vector instruction loads elements from a read buffer into a register. -/
  | vld (u : Fin 16) (w : VWord)
  /-- R255. The vector instruction opens a write buffer, zeroed or filled from the tile. -/
  | topen (u : Fin 16) (w : VWord)
  /-- R255. The vector instruction stores register elements into a write buffer. -/
  | vst (u : Fin 16) (w : VWord)
  /-- R255. The vector instruction reads write-buffer elements back into a register. -/
  | vldw (u : Fin 16) (w : VWord)
  /-- R256. The vector instruction narrows a write buffer, writes its tile and closes the buffer. -/
  | twrite (u : Fin 16) (w : VWord)
  /-- R274. A write zeroes VE_BUSY, VE_COUNTS and VE_FLAGS.ACCUM. -/
  | veClear (p : Port) (die : Fin 8) (u : Fin 2) (v : W64)
  /-- R293. An attention task streams key blocks through a context and, with FINISH, writes the output and LSE. -/
  | fwd (die : Fin 8) (endAt : Nat)
  /-- R296. An attention backward task recomputes scores and accumulates dK, dV and dQ. -/
  | bwd (die : Fin 8) (endAt : Nat)
  /-- R304. A gather-scatter task checks its indices and writes the table rows into the output buoy. -/
  | gather (die : Fin 8) (endAt : Nat)
  /-- R305. A gather-scatter task adds the source rows into a window of the table gradient in index order. -/
  | scatterAdd (die : Fin 8) (endAt : Nat)
  /-- R308. A layout task converts the format of tiles. -/
  | convert (die : Fin 8) (endAt : Nat)
  /-- R308. A layout task transposes matrix tiles. -/
  | transpose (die : Fin 8) (endAt : Nat)
  /-- R308. A layout task extracts one column half of each tile. -/
  | split64 (die : Fin 8) (endAt : Nat)
  /-- R308. A layout task joins two half-tiles into one tile. -/
  | join64 (die : Fin 8) (endAt : Nat)
  /-- R308. A layout task keeps element indices and takes the output buoy's shape. -/
  | reshape (die : Fin 8) (endAt : Nat)
  /-- R200. A write zeroes AE_BUSY and AE_COUNTS. -/
  | aeClear (p : Port) (die : Fin 8) (v : W64)
  /-- R200. A write zeroes GSE_COUNTS. -/
  | gseClear (p : Port) (die : Fin 8) (v : W64)
  /-- R200. A write zeroes LYE_COUNTS. -/
  | lyeClear (p : Port) (die : Fin 8) (v : W64)
  /-- R327. A read of the lane window returns the addressed lane, or 0 with event 0x4902 when refused. -/
  | tstLaneDataRead (p : Port) (t : Fin 9)
  /-- R327. A write through the lane window stores a plain value into the lane, or is refused. -/
  | tstLaneDataWrite (p : Port) (t : Fin 9) (v : W64)
  /-- R326. A write performs an atomic bit-set on the addressed lane. -/
  | tstLaneSet (p : Port) (t : Fin 9) (v : W64)
  /-- R326. A write performs an atomic bit-clear on the addressed lane. -/
  | tstLaneClr (p : Port) (t : Fin 9) (v : W64)
  /-- R200. A write zeroes TST_ECC and every TST_CONFLICT register. -/
  | tstClear (p : Port) (t : Fin 9) (v : W64)
  /-- R331. The background test starts SAVE, MARCH and RESTORE on the next region after the gap beams. -/
  | backgroundTestRegion (t : Fin 9)
  /-- R334. A region's test ends; a MARCH mismatch fails the bank, and a completed pass raises event 0x0900. -/
  | backgroundTestRegionEnd (t : Fin 9) (pass : Bool)
  /-- R356. The PLE begins a discretionary promotion of a buoy for an access in the lookahead, evicting a victim when needed. -/
  | promotion (buoy : Nat) (dest : Place)
  /-- R357. The PLE copies and verifies one tile of a move in idle cycles. -/
  | moveTileCopy (buoy : Nat)
  /-- R357. When every tile is copied and no write is in flight, the shadow becomes the authoritative mooring. -/
  | moveSwitch (buoy : Nat)
  /-- R365. A member starts filling a replica of a SHARED buoy from the owner. -/
  | replicaFill (buoy : Nat) (dest : Place)
  /-- R365. A replica fill completes and becomes this member's authoritative mooring. -/
  | replicaFillComplete (buoy : Nat)
  /-- R344. In plan beam FROM − 1 the whole buoy is copied into its T0 residence. -/
  | windowFill (buoy : Nat)
  /-- R345. In plan beam TO + 1 the residence is copied back into the home. -/
  | writeBack (buoy : Nat)
  /-- R380. A write latches the selected buoy-table entry. -/
  | pleBuoySel (p : Port) (v : W64)
  /-- R200. A write zeroes PLE_MOVES to PLE_CODEC. -/
  | pleClear (p : Port) (v : W64)
  /-- R390. An LPDDR5X data group fails after boot; its units fail, with fault 0x8B01 if ARMED or RUNNING. -/
  | dataGroupFailure (package : Fin 16) (group : Fin 4)
  /-- R403. A package reports a new refresh rate or temperature limit, raising event 0x4B01 or fault 0x8B02. -/
  | refreshRateReport (package : Fin 16) (rate : Nat) (overLimit : Bool)
  /-- R403. In the working portion, the controller issues a per-bank refresh at the package's rate. -/
  | perBankRefresh (package : Fin 16)
  /-- R399. The write-combining buffer writes out its oldest entry, merging partial lines first. -/
  | wcbWriteOut (package : Fin 16)
  /-- R410. A write latches the selected unit's state. -/
  | lpdUnitSel (p : Port) (v : W64)
  /-- R200. A write zeroes LPD_ERRORS, LPD_WCB and LPD_ECLIPSE. -/
  | lpdClear (p : Port) (v : W64)
  /-- R414. A NAND channel fails; it is recorded as retired, with fault 0x8C00 if ARMED or RUNNING. -/
  | channelFailure (c : Fin 16)
  /-- R424. The deep tier's spare blocks are used up; T3_GIB falls by 16 GiB and event 0x0C01 is raised. -/
  | spareBlocksExhausted
  /-- R423. Each second the deep-tier write credit rises by RATE_MBS, up to the bucket ceiling. -/
  | writeCreditAccrual
  /-- R423. A deep-home loading starts a tile while the credit is above the reserve. -/
  | homeLoading (buoy : Nat)
  /-- R426. A write with CONFIRM 0xE5 crypto-erases the named deep-tier areas, or is refused. -/
  | deepErase (p : Port) (v : W64)
  /-- R426. The freed blocks of an erase have been erased, and event 0x0C00 is raised. -/
  | cryptoEraseComplete
  /-- R438. The device starts training a Soern link once no member link in ARMED or RUNNING holds it. -/
  | linkTraining (link : Fin 48)
  /-- R436. Link training ends with the link admitted or not admitted. -/
  | linkTrainingComplete (link : Fin 48) (r : LinkReport)
  /-- R436. An ECHO control block is received for the delay measurement of training. -/
  | echo (link : Fin 48) (time : Nat) (reply : Bool) (now : Nat)
  /-- R439. A Soern lane loses lock or uncorrectable codewords persist; fault 0x8D01 on a member link, otherwise a retrain. -/
  | linkDown (link : Fin 48)
  /-- R439. No ACK or NAK arrives for 4 096 clocks while flits are unacknowledged, so the link goes down. -/
  | ackTimeout (link : Fin 48)
  /-- R440. A lane corrects more than 2²⁰ symbols in one second; event 0x4D05 is raised. -/
  | laneErrorRate (link : Fin 48) (lane : Fin 5)
  /-- R443. A Soern flit is received and accepted, or discarded with a NAK, then forwarded, written or dropped. -/
  | flitReceive (link : Fin 48) (crcOk : Bool) (f : Flit)
  /-- R443. An ACK control block acknowledges every flit before its SEQ. -/
  | ack (link : Fin 48) (seq : Nat)
  /-- R443. A NAK control block makes the sender resend every flit from the SEQ it carries. -/
  | nak (link : Fin 48) (seq : Nat)
  /-- R443. No ACK or NAK arrives for 640 clocks, so the sender resends from its oldest unacknowledged flit. -/
  | retryTimeout (link : Fin 48)
  /-- R451. A slot run of a flow begins sending; faults 0x8D03 or 0x8E00 are raised if its data is not ready. -/
  | runStart (link : Fin 48) (slot : Nat)
  /-- R446. A run's flits are not all acknowledged 480 clocks after it ends, raising fault 0x8D00. -/
  | runAckTimeout (link : Fin 48) (flow : Nat)
  /-- R466. A MSG control block fragment of a control message is received and relayed. -/
  | msg (link : Fin 48) (frag ty : Nat) (content : Bytes)
  /-- R460. A READ transaction reads local T1 and is answered with READ_DATA or a failure status. -/
  | read (link : Fin 48) (m : Bytes)
  /-- R460. A WRITE transaction writes local T1 and is answered with WRITE_DONE after acceptance. -/
  | write (link : Fin 48) (m : Bytes)
  /-- R398. An ATOMIC transaction performs its AOP on an 8-byte word and returns the old word. -/
  | atomic (link : Fin 48) (m : Bytes)
  /-- R459. A REDUCE_ADD transaction adds elements into local T1 in RFMT. -/
  | reduceAdd (link : Fin 48) (m : Bytes)
  /-- R463. The requester receives a READ response; a failure status raises fault 0x8D02. -/
  | readData (link : Fin 48) (r : Reply)
  /-- R463. The requester receives a WRITE completion or a failure status. -/
  | writeDone (link : Fin 48) (r : Reply)
  /-- R463. The requester receives an ATOMIC response with the old word or a failure status. -/
  | atomicData (link : Fin 48) (r : Reply)
  /-- R463. The requester receives a REDUCE_ADD completion or a failure status. -/
  | reduceDone (link : Fin 48) (r : Reply)
  /-- R472. A HELLO flit message from the far end of a link is received. -/
  | hello (link : Fin 48) (h : MsgHeader) (m : Hello)
  /-- R472. A flooded LINK_STATE message updates the domain graph. -/
  | linkState (link : Fin 48) (h : MsgHeader) (m : LinkState)
  /-- R472. The ASSIGN message gives module numbers and the starting tick count, and discovery completes. -/
  | assign (link : Fin 48) (h : MsgHeader) (m : Assign)
  /-- R475. A MEMBERSHIP message announces a pending change and its effective tick. -/
  | membership (link : Fin 48) (h : MsgHeader) (m : Change)
  /-- R476. At the effective domain beam tick, the change is applied and routes and tick trees are recomputed. -/
  | membershipApply
  /-- R476. A JOIN request reaches the time master, which schedules a membership change. -/
  | join (link : Fin 48) (h : MsgHeader) (m : Member)
  /-- R476. A LEAVE request reaches the time master, which schedules a membership change. -/
  | leave (link : Fin 48) (h : MsgHeader) (number : Nat)
  /-- R366. An INVALIDATE message makes the member discard replicas at the next tick. -/
  | invalidate (link : Fin 48) (h : MsgHeader) (planBeam : Nat) (buoys : List Nat)
  /-- R465. A PLACEMENT message carries replica and repair requests and grants between placement engines. -/
  | placement (link : Fin 48) (h : MsgHeader) (m : Placement)
  /-- R472. Discovery starts: HELLO exchange, LINK_STATE flood, election, admission and numbering. -/
  | discovery
  /-- R473. With too few modules, discovery is retried every 10 s. -/
  | discoveryRetry
  /-- R438. A write takes links down or, when a bit is cleared, trains them again. -/
  | fabLinkDisable (p : Port) (v : W64)
  /-- R480. A write latches the selected link's state and errors. -/
  | fabLinkSel (p : Port) (v : W64)
  /-- R480. A write latches the selected routing entry. -/
  | fabRouteSel (p : Port) (v : W64)
  /-- R200. A write zeroes FAB_COUNTS and the link error counts. -/
  | fabClear (p : Port) (v : W64)
  /-- R490. Once its own tile and its children's tiles are present, the RDE combines them, then sends or writes the result. -/
  | bucketCombine (bucket : Nat)
  /-- R520. A write latches the selected epoch word. -/
  | rdxEpochSel (p : Port) (v : W64)
  /-- R520. A write latches the norm, clip and learning rate of the selected layer. -/
  | rdxLayerSel (p : Port) (v : W64)
  /-- R200. A write zeroes RDX_COUNTS and RDX_GATE.SKIPPED. -/
  | rdxClear (p : Port) (v : W64)
  /-- R529. In PACK beams, the device writes the orbit packets to the host region. -/
  | pack
  /-- R533. In UNPACK beams, the device writes the averaged deltas into the IN buoys. -/
  | unpack
  /-- R539. In CAPTURE beams, the device copies the due snapshot or checkpoint set into its hold buffer. -/
  | capture
  /-- R530. The host signals that it has taken the outgoing packets of orbit k, which clears OUT_WRITTEN. -/
  | taken (p : Port) (orbit : Nat)
  /-- R531. The host signals that the incoming packets of orbit k are staged, which starts validation. -/
  | staged (p : Port) (orbit : Nat)
  /-- R532. Validation of the incoming packets ends with IN_READY set or with event 0x4F00. -/
  | orbitInValidate
  /-- R535. Every anchor's new version is written, ANCHOR_BUSY clears and event 0x0F02 is raised. -/
  | anchorRewriteComplete
  /-- R537. The host requests a snapshot at the next step. -/
  | snapReq (p : Port)
  /-- R537. The host requests a checkpoint at the next step. -/
  | ckptReq (p : Port)
  /-- R540. The host frees the snapshot hold buffer. -/
  | snapRelease (p : Port)
  /-- R540. The checkpoint object's header is written, RDX_CKPT_LAST is set and older checkpoints are freed. -/
  | checkpointComplete
  /-- R542. A write of an area-3 locator starts validation and loading of a checkpoint. -/
  | rdxRestore (p : Port) (v : W64)
  /-- R542. Loading of a restore ends with STATE loaded or failed. -/
  | restoreLoaded
  /-- R549. A host CXL.mem read of the host region is served through the write-combining buffer, subject to the firewall. -/
  | cxlMemRead (line : Nat)
  /-- R549. A host CXL.mem write is accepted by the line's controller and then completed. -/
  | cxlMemWrite (line : Nat) (mask : W64) (data : Bytes)
  /-- R554. An aperture read is served from the read buffer, or fetched with prefetch, or refused. -/
  | apertureRead (site : Site) (off len : Nat)
  /-- R556. An aperture write goes through the write-combining buffer, or is refused while ARMED or RUNNING. -/
  | apertureWrite (site : Site) (off : Nat) (data : Bytes)
  /-- R555. A read empties the site's aperture read buffer and returns the count of dropped lines. -/
  | apertureDrain (site : Site)
  /-- R555. A write moves the aperture and empties both read buffers. -/
  | aptAperture (p : Port) (v : W64)
  /-- R559. A peer's memory read through a root port is checked and served in arrival order. -/
  | inboundRead (port : Fin 2) (addr len : Nat)
  /-- R564. A peer's memory write through a root port is checked against the landing-window and firewall rules and performed. -/
  | inboundWrite (port : Fin 2) (addr : Nat) (data : Bytes)
  /-- R560. A host access through BAR4 reaches peer memory behind a root port. -/
  | bar4Access (off : Nat) (data : Option Bytes) (reply : Bytes)
  /-- R560. A read performs a peer configuration read at APT_CFG_ADDR. -/
  | aptCfgDataRead (p : Port) (reply : Option W32)
  /-- R560. A write performs a peer configuration write at APT_CFG_ADDR. -/
  | aptCfgDataWrite (p : Port) (v : W64) (ok : Bool)
  /-- R562. A root-port link goes down or reports an uncorrectable error; event 0x5007 is raised and the link retrains. -/
  | rootPortLinkDown (port : Fin 2) (cause : Nat)
  /-- R569. The host sets host flags that serve as hold inputs. -/
  | aptHostFlags (p : Port) (v : W64)
  /-- R572. A copy task copies verified tiles to the host region and writes its completion record. -/
  | toHost (u : Fin 8) (endAt : Nat)
  /-- R573. A copy task verifies tiles from the host region and writes them into the authoritative mooring. -/
  | fromHost (u : Fin 8) (endAt : Nat)
  /-- R588. The host-site link carries no flits for 2 ms, so the module enters HOST_LOST. -/
  | hostLinkTimeout
  /-- R588. The host die signals reset over the sideband, so the module enters HOST_LOST. -/
  | hostDieReset
  /-- R587. A host-site link retrain completes and event 0x1000 is raised. -/
  | hostLinkRetrain (micros : Nat)
  /-- R590. The host command enters RECOVERY from HOST_LOST and keeps T1. -/
  | reclaim (p : Port)
  /-- R590. The host command enters RECOVERY from HOST_LOST and zeroes T1 and the tile stores. -/
  | scrub (p : Port)
  /-- R590. After RECLAIM or SCRUB, the module rejoins the domain, retrains the root ports and enters READY. -/
  | recoveryComplete
  /-- R585. Once per second, if the violations exceed FWL_ALARM_RATE, alarm 0xD000 is raised. -/
  | firewallRate
  /-- R620. At the start of each signalling period, MSI-X messages are sent for records left unsignalled. -/
  | signallingPeriod
  /-- R600. The hub watchdog expires, raising fault 0x9100 and halting, or restarting Keeper outside ARMED and RUNNING. -/
  | watchdogExpiry
  /-- R601. Keeper's lockstep cores disagree, raising fault 0x9101 or restarting Keeper. -/
  | lockstepMismatch
  /-- R598. Every 16 beams, Keeper raises or lowers its shed level by its occupancy. -/
  | shedEvaluation (percent : Nat)
  /-- R602. The KPR_XFER_CTRL command opens a read transfer of an object. -/
  | openRead (p : Port) (obj : Nat)
  /-- R602. The KPR_XFER_CTRL command opens a write transfer of an object. -/
  | openWrite (p : Port) (obj : Nat)
  /-- R602. Preparation of an opened object, such as slot erase or report signing, completes and the transfer reads READY. -/
  | xferPrepared
  /-- R602. The KPR_XFER_CTRL command closes the transfer, marking records read or verifying and applying a written record. -/
  | close (p : Port)
  /-- R602. The KPR_XFER_CTRL ABORT command abandons the open transfer. -/
  | xferAbort (p : Port)
  /-- R604. The command checks the written firmware slot and sets its valid bit, or raises event 0x5105. -/
  | verifyFw (p : Port)
  /-- R604. The command names a valid inactive slot as pending. -/
  | activateFw (p : Port)
  /-- R603. A read returns the next 8 bytes of the read object. -/
  | kprXferDataRead (p : Port)
  /-- R603. A write appends 8 bytes to the transfer buffer. -/
  | kprXferDataWrite (p : Port) (v : W64)
  /-- R604. In READY, HALTED or RECOVERY, Keeper restarts on the pending slot on trial. -/
  | firmwareSwitch
  /-- R604. The trial self-check passes, making the slot active, or fails and falls back with a module reset. -/
  | firmwareTrial (ok : Bool)
  /-- R607. An I3C private write performs n CSR writes at the given offset. -/
  | privateWrite (off : Nat) (words : List W64)
  /-- R607. An I3C private read returns n CSR reads of the last offset written. -/
  | privateRead (n : Nat)
  /-- R606. The I3C CCC assigns a dynamic address. -/
  | entdaa (addr : BitVec 7)
  /-- R606. The I3C CCC sets the dynamic address from the static address. -/
  | setdasa (addr : BitVec 7)
  /-- R606. The I3C CCC resets the dynamic address. -/
  | rstdaa
  /-- R606. The I3C CCC returns the provisional ID. -/
  | getpid
  /-- R606. The I3C CCC returns the bus characteristics register. -/
  | getbcr
  /-- R606. The I3C CCC returns the device characteristics register. -/
  | getdcr
  /-- R606. The I3C CCC returns the target status. -/
  | getstatus
  /-- R606. The I3C CCC returns the maximum data speed. -/
  | getmxds
  /-- R606. The I3C CCC enables in-band interrupts. -/
  | enec
  /-- R606. The I3C CCC disables in-band interrupts. -/
  | disec
  /-- R644. The under-voltage comparator trips: alarm 0xD100, engines gated, dies reset, and the module enters LANTERN. -/
  | inputUnderVoltage (tens : BitVec 16)
  /-- R644. The over-voltage comparator trips: alarm 0xD101, engines gated, dies reset, and the module enters LANTERN. -/
  | inputOverVoltage (tens : BitVec 16)
  /-- R611. The backup-cell comparator raises alarm 0xD102. -/
  | backupCellLow (mv : BitVec 16)
  /-- R611. The hub junction passes 110 °C, raising alarm 0xD103. -/
  | hubOverTemperature (tenths : BitVec 16)
  /-- R611. The reference clock is absent or off by more than 200 ppm, raising alarm 0xD104. -/
  | clockFailure
  /-- R611. The tamper mesh is opened, shorted or changed, raising alarm 0xD105. -/
  | tamperMesh
  /-- R614. The device halts, enters RECOVERY, destroys keys, clears memories, generates new keys and leaves with a module reset. -/
  | zeroize
  /-- R611. A write adds a signed offset to the real-time counter. -/
  | lntRtcAdjust (p : Port) (v : W64)
  /-- R622. After a step gate, Keeper writes the step's telemetry entries and advances WRITE_SEQ. -/
  | telemetryWrite
  /-- R623. An uncorrectable error inside an engine raises fault 0x9200 and may request a fence. -/
  | engineError (engine : Nat)
  /-- R628. The service command enters RECOVERY, halting the group first if ARMED or RUNNING. -/
  | enterRecovery (p : Port)
  /-- R628. The service command enters READY from a commanded RECOVERY without a reset. -/
  | leaveRecovery (p : Port)
  /-- R628. The service command requests an engine fence of a die. -/
  | fenceEngine (p : Port) (die : Nat)
  /-- R628. The service command requests a full fence of a die. -/
  | fenceFull (p : Port) (die : Nat)
  /-- R628. The service command requests that a die's fence be lifted. -/
  | unfence (p : Port) (die : Nat)
  /-- R628. The service command clears a retirement record of a unit, bank or channel. -/
  | clearRetired (p : Port) (arg : Nat)
  /-- R631. A write latches the event record with the given SEQ. -/
  | glbEventSel (p : Port) (v : W64)
  /-- R642. Each second, a mean input draw above 1 750 W raises event 0x5400. -/
  | drawMeasurement (watts : Nat)
  /-- R647. The hub junction rises above 95 °C, raising event 0x5401. -/
  | hubTemperatureHigh (tenths : BitVec 16)
  /-- R639. Input current above 45 A for 100 µs opens the input protection. -/
  | inputOvercurrent
  /-- R5. A CSR read narrower than 64 bits or misaligned returns zero and records event 0x4000. -/
  | narrowCsrRead (p : Port) (off width : Nat)
  /-- R540. With SNAP_DEEP 1, the area-2 snapshot object finishes writing in idle cycles, its header is written last, and it becomes valid as a repair source. -/
  | snapshotDeepWriteComplete
  deriving DecidableEq, Repr

end Sys2Proof
end

