-- ==== Sys2Proof/Machine/State.lean ====
section
/-! DEFINITION. The state of the module: every register, buffer, counter and medium of the spec, and the queue of commands
that wait. Each part's fields carry their own rule and reset value in the Types files. -/
namespace Sys2Proof.Machine

/-- The state of the module. -/
structure State where
  /-- 01. The GLB block's module part. -/
  glb : Glb := {}
  /-- 18. Events, telemetry and service. -/
  ev : EventState := {}
  /-- 02. Beams. -/
  beam : Beam := {}
  /-- 03. Staging and the live image. -/
  img : ImgState := {}
  /-- 19 R637. The live values of the RWS registers. -/
  live : Rws := {}
  /-- 00 R8. The shadow copies of the RWS registers. -/
  shadow : Rws := {}
  /-- 04. Numerics. -/
  num : NumState := {}
  /-- 05. The matrix engines, by 2 × die + u. [16 engines] -/
  me : SMap MeUnit := []
  /-- 07. The vector engines, by 2 × die + u. [16 engines] -/
  ve : SMap VeUnit := []
  /-- 08. The attention engines, by die. [8 engines] -/
  ae : SMap SeqUnit := []
  /-- 08. The gather-scatter engines, by die. [8 engines] -/
  gse : SMap SeqUnit := []
  /-- 08. The layout engines, by die. [8 engines] -/
  lye : SMap SeqUnit := []
  /-- 09. The tile stores: 0 to 7 on the compute dies, 8 on the hub. [9 stores] -/
  tst : SMap TileStore := []
  /-- 10. Placement. -/
  ple : Ple := {}
  /-- 11. Local memory. -/
  lpd : Lpd := {}
  /-- 12. The deep tier. -/
  deep : Deep := {}
  /-- 13. The Soern fabric. -/
  fab : Fab := {}
  /-- 14. The gradient exchange. -/
  rdx : Rdx := {}
  /-- 15. Orbits, captures and restores. -/
  orbit : Orbit := {}
  /-- 16. The host site, copy engines and firewall. -/
  host : HostSite := {}
  /-- 17. Keeper and the security block. -/
  kpr : Keeper := {}
  /-- 17. Lantern. -/
  lnt : Lantern := {}
  /-- 17. The serial NOR. -/
  nor : Nor := {}
  /-- The module's fuses, straps and latent faults: no command writes them but FIRMWARE_TRIAL, which raises the fused
  rollback counter (17 R604). -/
  env : Env := {}
  /-- The model's own: what has left the module, newest first. -/
  out : List Out := []
  /-- The model's own: free values taken so far; the next one is Config's free value at this count. [5] -/
  freeCount : Nat := 1
  /-- The model's own: the commands that wait, first in, first out. -/
  pending : List Instr := []
  deriving DecidableEq, Repr

/-- A stop with a fault. -/
inductive Fault where
  /-- Raised by no meaning: the device's own faults are events of R12 and next states. Safe. -/
  | none
  deriving DecidableEq, Repr

/-- A stop with a refusal. -/
inductive Refusal where
  /-- Raised by `exec` for a command that has no meaning yet, by its mnemonic. Safe. -/
  | notModelled (mnemonic : String)
  deriving DecidableEq, Repr

/-- The machine right after a module reset at power-on: LANTERN, the boot ROM running (Table 1.10), every field at its own
default. -/
def State.reset : State := {}

/-- The outcome of a command. -/
abbrev Result := Host.Outcome State Fault Refusal

end Sys2Proof.Machine
end

