-- ==== Sys2Proof/Machine/Events.lean ====
section
/-! DEFINITION. Recording events, raising faults and alarms, changing the module state: chapters 00, 01, 02 and 18. -/
namespace Sys2Proof.Machine

/-! ## Records (R616 to R620, R606) -/

/-- DETAIL out of (bytes, value) pairs, packed without gaps (R617). -/
def detail (xs : List (Nat × Nat)) : Bytes := xs.flatMap (fun p => leBytes p.1 p.2)

/-- The class of a code: 0 information, 1 warning, 2 fault, 3 alarm (R12). -/
def eventClass (code : Nat) : Nat := code / 0x4000

/-- The MODULE field of a record (Table 18.1). -/
def moduleField (g : Glb) : Nat := g.moduleNumber.toNat + (if g.moduleValid then 0x8000 else 0)

/-- The record that an event makes now (R616). -/
def mkRecord (code : Nat) (d : Bytes) (s : State) : EvRecord :=
  { code := code, modNum := moduleField s.glb, seq := s.ev.nextSeq, tick := s.beam.count, rtc := s.lnt.rtc, detail := d }

/-- The capacity of the event log ring of the serial NOR (R618). -/
def logCapacity : Nat := 229376

/-- The record goes into the volatile ring (R618). -/
def keepRecord (r : EvRecord) (s : State) : State :=
  { s with ev := { s.ev with ring := (r :: s.ev.ring).take 4096, nextSeq := s.ev.nextSeq + 1 } }

/-- Writing one more record overwrites an unread one (R619). -/
def logOverflows (n : Nor) : Bool := decide (logCapacity ≤ n.log.length) && decide (logCapacity ≤ n.unread)

/-- Keeper writes the record into the serial NOR ring; an unread record that must be overwritten is counted (R618, R619). -/
def logRecord (r : EvRecord) (s : State) : State :=
  if eventClass r.code = 0 then s else
  let lose := logOverflows s.nor
  { s with
    nor := { s.nor with log := (r :: s.nor.log).take logCapacity, unread := min (s.nor.unread + 1) logCapacity }
    ev := { s.ev with
            lost := if lose then BitVec.ofNat 32 (satAdd 32 s.ev.lost.toNat 1) else s.ev.lost,
            lostRun := lose } }

/-- The MSI-X vector of a class (R620). -/
def vectorOf (code : Nat) : Nat := 3 - eventClass code

/-- A record, or an advance of WRITE_SEQ, signals its vector: at most one message in each period (R620). -/
def signal (v : Nat) (s : State) : State :=
  let m := SMap.get s.ev.msix v {}
  if !m.sent && s.host.hostUp then
    { s with ev := { s.ev with msix := SMap.set s.ev.msix v { m with sent := true } {} }, out := .msix v :: s.out }
  else
    { s with ev := { s.ev with msix := SMap.set s.ev.msix v { m with owed := true } {} } }

/-- The data byte of the in-band interrupt of a class (R606): none for information. -/
def ibiByte (code : Nat) : Option Byte :=
  match eventClass code with
  | 1 => some 0x02
  | 2 => some 0x03
  | 3 => some 0x01
  | _ => none

/-- An in-band interrupt goes out when the event is recorded, if they are enabled (R606). -/
def interrupt (code : Nat) (s : State) : State :=
  match ibiByte code with
  | some b => if s.kpr.ibi then { s with out := .ibi b :: s.out } else s
  | none => s

/-- One record, delivered. -/
def recordOne (code : Nat) (d : Bytes) (s : State) : State :=
  let r := mkRecord code d s
  interrupt code (signal (vectorOf code) (logRecord r (keepRecord r s)))

/-- Records an event (R12, R616); a run of lost log records raises 0x1202 once, with the count so far (R619). -/
def record (code : Nat) (d : Bytes) (s : State) : State :=
  let t := recordOne code d s
  if t.ev.lostRun && !s.ev.lostRun then recordOne 0x1202 (detail [(4, t.ev.lost.toNat)]) t else t

/-! ## Module state (R33, R34) -/

/-- The code of a module state (Table 1.7). -/
def ModState.code : ModState → Nat
  | .off => 0
  | .lantern => 1
  | .ready => 2
  | .armed => 3
  | .running => 4
  | .halted => 5
  | .hostLost => 6
  | .recovery => 7

/-- The module changes state and records event 0x0100 with the old and the new state (R34). -/
def setState (n : ModState) (s : State) : State :=
  record 0x0100 (detail [(1, ModState.code s.glb.state), (1, ModState.code n)])
    { s with glb := { s.glb with prev := s.glb.state, state := n } }

/-- ARMED or RUNNING. -/
def inJob (s : State) : Bool := s.glb.state == .armed || s.glb.state == .running

/-! ## Time of the beam (R61, R62, R74, R81) -/

/-- P of the live set. -/
def periodOf (r : Rws) : Nat := bits r.period.toNat 31 0

/-- E of the live set. -/
def eclipseOf (r : Rws) : Nat := bits r.eclipse.toNat 31 0

/-- N = P / 75 000, at least 1. -/
def beamTicks (r : Rws) : Nat := max 1 (periodOf r / 75000)

/-- P − E, where the eclipse starts. -/
def eclipseStart (r : Rws) : Nat := periodOf r - eclipseOf r

/-- The beam number under the live period, as BEAM_NUMBER reports it (R81). -/
def beamNumber (s : State) : Nat := s.beam.count.toNat / beamTicks s.live

/-- The set whose P and E the job group's beams follow: the staged one while ARMED, which every member has armed, and the live one
otherwise (R82 to R86; DEDUCED, log 29). -/
def jobRws (s : State) : Rws := if s.glb.state = .armed then s.shadow else s.live

/-- The beam number of the job group (R81). -/
def jobBeam (s : State) : Nat := s.beam.count.toNat / beamTicks (jobRws s)

/-- The halt tick of a halt raised now (R74). -/
def haltTickNow (s : State) : Nat :=
  (jobBeam s + (if s.beam.offset < eclipseStart (jobRws s) then 1 else 2)) * beamTicks (jobRws s)

/-! ## Links of the group (R438, R467) -/

/-- The image whose job group the module is a member of: the armed one while ARMED, the live one otherwise. -/
def groupImage (s : State) : Option Image := if s.glb.state = .armed then s.img.checked else s.img.live

/-- The module numbers of the job group. -/
def groupOf (s : State) : List Nat :=
  match groupImage s with
  | some i => i.group
  | none => []

/-- What a link holds; an unlisted link is down. -/
def linkOf (s : State) (l : Nat) : Link := SMap.get s.fab.links l {}

/-- A member link: up, its far end a member of this module's group (R438). -/
def isMember (s : State) (l : Nat) : Bool :=
  let k := linkOf s l
  k.state == 2 && k.peerValid && (groupOf s).contains k.peerModule && k.peerModule != s.glb.moduleNumber.toNat

/-- The member links. -/
def memberLinks (s : State) : List Nat := (List.range 48).filter (isMember s)

/-- The links that are up. -/
def upLinks (s : State) : List Nat := (List.range 48).filter (fun l => (linkOf s l).state == 2)

/-- A write to one link. -/
def setLink (l : Nat) (k : Link) (s : State) : State :=
  { s with fab := { s.fab with links := SMap.set s.fab.links l k {} } }

/-- A change of one link. -/
def updLink (l : Nat) (f : Link → Link) (s : State) : State := setLink l (f (linkOf s l)) s

/-- A change of each of the given links. -/
def updLinks (ls : List Nat) (f : Link → Link) (s : State) : State :=
  { s with fab := { s.fab with
      links := ls.foldl (fun m l => SMap.set m l (f (SMap.get m l {})) {}) s.fab.links } }

/-- The HALT block of this module's group (Table 13.1). -/
def haltBlock (s : State) (origin tick : Nat) : Ctl :=
  .halt (BitVec.ofNat 24 ((groupImage s).elim 0 (fun i => i.jobId.toNat))) origin (tick % 2 ^ 32)

/-- Queues a HALT block on the given links. -/
def sendHalt (ls : List Nat) (origin tick : Nat) (s : State) : State :=
  let b := haltBlock s origin tick
  updLinks ls (fun k => { k with halts := k.halts ++ [b] }) s

/-- The earlier of a pending halt and a new one (R467). -/
def earliestHalt (old : Option PendingHalt) (new : PendingHalt) : PendingHalt :=
  match old with
  | some h => if new.tick < h.tick then new else h
  | none => new

/-- A halt of this module: its engines stop at once, and a HALT block goes out on every member link (R73, R467). -/
def raiseHalt (s : State) : State :=
  if inJob s then
    let t := haltTickNow s
    let me := s.glb.moduleNumber.toNat
    let s' := { s with
      beam := { s.beam with stopped := true, halt := some (earliestHalt s.beam.halt ⟨t, me⟩) },
      fab := { s.fab with haltSeen := if s.fab.haltSeen.contains t then s.fab.haltSeen else t :: s.fab.haltSeen } }
    if s.fab.haltSeen.contains t then s' else sendHalt (memberLinks s) me t s'
  else s

/-- Raises a fault: the record, this member's first fault of the beam, and the halt (R12, R73, R624, R626). -/
def raiseFault (code : Nat) (d : Bytes) (s : State) : State :=
  let t := record code d s
  raiseHalt { t with beam := { t.beam with ownFault := if inJob s && t.beam.ownFault = 0 then code else t.beam.ownFault } }

/-! ## Alarms (R612, R613) -/

/-- The level of an alarm code in Table 17.8, or HALT for another. -/
def factoryLevel (code : Nat) : Nat :=
  if code = 0xD100 || code = 0xD101 || code = 0xD102 then 1
  else if code = 0xD105 then 3
  else 2

/-- The level that a policy record names for a code: entry by entry (R612). -/
def policyLevel (policy : Bytes) (code : Nat) : Option Nat :=
  ((List.range (natAt policy 4 4)).find? (fun i => natAt policy (64 + 4 * i) 2 == code)).map
    (fun i => natAt policy (64 + 4 * i + 2) 1)

/-- The level of an alarm: 1 LOG, 2 HALT, 3 ZEROIZE (R612). -/
def alarmLevel (n : Nor) (code : Nat) : Nat :=
  match n.policy with
  | some p => (policyLevel p code).getD (factoryLevel code)
  | none => factoryLevel code

/-- ZEROIZE is asked for: its sequence follows (the ZEROIZE command), or waits for the next boot where 56 V is absent (R613). -/
def askZeroize (code : Nat) (s : State) : State :=
  { s with
    lnt := { s.lnt with zeroizeAlarm := code, zeroizePending := s.lnt.zeroizePending || !s.lnt.power }
    kpr := { s.kpr with zeroizeBusy := s.kpr.zeroizeBusy || s.lnt.power } }

/-- Raises an alarm and applies its level (R613). -/
def raiseAlarm (code : Nat) (d : Bytes) (s : State) : State :=
  let t := record code d s
  match alarmLevel s.nor code with
  | 2 => raiseHalt t
  | 3 => askZeroize code (raiseHalt t)
  | _ => t

end Sys2Proof.Machine
end

