-- ==== Sys2Proof/Machine/Local.lean ====
section
/-! DEFINITION. Local memory: the address map, the write-combining buffers, reads and writes of T1 (chapter 11). -/
namespace Sys2Proof.Machine

/-- What a read of a memory delivers: its bytes, and whether they are marked poisoned. -/
structure MemRead where
  data : Bytes
  poison : Bool
  deriving DecidableEq, Repr

/-! ## The address map (R383 to R385) -/

/-- 4.5 GiB, the size of a unit (R383). -/
def unitBytes : Nat := 4831838208

/-- T1_CAP (R384). -/
def t1Cap (l : Lpd) : Nat := l.units.length * unitBytes

/-- The unit of a local offset (R385). -/
def unitAt (l : Lpd) (a : Nat) : Nat := l.units.getD (a / 256 % l.units.length) 0

/-- The package of a unit (R383). -/
def packageOf (u : Nat) : Nat := u % 64 / 4

/-- The package, hence the controller, of a local offset. -/
def packageAt (l : Lpd) (a : Nat) : Nat := packageOf (unitAt l a)

/-- The compute die whose controllers drive a package (R16). -/
def dieOfPackage (p : Nat) : Nat := p / 2

/-- A run of n bytes from a lies in backed T1. -/
def backed (l : Lpd) (a n : Nat) : Bool := decide (a + n ≤ t1Cap l)

/-- The lines that a run of n bytes from a touches. -/
def linesOf (a n : Nat) : List Nat :=
  if n = 0 then [] else (List.range ((a + n - 1) / 64 - a / 64 + 1)).map (· + a / 64)

/-- The unit of a line has failed (R390). -/
def lineFailed (l : Lpd) (line : Nat) : Bool := l.failed.contains (unitAt l (line * 64))

/-! ## The write-combining buffers (R397 to R401) -/

/-- The bytes of every buffer entry, by local offset. -/
def wcbBytes (l : Lpd) (a n : Nat) : SMap Byte :=
  (l.wcb.flatMap (fun c => c.2.filter (fun e => a < e.line * 64 + 64 && e.line * 64 < a + n))).foldl
    (fun m e => SMap.overlay (SMap.shift e.bytes (e.line * 64)) m) []

/-- What a byte of T1 that no entry lists reads as: zero once T1 has been zeroed, undefined otherwise (R39, R590, R614). -/
def unlistedByte (l : Lpd) (a : Nat) : Byte := if l.generation = 0 then 0 else Config.undefinedByte l.generation a

/-- Entries in canonical form: where an unlisted byte reads as zero, no zero is listed. -/
def canonCells (l : Lpd) (m : SMap Byte) : SMap Byte := if l.generation = 0 then m.filter (fun e => e.2 != 0) else m

/-- The n bytes of T1 from local offset a, as a read delivers them: buffer entries over the packages' data (R397). -/
def t1Bytes (l : Lpd) (a n : Nat) : Bytes :=
  SMap.fill (unlistedByte l) n a
    (SMap.slice (SMap.overlay (wcbBytes l a n) (SMap.slice l.cells a n)) a n)

/-- An entry is written to its package: whole where its 64 bytes are valid, merged by a read where they are not; a line of a
failed unit keeps nothing (R390, R399). -/
def writeOut (l : Lpd) (e : WcbEntry) : Lpd :=
  let whole := decide (e.bytes.length = 64)
  { l with
    cells := if lineFailed l e.line then l.cells else canonCells l (SMap.overlay (SMap.shift e.bytes (e.line * 64)) l.cells),
    mergeReads := if whole then l.mergeReads else satAdd 32 l.mergeReads 1 }

/-- The entries of a controller's buffer, oldest first. -/
def wcbOf (l : Lpd) (p : Nat) : List WcbEntry := SMap.get l.wcb p []

/-- A controller's buffer replaced. -/
def setWcb (l : Lpd) (p : Nat) (es : List WcbEntry) : Lpd := { l with wcb := SMap.set l.wcb p es [] }

/-- The oldest entry of a buffer is written out (R399). -/
def writeOutOldest (l : Lpd) (p : Nat) : Lpd :=
  match wcbOf l p with
  | [] => l
  | e :: es => writeOut (setWcb l p es) e

/-- The entries of a buffer that satisfy a test are written out, oldest first. -/
def writeOutWhere (l : Lpd) (p : Nat) (f : WcbEntry → Bool) : Lpd :=
  ((wcbOf l p).filter f).foldl writeOut (setWcb l p ((wcbOf l p).filter (fun e => !f e)))

/-- Every entry of every buffer is written out (R401, R402, R624 step 3). -/
def flushAll (l : Lpd) : Lpd := (List.range 16).foldl (fun l p => writeOutWhere l p (fun _ => true)) l

/-- The entries that hold lines written by a logical engine's task are written out for its completion record (R400). -/
def flushWriter (l : Lpd) (w : Nat) : Lpd :=
  let n := (l.wcb.flatMap (fun c => c.2.filter (fun e => e.writers.contains w))).length
  let l' := (List.range 16).foldl (fun l p => writeOutWhere l p (fun e => e.writers.contains w)) l
  { l' with recordFlushes := satAdd 32 l'.recordFlushes n }

/-- No entry names a logical engine as a writer: its next task has written nothing yet (R400). -/
def forgetWriter (l : Lpd) (w : Nat) : Lpd :=
  { l with wcb := l.wcb.map (fun c => (c.1, c.2.map (fun e => { e with writers := e.writers.erase w }))) }

/-- Places for an entry: 512 (chapter 11, Write-combining buffer). -/
def wcbSize : Nat := 512

/-- The writers of an entry with one more. -/
def addWriter (w : Option Nat) (ws : List Nat) : List Nat :=
  match w with
  | some x => if ws.contains x then ws else x :: ws
  | none => ws

/-- A controller accepts bytes of one line: they merge into the line's entry, or take a new one (R397, R399). -/
def acceptLine (w : Option Nat) (l : Lpd) (c : Nat × Nat × Bytes) : Lpd :=
  if lineFailed l c.1 then l else
  let p := packageAt l (c.1 * 64)
  if (wcbOf l p).any (fun e => e.line == c.1) then
    setWcb l p ((wcbOf l p).map (fun e =>
      if e.line = c.1 then { e with bytes := SMap.writeAll e.bytes c.2.1 c.2.2, writers := addWriter w e.writers } else e))
  else
    let l' := if wcbSize ≤ (wcbOf l p).length then writeOutOldest l p else l
    setWcb l' p (wcbOf l' p ++ [{ line := c.1, bytes := SMap.keyed c.2.1 c.2.2, writers := addWriter w [] }])

/-- A run of bytes cut at line boundaries: line, first byte within it, bytes. The fuel bounds the number of lines. -/
def lineChunks : Nat → Nat → Bytes → List (Nat × Nat × Bytes)
  | 0, _, _ => []
  | n + 1, a, bs =>
    if bs.isEmpty then []
    else (a / 64, a % 64, bs.take (64 - a % 64)) :: lineChunks n (a / 64 * 64 + 64) (bs.drop (64 - a % 64))

/-- T1 with a run of bytes written at a local offset; w is the logical engine whose task writes it. -/
def t1Store (l : Lpd) (a : Nat) (bs : Bytes) (w : Option Nat) : Lpd :=
  (lineChunks (bs.length / 64 + 2) a bs).foldl (acceptLine w) l

/-! ## The canonical form -/

/-- The entries of a controller's buffer: lines of that controller, no line twice, the bytes of each in order and within the line. -/
def wcbWf (l : Lpd) (p : Nat) : List WcbEntry → Bool
  | [] => true
  | e :: es => packageAt l (e.line * 64) == p && SMap.sorted e.bytes && e.bytes.all (fun b => decide (b.1 < 64))
      && !es.any (fun x => x.line == e.line) && wcbWf l p es

/-- T1 is in canonical form: addresses strictly rising, no zero listed where an unlisted byte reads as zero, and well-formed buffers. -/
def Lpd.wf (l : Lpd) : Bool :=
  SMap.sorted l.cells && (l.generation != 0 || l.cells.all (fun e => e.2 != 0)) && SMap.wf l.wcb [] && l.wcb.all (fun c => wcbWf l c.1 c.2)

/-! ## The host region and the image store (R24, R548) -/

/-- Bytes of the image store. -/
def imageStoreBytes : Nat := 4 * 2 ^ 30

/-- The start of the image store, 4 GiB below T1_CAP. -/
def imageStoreBase (l : Lpd) : Nat := t1Cap l - imageStoreBytes

/-- Bytes of the host region. -/
def regionSize (h : HostSite) : Nat := h.regionGib * 2 ^ 30

/-- A run of bytes at an offset lies within the host region. -/
def inRegion (h : HostSite) (off n : Nat) : Bool := decide (off + n ≤ regionSize h)

/-- The lines of the host region that a span touches, counted from the region's first line. -/
def regionLines (h : HostSite) (a n : Nat) : List Nat :=
  ((linesOf a n).filter (fun x => decide (h.regionBase / 64 ≤ x) && decide (x < (h.regionBase + regionSize h) / 64))).map
    (fun x => x - h.regionBase / 64)

/-- Each line of the host region that the device writes is back-invalidated before the host sees it (R550). -/
def tellHost (a n : Nat) (s : State) : State :=
  if s.host.hostUp then { s with out := ((regionLines s.host a n).map Out.backInvalidate).reverse ++ s.out } else s

/-- A write to T1 by the device, or on behalf of another than the host die (R397, R550). -/
def t1Write (a : Nat) (bs : Bytes) (w : Option Nat) (s : State) : State :=
  tellHost a bs.length { s with lpd := t1Store s.lpd a bs w }

/-! ## Reads and their retries (R390 to R394) -/

/-- The lines of a transfer whose link ECC fails on every retry. -/
def badLines (s : State) (a n : Nat) : List Nat := (linesOf a n).filter (fun x => s.env.badT1.contains x && !lineFailed s.lpd x)

/-- Three retries are counted on a unit (R392, Table 11.8, Table 11.9). -/
def countRetries (l : Lpd) (u : Nat) : Lpd :=
  { l with retries := satAdd 32 l.retries 3,
           info := SMap.modify l.info u {} (fun i => { i with retries := satAdd 16 i.retries 3 }) }

/-- The three retries of a transfer have not helped: fault 0x8B00 with the unit and the requester (R392). -/
def retriesExhausted (line : Nat) (who : Nat) (s : State) : State :=
  let u := unitAt s.lpd (line * 64)
  raiseFault 0x8B00 (detail [(1, u), (2, who)]) { s with lpd := countRetries s.lpd u }

/-- Bytes of a package without read link ECC whose transfer met an error: the spec gives them no value (R394). -/
def garbled (n : Nat) (s : State) : Bytes × State :=
  ((List.range n).map (Config.undefinedByte (s.freeCount + 1)), { s with freeCount := s.freeCount + 1 })

/-- A read of n bytes of T1 at a local offset for a requester (R390, R392, R394, R397). -/
def t1Read (who a n : Nat) (s : State) : MemRead × State :=
  match badLines s a n with
  | [] => (⟨t1Bytes s.lpd a n, (linesOf a n).any (lineFailed s.lpd)⟩, s)
  | x :: _ =>
    if s.lpd.noEcc.contains (packageAt s.lpd (x * 64)) then
      (⟨(garbled n s).1, false⟩, (garbled n s).2)
    else (⟨t1Bytes s.lpd a n, true⟩, retriesExhausted x who s)

/-- The code of a requester that is no engine: 0 host, 1 partner, 2 peers, 3 Soern, 4 placement, 5 Keeper. -/
def requesterCode (k : Nat) : Nat := (Config.requester k).toNat

end Sys2Proof.Machine
end

