-- ==== Sys2Proof/Machine/Store.lean ====
section
/-! DEFINITION. The tile stores: banks, words, engine ports, ECC and the redirection of the background test (chapter 09). -/
namespace Sys2Proof.Machine

/-- What a tile store holds; an unlisted store is as reset left it. -/
def tstOf (s : State) (t : Nat) : TileStore := SMap.get s.tst t {}

/-- One tile store replaced. -/
def setTst (t : Nat) (x : TileStore) (s : State) : State := { s with tst := SMap.set s.tst t x {} }

/-- One tile store changed. -/
def updTst (t : Nat) (f : TileStore → TileStore) (s : State) : State := setTst t (f (tstOf s t)) s

/-- Banks of a tile store: 16 on the hub, 32 on a compute die. -/
def bankCount (t : Nat) : Nat := if t = 8 then 16 else 32

/-- A physical bank is out of service as retired (R334): its record stands, or was cleared since the module reset (Table 18.5). -/
def bankRetired (n : Nor) (t b : Nat) : Bool := n.retiredBanks.contains (t * 32 + b) || n.clearedBanks.contains (t * 32 + b)

/-- The in-service physical banks of a tile store, upward from bank 0 (R313). -/
def liveBanks (n : Nor) (t : Nat) : List Nat := (List.range (bankCount t)).filter (fun b => !bankRetired n t b)

/-- The physical bank of a logical bank (R313). -/
def physBank (n : Nor) (t l : Nat) : Option Nat := (liveBanks n t)[l]?

/-- Words of a bank. -/
def bankWords : Nat := 65536

/-- The physical word, bank × 65 536 + word, of word j of the partition of k logical banks from `first` (R312). -/
def wordPlace (n : Nor) (t first k j : Nat) : Option Nat :=
  if k = 0 then none
  else if bankWords ≤ j / k then none
  else (physBank n t (first + j % k)).map (fun b => b * bankWords + j / k)

/-! ## Contents (R311, R329, R332) -/

/-- The first word of the region that the save buffer stands for. -/
def redirected (x : TileStore) : Option Nat :=
  match x.failedRegion with
  | some w => some w
  | none => if x.testing then some (x.bank * bankWords + x.region * 1024) else none

/-- A word of the redirected region: its place in the save buffer. -/
def saveSlot (x : TileStore) (w : Nat) : Option Nat :=
  match redirected x with
  | some base => if base ≤ w && w < base + 1024 then some (w - base) else none
  | none => none

/-- The 64 bytes of a word, as any master reads them. -/
def wordBytes (x : TileStore) (w : Nat) : Bytes :=
  let g := SMap.get x.undef w 0
  if g ≠ 0 then (List.range 64).map (fun i => Config.undefinedByte g (w * 64 + i))
  else match saveSlot x w with
    | some k => SMap.read x.save (k * 64) 64 (fun _ => 0)
    | none => SMap.read x.cells (w * 64) 64 (fun _ => 0)

/-- A word written whole (R329, R332). -/
def putWord (x : TileStore) (w : Nat) (b : Bytes) : TileStore :=
  let y := { x with undef := SMap.set x.undef w 0 0 }
  match saveSlot x w with
  | some k => { y with save := SMap.write x.save (k * 64) b 0 }
  | none => { y with cells := SMap.write x.cells (w * 64) b 0 }

/-- What the ECC finds at a word: 0 clean, 1 corrected, 2 uncorrectable (R311, R329). -/
def eccOf (s : State) (t w : Nat) : Nat :=
  let x := tstOf s t
  let g := SMap.get x.undef w 0
  if g ≠ 0 then min 2 (Config.undefinedEcc g w).toNat
  else if (saveSlot x w).isSome then 0
  else match SMap.get s.env.badT0 (t * 2 ^ 21 + w) none with
    | some true => 2
    | some false => 1
    | none => 0

/-- What the ECC's finding does: a count, and event 0x4900 where the word is delivered poisoned (R311). -/
def noteEcc (t w : Nat) (s : State) : State :=
  match eccOf s t w with
  | 0 => s
  | 1 => updTst t (fun x => { x with corrected := satAdd 32 x.corrected 1 }) s
  | _ => record 0x4900 (detail [(1, t), (1, w / bankWords), (2, w % bankWords)])
          (updTst t (fun x => { x with uncorrectable := satAdd 32 x.uncorrectable 1 }) s)

/-- A read of the given words, in order (R311). -/
def readWords (t : Nat) (ws : List Nat) (s : State) : MemRead × State :=
  (⟨ws.flatMap (wordBytes (tstOf s t)), ws.any (fun w => decide (eccOf s t w = 2))⟩,
   ws.foldl (fun s w => noteEcc t w s) s)

/-- Whole words written from a run of bytes, in order. -/
def putWords : List Nat → Bytes → TileStore → TileStore
  | [], _, x => x
  | w :: ws, b, x => putWords ws (b.drop 64) (putWord x w (b.take 64))

/-! ## Ports (R321, R322, R325) -/

/-- What TST_OWNERb holds. -/
def ownerOf (x : TileStore) (b : Nat) : BankOwner := SMap.get x.owner b {}

/-- An engine port may use a bank: its partition lists the engine, and the bank is ON (R322). -/
def portAllows (x : TileStore) (m b : Nat) : Bool := (ownerOf x b).power == 0 && (ownerOf x b).mask.testBit m

/-- The words of a run within a partition, none where one has no physical bank. -/
def runWords (n : Nor) (t first k j len : Nat) : Option (List Nat) :=
  (List.range len).mapM (fun i => wordPlace n t first k (j + i))

/-- The engine code of R617: die, or 8 for the hub, and master. -/
def engineCode (die m : Nat) : Nat := die * 256 + m

/-- The bank at which an engine port's access of the given words is refused (R322). -/
def refusedBank (x : TileStore) (m : Nat) (ws : List Nat) : Option Nat :=
  (ws.find? (fun w => !portAllows x m (w / bankWords))).map (· / bankWords)

/-- Clocks that a transfer of a master waited (R325); an engine master never waits for a non-engine one (R322). -/
def countWaits (t m : Nat) (s : State) : State :=
  let w := Config.waited (s.freeCount + 1)
  let engine := if t = 8 then decide (m < 2) else decide (m < 7)
  updTst t (fun x => { x with conflict := SMap.modify x.conflict m (0, 0) (fun c =>
      (satAdd 32 c.1 w.1.toNat, if engine then c.2 else satAdd 32 c.2 w.2.toNat)) })
    { s with freeCount := s.freeCount + 1 }

/-- An access of engine master m to a word outside its partitions: fault 0x8900 (R322). -/
def portFault (t m b : Nat) (s : State) : State := raiseFault 0x8900 (detail [(1, t), (1, m), (1, b)]) s

/-- Is m an engine master of tile store t (Table 9.3)? -/
def engineMaster (t m : Nat) : Bool := if t = 8 then decide (m < 2) else decide (m < 7)

/-- The bank at which a master's access is refused: engine ports alone are (R322). -/
def portRefusal (s : State) (t m : Nat) (ws : List Nat) : Option Nat :=
  if engineMaster t m then refusedBank (tstOf s t) m ws else none

/-- A read of len words of a partition by master m; none where the port is refused or the words do not exist. -/
def t0Read (t m first k j len : Nat) (s : State) : Option MemRead × State :=
  match runWords s.nor t first k j len with
  | none => (none, portFault t m (first + j % max 1 k) s)
  | some ws =>
    match portRefusal s t m ws with
    | some b => (none, portFault t m b s)
    | none => (some (readWords t ws s).1, countWaits t m (readWords t ws s).2)

/-- A write of whole words into a partition by master m; false where the port is refused. -/
def t0Write (t m first k j : Nat) (b : Bytes) (s : State) : Bool × State :=
  match runWords s.nor t first k j (b.length / 64) with
  | none => (false, portFault t m (first + j % max 1 k) s)
  | some ws =>
    match portRefusal s t m ws with
    | some x => (false, portFault t m x s)
    | none => (true, countWaits t m (updTst t (putWords ws b) s))

/-- The contents of the given words are lost: they are undefined until written whole (R329, R345). -/
def loseWords (t : Nat) (ws : List Nat) (s : State) : State :=
  updTst t (fun x => { x with undef := ws.foldl (fun u w => SMap.set u w (s.freeCount + 1) 0) x.undef })
    { s with freeCount := s.freeCount + 1 }

/-- The contents of a whole bank are lost. -/
def loseBank (t b : Nat) (s : State) : State :=
  updTst t (fun x => { x with
      cells := SMap.clear x.cells (b * bankWords * 64) (bankWords * 64),
      undef := SMap.writeAll x.undef (b * bankWords) (List.replicate bankWords (s.freeCount + 1)) })
    { s with freeCount := s.freeCount + 1 }

end Sys2Proof.Machine
end

