-- ==== Sys2Proof/Machine/Links.lean ====
section
/-! DEFINITION. What a Soern link sends: control blocks, flits with go-back-N retry, messages and transactions (chapter 13). -/
namespace Sys2Proof.Machine

/-! ## Control blocks (R433 to R435) -/

/-- The block that a link sends in the group that starts at `late` picoseconds after the module's tick, and the link after it
(R434, R435). -/
def nextBlock (late : Nat) (k : Link) : Ctl × Link :=
  let ackBlock : Ctl × Link :=
    if k.nakOwed then (.nak k.expectSeq, { k with nakOwed := false, ackOwed := false, prevAck := true })
    else (.ack k.expectSeq, { k with ackOwed := false, prevAck := true })
  if (k.ackOwed || k.nakOwed) && !k.prevAck then ackBlock
  else match k.halts with
    | h :: r => (h, { k with halts := r, prevAck := false })
    | [] =>
      match k.tick with
      | some c => (.tick (late % 2 ^ 24) (c % 2 ^ 48), { k with tick := none, prevAck := false })
      | none =>
        match k.msgs with
        | m :: r => (m, { k with msgs := r, prevAck := false })
        | [] => if k.ackOwed || k.nakOwed then ackBlock else (.idle, { k with prevAck := false })

/-- The blocks other than IDLE that a link sends in n groups, newest first; group g of the base tick starts at g × 51 200 ps. -/
def linkBlocks (l : Nat) : Nat → Nat → Link → List Out → Link × List Out
  | 0, _, k, out => (k, out)
  | n + 1, g, k, out =>
    match nextBlock (g * 51200) k with
    | (.idle, k') => (k', out)
    | (b, k') => linkBlocks l n (g + 1) k' (.block l b :: out)

/-- Groups that start between a and b clocks after the base tick: one in 76.8 clocks (R431). -/
def groupsBetween (a b : Nat) : Nat := b * 5 / 384 - a * 5 / 384

/-- Every link that is up or training sends the blocks of the groups that pass in n clocks (R434). -/
def passGroups (n : Nat) (s : State) : State :=
  let a := s.beam.sinceTick
  let g := groupsBetween a (a + n)
  if g = 0 then s else
  (List.range 48).foldl (fun s l =>
    let k := linkOf s l
    if k.state == 2 || k.state == 1 then
      let r := linkBlocks l g (a * 5 / 384) k s.out
      { setLink l r.1 s with out := r.2 }
    else s) s

/-! ## Flits and retry (R441 to R443) -/

/-- Flits that may be unacknowledged (R442). -/
def replaySize : Nat := 64

/-- A link sends a flit now, with the next SEQ, and keeps it for replay (R442). -/
def sendNow (l : Nat) (f : Flit) (s : State) : State :=
  let k := linkOf s l
  let f := { f with seq := k.sendSeq }
  { setLink l { k with sendSeq := (k.sendSeq + 1) % 65536, replay := k.replay ++ [f] } s with out := .flit l f :: s.out }

/-- A link sends a flit, or keeps it waiting while 64 are unacknowledged (R442). -/
def sendFlit (l : Nat) (f : Flit) (s : State) : State :=
  let k := linkOf s l
  if k.waiting.isEmpty && decide (k.replay.length < replaySize) then sendNow l f s
  else setLink l { k with waiting := k.waiting ++ [f] } s

/-- Flits in order. -/
def sendFlits (l : Nat) (fs : List Flit) (s : State) : State := fs.foldl (fun s f => sendFlit l f s) s

/-- Waiting flits that find room are sent; the fuel is the number of waiting flits. -/
def sendWaiting (l : Nat) : Nat → State → State
  | 0, s => s
  | n + 1, s =>
    let k := linkOf s l
    match k.waiting with
    | [] => s
    | f :: r =>
      if k.replay.length < replaySize then sendWaiting l n (sendNow l f (setLink l { k with waiting := r } s)) else s

/-- How many flits of a replay buffer lie before a SEQ; none where the SEQ lies outside the window. -/
def ackedCount (k : Link) (seq : Nat) : Option Nat :=
  let d := (seq + 65536 - (k.sendSeq + 65536 - k.replay.length) % 65536) % 65536
  if d ≤ k.replay.length then some d else none

/-- Every flit before a SEQ is acknowledged (R443). -/
def acknowledge (l seq : Nat) (s : State) : State :=
  match ackedCount (linkOf s l) seq with
  | some d =>
    sendWaiting l (linkOf s l).waiting.length (updLink l (fun k => { k with replay := k.replay.drop d }) s)
  | none => s

/-- The unacknowledged flits are sent again in order; one retry is counted (R443, Tables 13.19 and 13.22). -/
def resend (l : Nat) (s : State) : State :=
  let k := linkOf s l
  let s' := { s with out := (k.replay.map (Out.flit l)).reverse ++ s.out }
  { setLink l { k with retries := satAdd 16 k.retries 1 } s' with
    fab := { (setLink l { k with retries := satAdd 16 k.retries 1 } s').fab with retries := satAdd 32 s.fab.retries 1 } }

/-! ## Messages (R464) -/

/-- A message flit of one link. -/
def messageFlit (m : Message) : Flit :=
  { seq := 0, kind := 1, flow := 0xFFFF, dest := m.hdr.dest, hops := 0, first := true, last := true, poison := false,
    data := [], msg := some m }

/-- A message is sent on each of the given links. -/
def sendOn (ls : List Nat) (m : Message) (s : State) : State := ls.foldl (fun s l => sendFlit l (messageFlit m) s) s

/-- A header of this module, with the next message counter (R464). -/
def ownHeader (scope dest : Nat) (s : State) : MsgHeader :=
  { scope := scope, hopsLeft := 15, origin := s.glb.moduleNumber.toNat, dest := dest, id := s.fab.nextMsg }

/-- The message counter rises. -/
def countMessage (s : State) : State := { s with fab := { s.fab with nextMsg := (s.fab.nextMsg + 1) % 2 ^ 32 } }

/-- This module floods a message over the domain (scope 2) or over member links (scope 3). -/
def flood (scope : Nat) (b : MsgBody) (s : State) : State :=
  let h := ownHeader scope 0 s
  sendOn (if scope = 3 then memberLinks s else upLinks s) ⟨h, b⟩
    (countMessage { s with fab := { s.fab with seen := (h.origin, h.id) :: s.fab.seen } })

/-- The first link and hop count of the route to a module (R477). -/
def routeTo (s : State) (m : Nat) : Option (Nat × Nat) := SMap.find? s.fab.routes m

/-- A flit is dropped for want of a route or at the hop limit (R478). -/
def dropFlit (dest : Nat) (s : State) : State :=
  record 0x4D04 (detail [(2, dest)]) { s with fab := { s.fab with drops := satAdd 16 s.fab.drops 1 } }

/-- This module sends a message routed to another (scope 1). -/
def sendRouted (dest : Nat) (b : MsgBody) (s : State) : State :=
  match routeTo s dest with
  | some (l, _) => sendFlit l (messageFlit ⟨ownHeader 1 dest s, b⟩) (countMessage s)
  | none => dropFlit dest (countMessage s)

/-- A flooded message has been seen before (R464). -/
def messageSeen (h : MsgHeader) (s : State) : Bool := s.fab.seen.contains (h.origin, h.id)

/-- A received message goes on: flooded the first time it is seen, or along its route (R464). -/
def forwardMessage (link : Nat) (m : Message) (s : State) : State :=
  match m.hdr.scope with
  | 1 =>
    if m.hdr.dest = s.glb.moduleNumber.toNat then s
    else if m.hdr.hopsLeft = 0 then dropFlit m.hdr.dest s
    else match routeTo s m.hdr.dest with
      | some (l, _) => sendFlit l (messageFlit { m with hdr := { m.hdr with hopsLeft := m.hdr.hopsLeft - 1 } }) s
      | none => dropFlit m.hdr.dest s
  | 2 =>
    if messageSeen m.hdr s then s
    else sendOn ((upLinks s).filter (· != link)) m
      { s with fab := { s.fab with seen := (m.hdr.origin, m.hdr.id) :: s.fab.seen } }
  | 3 =>
    if messageSeen m.hdr s then s
    else sendOn ((memberLinks s).filter (· != link)) m
      { s with fab := { s.fab with seen := (m.hdr.origin, m.hdr.id) :: s.fab.seen } }
  | _ => s

/-- A received message concerns this module: it is no flood seen before, and no message routed elsewhere. -/
def messageForUs (h : MsgHeader) (s : State) : Bool :=
  match h.scope with
  | 1 => h.dest == s.glb.moduleNumber.toNat
  | 2 => !messageSeen h s
  | 3 => !messageSeen h s
  | _ => true

/-! ## Transactions (R459) -/

/-- The 32-byte transaction header of Table 13.6. -/
def txHeader (op status tag src dst addr len aop rfmt operand : Nat) : Bytes :=
  leBytes 1 op ++ leBytes 1 status ++ leBytes 2 tag ++ leBytes 2 src ++ leBytes 2 dst ++ leBytes 8 addr ++ leBytes 4 len
    ++ leBytes 1 aop ++ leBytes 1 rfmt ++ [0, 0] ++ leBytes 8 operand

/-- Pieces of at most 240 bytes; the fuel bounds their number. -/
def pieces240 : Nat → Bytes → List Bytes
  | 0, _ => []
  | n + 1, b => if b.length ≤ 240 then [b] else b.take 240 :: pieces240 n (b.drop 240)

/-- The flits of a transaction (Table 13.2). -/
def txFlits (kind flow dest : Nat) (poison : Bool) (b : Bytes) : List Flit :=
  let ps := pieces240 (b.length / 240 + 1) b
  (List.range ps.length).map (fun i =>
    { seq := 0, kind := kind, flow := flow, dest := dest, hops := 0, first := i == 0, last := i + 1 == ps.length,
      poison := poison, data := ps.getD i [], msg := none })

/-- A hall address (R23). -/
def hallAddress (m offset : Nat) : Nat := m * 2 ^ 45 + offset % 2 ^ 45

/-- The TRANSACTION flow of a logical engine to a target rank, by its index (R457). -/
def txFlow (i : Image) (le target : Nat) : Option Nat :=
  (List.range i.slots.flows.length).find? (fun k =>
    match i.slots.flows[k]? with
    | some f => f.kind == 2 && f.le == le && f.src == i.memberRank && f.dst == target
    | none => false)

/-- Flits queued for the runs of a flow that starts here. -/
def queueFlow (flow : Nat) (resp : Bool) (fs : List Flit) (s : State) : State :=
  { s with fab := { s.fab with outgoing := SMap.modify s.fab.outgoing (2 * flow + b01 resp) [] (· ++ fs) } }

/-- Flits of a free-slot transaction leave on the route to their target, in free windows (R477, R478). -/
def sendFree (dest : Nat) (fs : List Flit) (s : State) : State :=
  match routeTo s dest with
  | some (l, _) => sendFlits l fs s
  | none => dropFlit dest s

/-- A transaction of this module: in the runs of its TRANSACTION flow where it has one, in free windows otherwise. -/
def sendTransaction (flow : Option Nat) (resp : Bool) (dest : Nat) (poison : Bool) (b : Bytes) (s : State) : State :=
  match flow with
  | some f => queueFlow f resp (txFlits 3 f 0 poison b) s
  | none => sendFree dest (txFlits 3 0xFFFF dest poison b) s

/-- Where the owner's mooring of a buoy lies in its T1 (R457, R465). -/
def ownerOffset (s : State) (buoy : Nat) : Nat :=
  (SMap.find? s.fab.ownerAt buoy).getD (Config.ownerOffset buoy).toNat

/-- A read of a tile of another module is outstanding. -/
def readPending (s : State) (buoy tile : Nat) : Bool :=
  s.fab.requests.any (fun r => match r.use with
    | .fetch b t => b == buoy && t == tile
    | .replica b t => b == buoy && t == tile
    | .repair b t => b == buoy && t == tile)

/-- This module asks an owner for a tile of its mooring, once (R457, R459). -/
def readOwner (flow : Option Nat) (target : Nat) (use : ReqUse) (buoy tile pitch : Nat) (s : State) : State :=
  if readPending s buoy tile then s else
  let tag := s.fab.nextTag
  let me := s.glb.moduleNumber.toNat
  let b := txHeader 0x01 0 tag me target (hallAddress target (ownerOffset s buoy + tile * pitch)) pitch 0 0 0
  sendTransaction flow false target false b
    { s with fab := { s.fab with nextTag := (tag + 1) % 65536, requests := s.fab.requests ++ [⟨tag, target, 1, use⟩] } }

end Sys2Proof.Machine
end

