-- ==== Sys2Proof/Machine/Landing.lean ====
section
/-! DEFINITION. The landing windows: their ranges, their readiness and their locks (R563 to R568, R660). -/
namespace Sys2Proof.Machine

/-- APT_LWn_RANGE of a set. -/
def lwRangeOf (r : Rws) (n : Nat) : Nat := (SMap.get r.lwRange n 0).toNat

/-- APT_LWn_CTRL of a set. -/
def lwCtrlOf (r : Rws) (n : Nat) : Nat := (SMap.get r.lwCtrl n 0).toNat

/-- The first byte of a window. -/
def winBase (r : Rws) (n : Nat) : Nat := bits (lwRangeOf r n) 28 0 * 65536

/-- The bytes of a window. -/
def winSize (r : Rws) (n : Nat) : Nat := bits (lwRangeOf r n) 60 32 * 65536

/-- PRODUCER of a window: 1 root port 0, 2 root port 1. -/
def winProducer (r : Rws) (n : Nat) : Nat := bits (lwCtrlOf r n) 1 0

/-- RELEASE of a window. -/
def winRelease (r : Rws) (n : Nat) : Nat := bits (lwCtrlOf r n) 63 32

/-- A window is enabled (R563). -/
def winEnabled (r : Rws) (n : Nat) : Bool := winProducer r n == 1 || winProducer r n == 2

/-- The record line of a span: its last 64 bytes (R563). -/
def recordLine (base size : Nat) : Nat := base + size - 64

/-- FILL_GEN as the device reads it from a span's record line (Table 16.4). -/
def fillGen (s : State) (base size : Nat) : W64 := w64 (leNat (t1Bytes s.lpd (recordLine base size) 8))

/-- CONSUMED_GEN of a window as APT_LWn_GEN holds it. -/
def consumedGen (s : State) (n : Nat) : W64 := SMap.get s.host.lwGen n 0

/-- An unlocked window is ready: FILL_GEN is CONSUMED_GEN + 1 (R565). -/
def winReady (s : State) (n : Nat) : Bool :=
  winEnabled s.live n && fillGen s (winBase s.live n) (winSize s.live n) == consumedGen s n + 1

/-- The two bits of a window in APT_LW_STATUS: 0 disabled, 1 waiting, 2 ready and not locked, 3 locked (Table 16.24). -/
def winState (s : State) (n : Nat) : Nat :=
  match SMap.find? s.host.locked n with
  | some _ => 3
  | none => if !winEnabled s.live n then 0 else if winReady s n then 2 else 1

end Sys2Proof.Machine
end

