-- ==== Sys2Proof/Machine/Crypto.lean ====
section
/-! DEFINITION. CRC-32C, SHA-512, MGF1 and RSASSA-PSS verification, as the published standards give them (00: the terms
keep their standard meanings; R92, R368, R593, R609). -/
namespace Sys2Proof

/-- One byte into a reflected CRC-32C register (polynomial 0x1EDC_6F41 reflected, R368). -/
def crcByte (c : Nat) (b : Byte) : Nat :=
  (List.range 8).foldl (fun c _ => if c % 2 = 1 then (c / 2) ^^^ 0x82F63B78 else c / 2) (c ^^^ b.toNat)

/-- CRC-32C of a byte string (R368). -/
def crc32c (bs : Bytes) : Nat := (bs.foldl crcByte 0xFFFFFFFF) ^^^ 0xFFFFFFFF

/-- The first 80 primes. -/
def shaPrimes : List Nat :=
  [2, 3, 5, 7, 11, 13, 17, 19, 23, 29, 31, 37, 41, 43, 47, 53, 59, 61, 67, 71] ++
  [73, 79, 83, 89, 97, 101, 103, 107, 109, 113, 127, 131, 137, 139, 149, 151, 157, 163, 167, 173] ++
  [179, 181, 191, 193, 197, 199, 211, 223, 227, 229, 233, 239, 241, 251, 257, 263, 269, 271, 277, 281] ++
  [283, 293, 307, 311, 313, 317, 331, 337, 347, 349, 353, 359, 367, 373, 379, 383, 389, 397, 401, 409]

/-- The largest r with r ^ k ≤ n, searched bit by bit from bit b down. -/
def rootFrom (k n : Nat) : Nat → Nat → Nat
  | 0, r => if (r + 1) ^ k ≤ n then r + 1 else r
  | b + 1, r => let r' := r + 2 ^ (b + 1); rootFrom k n b (if r' ^ k ≤ n then r' else r)

/-- SHA-512 round constants: the first 64 fraction bits of the cube roots of the primes. -/
def shaK : List W64 := shaPrimes.map (fun p => w64 (rootFrom 3 (p * 2 ^ 192) 70 0))

/-- SHA-512 initial words: the first 64 fraction bits of the square roots of the first eight primes. -/
def shaInit : List W64 := (shaPrimes.take 8).map (fun p => w64 (rootFrom 2 (p * 2 ^ 128) 70 0))

/-- Message padded to a whole number of 128-byte blocks. -/
def shaPad (m : Bytes) : Bytes :=
  m ++ [0x80] ++ List.replicate ((239 - m.length % 128) % 128) 0 ++ beBytes 16 (8 * m.length)

/-- The message schedule: sixteen words, newest first, extended by n words. -/
def shaExtend : Nat → List W64 → List W64
  | 0, w => w
  | n + 1, w =>
    let g (i : Nat) : W64 := w.getD i 0
    let x := g 14
    let y := g 1
    let s0 := x.rotateRight 1 ^^^ x.rotateRight 8 ^^^ (x >>> 7)
    let s1 := y.rotateRight 19 ^^^ y.rotateRight 61 ^^^ (y >>> 6)
    shaExtend n ((g 15 + s0 + g 6 + s1) :: w)

/-- One round on the eight working words. -/
def shaRound (h : List W64) (kw : W64 × W64) : List W64 :=
  match h with
  | [a, b, c, d, e, f, g, t] =>
    let s1 := e.rotateRight 14 ^^^ e.rotateRight 18 ^^^ e.rotateRight 41
    let ch := (e &&& f) ^^^ (~~~e &&& g)
    let t1 := t + s1 + ch + kw.1 + kw.2
    let s0 := a.rotateRight 28 ^^^ a.rotateRight 34 ^^^ a.rotateRight 39
    let maj := (a &&& b) ^^^ (a &&& c) ^^^ (b &&& c)
    [t1 + (s0 + maj), a, b, c, d + t1, e, f, g]
  | _ => h

/-- One 128-byte block. -/
def shaBlock (k h : List W64) (blk : Bytes) : List W64 :=
  let w := (List.range 16).map (fun i => w64 (beNat ((blk.drop (8 * i)).take 8)))
  let ws := (shaExtend 64 w.reverse).reverse
  List.zipWith (· + ·) h ((k.zip ws).foldl shaRound h)

/-- n blocks of a padded message. -/
def shaBlocks (k : List W64) : Nat → List W64 → Bytes → List W64
  | 0, h, _ => h
  | n + 1, h, m => shaBlocks k n (shaBlock k h (m.take 128)) (m.drop 128)

/-- SHA-512. -/
def sha512 (m : Bytes) : Bytes :=
  let p := shaPad m
  (shaBlocks shaK (p.length / 128) shaInit p).flatMap (fun w => beBytes 8 w.toNat)

/-- MGF1 with SHA-512. -/
def mgf1 (seed : Bytes) (n : Nat) : Bytes :=
  ((List.range (ceilDiv n 64)).flatMap (fun i => sha512 (seed ++ beBytes 4 i))).take n

/-- b ^ e mod m, for an exponent given by its bits, most significant first. -/
def powMod (b m : Nat) : List Bool → Nat → Nat
  | [], a => a
  | d :: r, a => powMod b m r (if d then (a * a % m) * b % m else a * a % m)

/-- The bits of the public exponent 65 537. -/
def exp65537 : List Bool := true :: List.replicate 15 false ++ [true]

/-- Exclusive or of two byte strings of one length. -/
def xorBytes (a b : Bytes) : Bytes := List.zipWith (· ^^^ ·) a b

/-- RSASSA-PSS with SHA-512, MGF1 with SHA-512 and a 64-byte salt, over a 4 096-bit modulus (R92, R609): the message hash
`mhash` is signed by `sig`. -/
def pssVerify (modulus : Nat) (mhash sig : Bytes) : Bool :=
  let s := beNat sig
  let em := beBytes 512 (powMod s modulus exp65537 1)
  let db := em.take 447
  let h := (em.drop 447).take 64
  let top := 2 ^ (8 - (8 * 512 - (modulus.log2)))
  let db' := xorBytes db (mgf1 h 447)
  let db'' := match db' with
    | [] => []
    | b :: r => BitVec.ofNat 8 (b.toNat % top) :: r
  let salt := db''.drop 383
  decide (sig.length = 512 ∧ modulus ≠ 0 ∧ s < modulus) && em.getLast? == some 0xBC
    && db''.take 383 == List.replicate 382 0 ++ [1]
    && decide ((em.headD 0).toNat < top)
    && h == sha512 (List.replicate 8 0 ++ mhash ++ salt)

end Sys2Proof
end

