-- ==== Sys2Proof/Machine/Float.lean ====
section
/-! DEFINITION. Exact values, rounding into a format and correctly rounded arithmetic (chapter 04 and R260 to R266). -/
namespace Sys2Proof

/-! ## Formats (Table 4.1) -/

/-- FP32. -/
def f32 : Fmt := ⟨8, 23, 127, .ieee⟩
/-- BF16. -/
def bf16 : Fmt := ⟨8, 7, 127, .ieee⟩
/-- FP16. -/
def f16 : Fmt := ⟨5, 10, 15, .ieee⟩
/-- E4M3. -/
def e4m3 : Fmt := ⟨4, 3, 7, .nanOnly⟩
/-- E5M2. -/
def e5m2 : Fmt := ⟨5, 2, 15, .ieee⟩
/-- The MXFP6-E2M3 element. -/
def e2m3 : Fmt := ⟨2, 3, 1, .none⟩
/-- The MXFP6-E3M2 element. -/
def e3m2 : Fmt := ⟨3, 2, 3, .none⟩
/-- The MXFP4-E2M1 element. -/
def e2m1 : Fmt := ⟨2, 1, 1, .none⟩

/-- The format that a format code names; none for a reserved code (R126). -/
def elemOf (code : Nat) : Option Elem :=
  match code with
  | 0x01 => some (.fp f32)
  | 0x02 => some (.fp bf16)
  | 0x03 => some (.fp f16)
  | 0x04 => some (.fp e4m3)
  | 0x05 => some (.fp e5m2)
  | 0x08 => some (.mx e4m3)
  | 0x09 => some (.mx e5m2)
  | 0x0A => some (.mx e2m3)
  | 0x0B => some (.mx e3m2)
  | 0x0C => some (.mx e2m1)
  | 0x10 => some .int8
  | 0x11 => some .int32
  | 0x12 => some .uint32
  | _ => none

/-- Bits of one element (Table 4.1). -/
def Fmt.width (f : Fmt) : Nat := 1 + f.exp + f.man

/-- Bits of one element. -/
def Elem.width : Elem → Nat
  | .fp f => f.width
  | .mx f => f.width
  | .int8 => 8
  | .int32 => 32
  | .uint32 => 32

/-- Whether the elements carry MX block scales. -/
def Elem.isMx : Elem → Bool
  | .mx _ => true
  | _ => false

/-- Whether the elements are integers copied and not narrowed (R136). -/
def Elem.isInt32 : Elem → Bool
  | .int32 => true
  | .uint32 => true
  | _ => false

/-- The magnitude code of the largest finite value. -/
def Fmt.maxCode (f : Fmt) : Nat :=
  match f.specials with
  | .ieee => (2 ^ f.exp - 1) * 2 ^ f.man - 1
  | .nanOnly => 2 ^ (f.exp + f.man) - 2
  | .none => 2 ^ (f.exp + f.man) - 1

/-- The exponent of the smallest subnormal. -/
def Fmt.quantum (f : Fmt) : Int := 1 - f.bias - f.man

/-- The value of a finite magnitude code, as mantissa and exponent. -/
def Fmt.magnitude (f : Fmt) (c : Nat) : Nat × Int :=
  let e := c / 2 ^ f.man
  let m := c % 2 ^ f.man
  if e = 0 then (m, f.quantum) else (m + 2 ^ f.man, f.quantum + (e : Int) - 1)

/-- The value of an encoding (R127, R128). -/
def Fmt.decode (f : Fmt) (code : Nat) : Fl :=
  let neg := code.testBit (f.exp + f.man)
  let c := code % 2 ^ (f.exp + f.man)
  if c ≤ f.maxCode then
    let v := f.magnitude c
    .fin neg v.1 v.2
  else
    match f.specials with
    | .ieee => if c = f.maxCode + 1 then .inf neg else .nan
    | _ => .nan

/-- The canonical NaN (Table 4.2); formats without one give zero. -/
def Fmt.nanCode (f : Fmt) : Nat :=
  match f.specials with
  | .ieee => f.maxCode + 1 + (if f.man = 2 then 2 else 2 ^ (f.man - 1))
  | .nanOnly => f.maxCode + 1
  | .none => 0

/-- The sign bit of an encoding. -/
def Fmt.sign (f : Fmt) (neg : Bool) : Nat := if neg then 2 ^ (f.exp + f.man) else 0

/-- The infinity of a sign. -/
def Fmt.infCode (f : Fmt) (neg : Bool) : Nat := f.sign neg + f.maxCode + 1

/-! ## Rounding -/

/-- ⌊log₂ (n / d)⌋ of a positive rational. -/
def floorLog2 (n d : Nat) : Int :=
  let k : Int := (n.log2 : Int) - (d.log2 : Int)
  let ge := if 0 ≤ k then d * 2 ^ k.toNat ≤ n else d ≤ n * 2 ^ (-k).toNat
  if ge then k else k - 1

/-- n / d rounded to an integer by a mode (R141, R145). -/
def roundQuot (mode : Rnd) (n d : Nat) : Nat :=
  let q := n / d
  let r := n % d
  match mode with
  | .rne => if d < 2 * r || (2 * r = d && q % 2 = 1) then q + 1 else q
  | .rtz => q
  | .sr rnd => if rnd < r * 2 ^ 24 / d then q + 1 else q

/-- The magnitude code of (n / d) × 2^e rounded into a format; it may lie above the largest finite code. -/
def Fmt.roundMag (f : Fmt) (mode : Rnd) (n d : Nat) (e : Int) : Nat :=
  if n = 0 then 0 else
  let nn := n * 2 ^ e.toNat
  let dd := d * 2 ^ (-e).toNat
  let q := max (floorLog2 nn dd - f.man) f.quantum
  let m := roundQuot mode (nn * 2 ^ (-q).toNat) (dd * 2 ^ q.toNat)
  (q - f.quantum).toNat * 2 ^ f.man + m

/-! ## Arithmetic flags (Table 7.8) -/

/-- NV. -/
def flagNV : BitVec 5 := 0b00001
/-- DZ. -/
def flagDZ : BitVec 5 := 0b00010
/-- OF. -/
def flagOF : BitVec 5 := 0b00100
/-- NF. -/
def flagNF : BitVec 5 := 0b01000
/-- LC. -/
def flagLC : BitVec 5 := 0b10000

/-- An exact rational result ± n / d × 2^e rounded by RNE: overflow gives an infinity and OF (R260). -/
def Fmt.arith (f : Fmt) (neg : Bool) (n d : Nat) (e : Int) : Nat × BitVec 5 :=
  let c := f.roundMag .rne n d e
  if c ≤ f.maxCode then (f.sign neg + c, 0) else (f.infCode neg, flagOF)

/-- A value rounded by RNE into a format (R260). -/
def Fmt.ofFl (f : Fmt) : Fl → Nat × BitVec 5
  | .nan => (f.nanCode, 0)
  | .inf neg => (f.infCode neg, 0)
  | .fin neg m e => f.arith neg m 1 e

/-! ## Exact values -/

/-- The sign of a value. -/
def Fl.neg : Fl → Bool
  | .nan => false
  | .inf n => n
  | .fin n _ _ => n

/-- Is it a NaN? -/
def Fl.isNan : Fl → Bool
  | .nan => true
  | _ => false

/-- Is it finite? -/
def Fl.isFinite : Fl → Bool
  | .fin _ _ _ => true
  | _ => false

/-- Is it a zero? -/
def Fl.isZero : Fl → Bool
  | .fin _ m _ => m == 0
  | _ => false

/-- The value with its sign changed. -/
def Fl.negate : Fl → Fl
  | .nan => .nan
  | .inf n => .inf (!n)
  | .fin n m e => .fin (!n) m e

/-- The magnitude. -/
def Fl.abs : Fl → Fl
  | .nan => .nan
  | .inf _ => .inf false
  | .fin _ m e => .fin false m e

/-- The value times 2^k. -/
def Fl.scale (k : Int) : Fl → Fl
  | .fin n m e => .fin n m (e + k)
  | x => x

/-- A signed integer times 2^e as a value; zero takes the given sign. -/
def Fl.ofInt (zeroNeg : Bool) (v : Int) (e : Int) : Fl :=
  if v = 0 then .fin zeroNeg 0 e else .fin (decide (v < 0)) v.natAbs e

/-- The signed mantissa at a lower exponent. -/
def Fl.mantAt (neg : Bool) (m : Nat) (e lo : Int) : Int :=
  let v : Int := (m : Int) * (2 ^ (e - lo).toNat : Nat)
  if neg then -v else v

/-- The exact sum. -/
def Fl.add : Fl → Fl → Fl
  | .nan, _ => .nan
  | _, .nan => .nan
  | .inf a, .inf b => if a = b then .inf a else .nan
  | .inf a, _ => .inf a
  | _, .inf b => .inf b
  | .fin a m e, .fin b n g =>
    let lo := min e g
    Fl.ofInt (a && b) (Fl.mantAt a m e lo + Fl.mantAt b n g lo) lo

/-- The exact product. -/
def Fl.mul : Fl → Fl → Fl
  | .nan, _ => .nan
  | _, .nan => .nan
  | .inf a, .inf b => .inf (a != b)
  | .inf a, .fin b n _ => if n = 0 then .nan else .inf (a != b)
  | .fin a m _, .inf b => if m = 0 then .nan else .inf (a != b)
  | .fin a m e, .fin b n g => .fin (a != b) (m * n) (e + g)

/-- Compares two values, neither a NaN: less than, as exact reals, with −0 equal to +0. -/
def Fl.lt : Fl → Fl → Bool
  | .nan, _ => false
  | _, .nan => false
  | .inf a, .inf b => a && !b
  | .inf a, _ => a
  | _, .inf b => !b
  | .fin a m e, .fin b n g =>
    let lo := min e g
    decide (Fl.mantAt a m e lo < Fl.mantAt b n g lo)

/-- Equality as exact reals. -/
def Fl.eq (a b : Fl) : Bool := !a.isNan && !b.isNan && !Fl.lt a b && !Fl.lt b a

/-- |a| ≥ |b|, for finite values or infinities. -/
def Fl.absGe (a b : Fl) : Bool := !(Fl.lt a.abs b.abs)

/-- An invalid operation: a NaN out of operands of which none is one (R260). -/
def invalid (args : List Fl) (r : Fl) : BitVec 5 :=
  if r.isNan && !args.any Fl.isNan then flagNV else 0

/-! ## Operations on encodings of one format (R260) -/

/-- a + b. -/
def Fmt.add (f : Fmt) (a b : Nat) : Nat × BitVec 5 :=
  let x := f.decode a
  let y := f.decode b
  let r := Fl.add x y
  let c := f.ofFl r
  (c.1, c.2 ||| invalid [x, y] r)

/-- a − b. -/
def Fmt.sub (f : Fmt) (a b : Nat) : Nat × BitVec 5 :=
  let x := f.decode a
  let y := (f.decode b).negate
  let r := Fl.add x y
  let c := f.ofFl r
  (c.1, c.2 ||| invalid [x, y] r)

/-- a × b. -/
def Fmt.mul (f : Fmt) (a b : Nat) : Nat × BitVec 5 :=
  let x := f.decode a
  let y := f.decode b
  let r := Fl.mul x y
  let c := f.ofFl r
  (c.1, c.2 ||| invalid [x, y] r)

/-- a × b + c, rounded once. -/
def Fmt.fma (f : Fmt) (a b c : Nat) : Nat × BitVec 5 :=
  let x := f.decode a
  let y := f.decode b
  let z := f.decode c
  let r := Fl.add (Fl.mul x y) z
  let o := f.ofFl r
  (o.1, o.2 ||| invalid [x, y, z] r)

/-- a / b; a finite non-zero value by zero gives an infinity and DZ (R260). -/
def Fmt.div (f : Fmt) (a b : Nat) : Nat × BitVec 5 :=
  match f.decode a, f.decode b with
  | .nan, _ => (f.nanCode, 0)
  | _, .nan => (f.nanCode, 0)
  | .inf _, .inf _ => (f.nanCode, flagNV)
  | .inf s, .fin t _ _ => (f.infCode (s != t), 0)
  | .fin s _ _, .inf t => (f.sign (s != t), 0)
  | .fin s m e, .fin t n g =>
    if n = 0 then
      if m = 0 then (f.nanCode, flagNV) else (f.infCode (s != t), flagDZ)
    else f.arith (s != t) m n (e - g)

/-- ⌊√n⌋, searched bit by bit. -/
def isqrt (n : Nat) : Nat := 
  let b := n.log2 / 2
  (List.range (b + 1)).foldl (fun r i => let r' := r + 2 ^ (b - i); if r' * r' ≤ n then r' else r) 0

/-- A truncated magnitude with a sticky bit below it, rounded: exact when m holds more bits than the format and one more. -/
def Fmt.sticky (f : Fmt) (neg : Bool) (m : Nat) (inexact : Bool) (e : Int) : Nat × BitVec 5 :=
  f.arith neg (2 * m + b01 inexact) 1 (e - 1)

/-- √(n / d × 2^e), with e even after scaling, to 64 bits and a sticky bit. -/
def sqrtParts (n d : Nat) (e : Int) : Nat × Bool × Int :=
  let e' : Int := if e % 2 = 0 then e else e - 1
  let n' := if e % 2 = 0 then n else 2 * n
  let q := n' * 2 ^ 256 / d
  let r := isqrt q
  (r, decide (r * r ≠ q) || decide (q * d ≠ n' * 2 ^ 256), e' / 2 - 128)

/-- √a; of a negative value other than −0 it is invalid. -/
def Fmt.sqrt (f : Fmt) (a : Nat) : Nat × BitVec 5 :=
  match f.decode a with
  | .nan => (f.nanCode, 0)
  | .inf true => (f.nanCode, flagNV)
  | .inf false => (f.infCode false, 0)
  | .fin s m e =>
    if m = 0 then (f.sign s, 0)
    else if s then (f.nanCode, flagNV)
    else
      let p := sqrtParts m 1 e
      f.sticky false p.1 p.2.1 p.2.2

/-- 1 / √a; of zero it is a division of a finite value by zero. -/
def Fmt.rsqrt (f : Fmt) (a : Nat) : Nat × BitVec 5 :=
  match f.decode a with
  | .nan => (f.nanCode, 0)
  | .inf true => (f.nanCode, flagNV)
  | .inf false => (0, 0)
  | .fin s m e =>
    if m = 0 then (f.infCode s, flagDZ)
    else if s then (f.nanCode, flagNV)
    else
      let p := sqrtParts 1 m (-e)
      f.sticky false p.1 p.2.1 p.2.2

/-- 1 / a. -/
def Fmt.rcp (f : Fmt) (a : Nat) : Nat × BitVec 5 := f.div (f.roundMag .rne 1 1 0) a

/-! ## 2^x and log₂ x, by 256-bit arithmetic (DEDUCED: R260 asks the correctly rounded value of the exact result) -/

/-- Bits kept below the binary point. -/
def expPrec : Nat := 256

/-- 2^(1/2^i) × 2^256 for i from 1 to n, largest first, by repeated square roots. -/
def roots2 : Nat → Nat → List Nat
  | 0, _ => []
  | n + 1, x => let r := isqrt (x * 2 ^ expPrec); r :: roots2 n r

/-- 2^(k / 2^n) × 2^256, truncated, for 0 ≤ k < 2^n: the product of the roots at the set bits of k. -/
def exp2Frac (k n : Nat) : Nat :=
  ((roots2 n (2 ^ (expPrec + 1))).zip (List.range n)).foldl
    (fun a ri => if k.testBit (n - 1 - ri.2) then a * ri.1 / 2 ^ expPrec else a) (2 ^ expPrec)

/-- 2^v of a finite value ± m × 2^e with |v| ≥ 2^−30 and below 2^12: mantissa over 2^256, sticky, exponent. -/
def exp2Parts (neg : Bool) (m : Nat) (e : Int) : Nat × Bool × Int :=
  let n := (-e).toNat
  let v : Int := if neg then -((m * 2 ^ e.toNat : Nat) : Int) else ((m * 2 ^ e.toNat : Nat) : Int)
  let i := Int.fdiv v (2 ^ n : Nat)
  let k := (v - i * (2 ^ n : Nat)).toNat
  (exp2Frac k n, decide (k ≠ 0), i - expPrec)

/-- 2^a (R260). -/
def Fmt.exp2 (f : Fmt) (a : Nat) : Nat × BitVec 5 :=
  match f.decode a with
  | .nan => (f.nanCode, 0)
  | .inf true => (0, 0)
  | .inf false => (f.infCode false, 0)
  | .fin s m e =>
    if m = 0 then (f.roundMag .rne 1 1 0, 0)
    else if (m.log2 : Int) + e < -30 then
      if s then f.sticky false (2 ^ 40 - 1) true (-40) else f.sticky false (2 ^ 40) true (-40)
    else if 12 ≤ (m.log2 : Int) + e then
      if s then (0, 0) else (f.infCode false, flagOF)
    else
      let p := exp2Parts s m e
      f.sticky false p.1 p.2.1 p.2.2

/-- The next n bits of log₂ of x / 2^256, for 2^256 ≤ x < 2^257, most significant first. -/
def log2Bits : Nat → Nat → Nat → Nat
  | 0, _, acc => acc
  | n + 1, x, acc =>
    let y := x * x / 2 ^ expPrec
    if 2 ^ (expPrec + 1) ≤ y then log2Bits n (y / 2) (2 * acc + 1) else log2Bits n y (2 * acc)

/-- log₂ a (R260): of zero −infinity and DZ, of a negative value invalid. -/
def Fmt.log2 (f : Fmt) (a : Nat) : Nat × BitVec 5 :=
  match f.decode a with
  | .nan => (f.nanCode, 0)
  | .inf true => (f.nanCode, flagNV)
  | .inf false => (f.infCode false, 0)
  | .fin s m e =>
    if m = 0 then (f.infCode true, flagDZ)
    else if s then (f.nanCode, flagNV)
    else
      let k := m.log2
      let x := m * 2 ^ (expPrec - k)
      let i : Int := e + k
      let exact := decide (m = 2 ^ k)
      let fr := if exact then 0 else log2Bits 128 x 0
      let v : Int := i * (2 ^ 128 : Nat) + fr
      if exact then f.arith (decide (v < 0)) v.natAbs 1 (-128)
      else if 0 ≤ v then f.sticky false v.natAbs true (-128)
      else f.sticky true (v.natAbs - 1) true (-128)

/-! ## Minimum, maximum and comparison (R261, R264) -/

/-- a is below b, −0 below +0 (R261); neither a NaN. -/
def Fl.below (a b : Fl) : Bool := Fl.lt a b || (Fl.eq a b && a.neg && !b.neg)

/-- The smaller of two encodings; a NaN operand gives the canonical NaN (R261). -/
def Fmt.min (f : Fmt) (a b : Nat) : Nat :=
  let x := f.decode a
  let y := f.decode b
  if x.isNan || y.isNan then f.nanCode else if Fl.below y x then b else a

/-- The larger of two encodings; a NaN operand gives the canonical NaN (R261). -/
def Fmt.max (f : Fmt) (a b : Nat) : Nat :=
  let x := f.decode a
  let y := f.decode b
  if x.isNan || y.isNan then f.nanCode else if Fl.below x y then b else a

/-- The predicate SUB of VCMP (R264); none for a reserved one. -/
def Fl.compare (sub : Nat) (a b : Fl) : Bool :=
  let un := a.isNan || b.isNan
  match sub with
  | 0 => Fl.eq a b
  | 1 => !(Fl.eq a b)
  | 2 => Fl.lt a b
  | 3 => !un && !(Fl.lt b a)
  | 4 => Fl.lt b a
  | 5 => !un && !(Fl.lt a b)
  | 6 => un
  | _ => a.isFinite

/-! ## Narrowing (R136 to R139) -/

/-- Narrows ± n / d × 2^e into a floating-point format: it saturates and never gives an infinity. -/
def Fmt.narrowFin (f : Fmt) (mode : Rnd) (neg : Bool) (n d : Nat) (e : Int) : Nat × NarrowNote :=
  let c := f.roundMag mode n d e
  let sat := decide (f.maxCode < c)
  let c' := if sat then f.maxCode else c
  (f.sign neg + c',
    { flush := decide (c' = 0 ∧ n ≠ 0), subn := decide (c' ≠ 0 ∧ c' < 2 ^ f.man), sat := sat })

/-- Narrows a value scaled by 2^k (R136 to R139). -/
def Fmt.narrow (f : Fmt) (mode : Rnd) (k : Int) : Fl → Nat × NarrowNote
  | .nan => (f.nanCode, { nonfin := true })
  | .inf neg =>
    match f.specials with
    | .ieee => (f.infCode neg, { nonfin := true })
    | _ => (f.nanCode, { nonfin := true })
  | .fin neg m e => f.narrowFin mode neg m 1 (e + k)

/-- Rounds m × 2^e to an integer magnitude. -/
def roundInt (mode : Rnd) (m : Nat) (e : Int) : Nat :=
  roundQuot mode (m * 2 ^ e.toNat) (2 ^ (-e).toNat)

/-- Narrows a value scaled by 2^k into an integer from lo to hi (R137, R138). -/
def narrowInt (mode : Rnd) (lo hi : Int) (k : Int) : Fl → Int × NarrowNote
  | .nan => (0, { nonfin := true })
  | .inf neg => (if neg then lo else hi, { nonfin := true })
  | .fin neg m e =>
    let r := roundInt mode m (e + k)
    let v : Int := if neg then -(r : Int) else r
    if r = 0 then (0, { flush := decide (m ≠ 0) })
    else if v < lo then (lo, { sat := true })
    else if hi < v then (hi, { sat := true })
    else (v, {})

/-- ⌈log₂⌉ of a positive FP32 magnitude, exact (R152). -/
def ceilLog2 (a : Nat) : Int :=
  let v := f32.magnitude (a % 2 ^ 31)
  let k := v.1.log2
  if v.1 = 2 ^ k then v.2 + k else v.2 + k + 1

/-- ⌊log₂⌋ of a positive FP32 magnitude, exact. -/
def floorLog2F32 (a : Nat) : Int :=
  let v := f32.magnitude (a % 2 ^ 31)
  v.2 + v.1.log2

end Sys2Proof
end

