-- ==== Sys2Proof/Machine/Tile.lean ====
section
/-! DEFINITION. Tiles: header, checksum, element packing, widening and narrowing (chapter 04; R336, R367, R368). -/
namespace Sys2Proof

/-! ## Lengths (R336, Table 4.4) -/

/-- L, the payload length of a format; 0 for a reserved code. -/
def payloadLen (code : Nat) : Nat :=
  match elemOf code with
  | none => 0
  | some e => 2048 * e.width + (if e.isMx then 512 else 0)

/-- The pitch of a tile in working form (R336). -/
def tilePitch (code : Nat) : Nat := payloadLen code + 64

/-- T, the tiles of a buoy (R336). -/
def tileCount (size code : Nat) : Nat := if payloadLen code = 0 then 0 else ceilDiv size (payloadLen code)

/-! ## Header (Table 10.6) -/

/-- The 64 header bytes with a given CRC. -/
def Header.bytes (h : Header) (crc : Nat) : Bytes :=
  leBytes 1 h.format ++ leBytes 1 h.tse ++ leBytes 1 (unsigned 8 h.step) ++ [0]
    ++ leBytes 2 (h.flags * 16 + h.codec) ++ [0, 0]
    ++ leBytes 4 h.buoy ++ leBytes 4 h.tile ++ leBytes 4 h.epoch
    ++ leBytes 4 h.payloadLen ++ leBytes 4 h.compressedLen ++ leBytes 4 crc ++ List.replicate 32 0

/-- The fields of 64 header bytes. -/
def Header.parse (b : Bytes) : Header :=
  { format := natAt b 0 1, tse := natAt b 1 1, step := signed 8 (natAt b 2 1), flags := natAt b 4 2 / 16,
    codec := natAt b 4 2 % 16, buoy := natAt b 8 4, tile := natAt b 12 4, epoch := natAt b 16 4,
    payloadLen := natAt b 20 4, compressedLen := natAt b 24 4 }

/-- The CRC-32C of the working form: over the header with CRC zero, then the payload (R368). -/
def tileCrc (b : Bytes) : Nat := crc32c (b.take 28 ++ [0, 0, 0, 0] ++ b.drop 32)

/-- Does a tile in working form pass its CRC-32C? A tile shorter than its header fails. -/
def tileCrcOk (b : Bytes) : Bool := decide (64 ≤ b.length) && decide (natAt b 28 4 = tileCrc b)

/-- A tile in working form out of its header and payload. -/
def makeTile (h : Header) (payload : Bytes) : Bytes :=
  let z := h.bytes 0
  h.bytes (crc32c (z ++ payload)) ++ payload

/-- FLAGS of a header written by the device (R129): BLOCK_AXIS, NONFINITE, SATURATED. -/
def tileFlags (axis nonfinite saturated : Bool) : Nat := b01 axis + 2 * b01 nonfinite + 4 * b01 saturated

/-- The BLOCK_AXIS flag of a header. -/
def Header.axis (h : Header) : Bool := h.flags.testBit 0

/-- The header of a tile in working form (R367). -/
def workHeader (code buoy tile epoch : Nat) (tse : Nat) (step : Int) (flags : Nat) : Header :=
  { format := code, tse := tse, step := step, flags := flags, codec := 0, buoy := buoy, tile := tile,
    epoch := epoch % 2 ^ 32, payloadLen := payloadLen code, compressedLen := payloadLen code }

/-- The numeric header check of R134 fails; `vector` says that the buoy is vector-shaped. -/
def numericBad (h : Header) (code : Nat) (vector : Bool) : Bool :=
  match elemOf h.format with
  | none => true
  | some e =>
    h.format != code || h.tse == 0xFF || (h.axis && (!e.isMx || vector))
      || (e.isInt32 && (h.tse != 127 || h.step != 0))

/-- The identity check of R180 and R251 fails. -/
def identityBad (h : Header) (buoy tile : Nat) : Bool :=
  h.buoy != buoy || h.tile != tile || h.payloadLen != payloadLen h.format

/-! ## Element packing (R131, Table 4.3) -/

/-- Chunks of n bytes as little-endian numbers; the fuel is the number of chunks. -/
def chunksLe (n : Nat) : Nat → Bytes → List Nat
  | 0, _ => []
  | k + 1, b => leNat (b.take n) :: chunksLe n k (b.drop n)

/-- The element codes of an element area, for a width of 32, 16, 8, 6 or 4 bits. -/
def unpackElems (width : Nat) (b : Bytes) : List Nat :=
  if width = 32 then chunksLe 4 16384 b
  else if width = 16 then chunksLe 2 16384 b
  else if width = 8 then (b.take 16384).map (·.toNat)
  else if width = 6 then
    (chunksLe 3 4096 b).flatMap (fun w => [w % 64, w / 64 % 64, w / 4096 % 64, w / 262144 % 64])
  else (b.take 8192).flatMap (fun x => [x.toNat % 16, x.toNat / 16])

/-- Groups of n numbers of w bits packed into one; the fuel is the number of groups. -/
def groupBits (w n : Nat) : Nat → List Nat → List Nat
  | 0, _ => []
  | k + 1, xs => ((xs.take n).reverse.foldl (fun a x => a * 2 ^ w + x % 2 ^ w) 0) :: groupBits w n k (xs.drop n)

/-- The element area that holds 16 384 element codes. -/
def packElems (width : Nat) (xs : List Nat) : Bytes :=
  if width = 32 then xs.flatMap (leBytes 4)
  else if width = 16 then xs.flatMap (leBytes 2)
  else if width = 8 then xs.map (BitVec.ofNat 8)
  else if width = 6 then (groupBits 6 4 4096 xs).flatMap (leBytes 3)
  else (groupBits 4 2 8192 xs).map (BitVec.ofNat 8)

/-- Rows of 128 elements; the fuel is the number of rows. -/
def rowsOf {α : Type} : Nat → List α → List (List α)
  | 0, _ => []
  | k + 1, xs => xs.take 128 :: rowsOf k (xs.drop 128)

/-- The columns of a list of rows, as many as the fuel says. -/
def columnsOf {α : Type} : Nat → List (List α) → List (List α)
  | 0, _ => []
  | k + 1, rows => rows.filterMap List.head? :: columnsOf k (rows.map List.tail)

/-- A 128 × 128 tile of elements transposed. -/
def transpose128 {α : Type} (xs : List α) : List α := (columnsOf 128 (rowsOf 128 xs)).flatten

/-- Elements in the order of their MX blocks, and back: for BLOCK_AXIS 1 blocks run down the columns (R133). -/
def blockOrder {α : Type} (axis : Bool) (xs : List α) : List α := if axis then transpose128 xs else xs

/-- Each of the block scales repeated for the 32 elements of its block. -/
def spreadScales {α : Type} (ss : List α) : List α := ss.flatMap (List.replicate 32)

/-! ## Widening (R130, R135) -/

/-- The value v of an element code. -/
def Elem.value (e : Elem) (c : Nat) : Fl :=
  match e with
  | .fp f => f.decode c
  | .mx f => f.decode c
  | .int8 => Fl.ofInt false (signed 8 c) 0
  | .int32 => Fl.ofInt false (signed 32 c) 0
  | .uint32 => Fl.ofInt false c 0

/-- The element codes of a payload. -/
def payloadCodes (e : Elem) (payload : Bytes) : List Nat := unpackElems e.width payload

/-- The block scales X of an MX payload, one for each element, in element order. -/
def elemScales (e : Elem) (axis : Bool) (payload : Bytes) : List Nat :=
  blockOrder axis (spreadScales ((payload.drop (2048 * e.width)).map (·.toNat)))

/-- The real values of a tile's elements (R130). -/
def tileValues (h : Header) (e : Elem) (payload : Bytes) : List Fl :=
  let k : Int := (h.tse : Int) - 127 - h.step
  if e.isInt32 then (payloadCodes e payload).map e.value
  else if e.isMx then
    List.zipWith (fun c (x : Nat) => if x = 0xFF then Fl.nan else (e.value c).scale (k + (x : Int) - 127))
      (payloadCodes e payload) (elemScales e h.axis payload)
  else (payloadCodes e payload).map (fun c => (e.value c).scale k)

/-- Widening to FP32 (R135). -/
def widenF32 (x : Fl) : Nat := (f32.ofFl x).1

/-- A tile's elements widened to FP32, or its 32-bit integers unchanged. -/
def widenTile (h : Header) (e : Elem) (payload : Bytes) : List Nat :=
  if e.isInt32 then payloadCodes e payload else (tileValues h e payload).map widenF32

/-! ## Philox-4×32-10 (R146) -/

/-- One round. -/
def philoxRound (c : Nat × Nat × Nat × Nat) (k0 k1 : Nat) : Nat × Nat × Nat × Nat :=
  let p0 := 0xD2511F53 * c.1
  let p1 := 0xCD9E8D57 * c.2.2.1
  ((p1 / 2 ^ 32) ^^^ c.2.1 ^^^ k0, p1 % 2 ^ 32, (p0 / 2 ^ 32) ^^^ c.2.2.2 ^^^ k1, p0 % 2 ^ 32)

/-- n rounds from the given key. -/
def philoxRounds : Nat → Nat × Nat × Nat × Nat → Nat → Nat → Nat × Nat × Nat × Nat
  | 0, c, _, _ => c
  | n + 1, c, k0, k1 =>
    philoxRounds n (philoxRound c k0 k1) ((k0 + 0x9E3779B9) % 2 ^ 32) ((k1 + 0xBB67AE85) % 2 ^ 32)

/-- The four words of one call. -/
def philox (c : Nat × Nat × Nat × Nat) (k0 k1 : Nat) : List Nat :=
  let r := philoxRounds 10 c k0 k1
  [r.1, r.2.1, r.2.2.1, r.2.2.2]

/-- The four 24-bit values of elements 4q to 4q + 3 (R146). -/
def srFour (k : SrKey) (q : Nat) : List Nat :=
  (philox (k.tile % 2 ^ 32, k.buoy % 2 ^ 32, k.step % 2 ^ 32,
      k.purpose % 16 * 2 ^ 28 + k.ordinal % 2 ^ 16 * 2 ^ 12 + q % 2 ^ 12)
    (k.seed % 2 ^ 32) (k.seed / 2 ^ 32 % 2 ^ 32)).map (· / 256)

/-- The rounding of each of n × 4 elements. -/
def RoundBy.modes (r : RoundBy) (n : Nat) : List Rnd :=
  match r with
  | .rne => List.replicate (4 * n) .rne
  | .rtz => List.replicate (4 * n) .rtz
  | .sr k => (List.range n).flatMap (fun q => (srFour k q).map Rnd.sr)

/-! ## Narrowing a tile (R136 to R140) -/

/-- The largest finite magnitude among FP32 encodings, as an encoding (R150). -/
def amaxOf (xs : List Nat) : Nat :=
  xs.foldl (fun a x => let m := x % 2 ^ 31; if m < 0x7F800000 then max a m else a) 0

/-- emax of a format for scale selection (R140, R144, R152): the exponent of its largest finite value. -/
def emaxOf : Elem → Int
  | .fp f => f.quantum + ((f.maxCode / 2 ^ f.man : Nat) : Int) - 1 + f.man
  | .mx f => f.quantum + ((f.maxCode / 2 ^ f.man : Nat) : Int) - 1 + f.man
  | _ => 6

/-- The scale X of a block with largest finite source magnitude a (R140). -/
def blockScale (f : Fmt) (a : Nat) (nonfinite : Bool) : Nat :=
  if nonfinite && f.specials == .none then 0xFF
  else if a = 0 then 127
  else (min 254 (max 0 (floorLog2F32 a - emaxOf (.mx f) + 127))).toNat

/-- Blocks of 32 elements; the fuel is the number of blocks. -/
def blocks32 {α : Type} : Nat → List α → List (List α)
  | 0, _ => []
  | k + 1, xs => xs.take 32 :: blocks32 k (xs.drop 32)

/-- Is an FP32 encoding non-finite? -/
def nonfinite32 (x : Nat) : Bool := decide (0x7F800000 ≤ x % 2 ^ 31)

/-- Sums what the notes of a tile's elements say. -/
def sumNotes (n : Narrowed) (notes : List NarrowNote) : Narrowed :=
  notes.foldl (fun n t =>
    { n with conv := n.conv + 1, flush := n.flush + b01 t.flush, subn := n.subn + b01 t.subn,
             sat := n.sat + b01 t.sat, nonfin := n.nonfin + b01 t.nonfin,
             nonfinite := n.nonfinite || t.nonfin, saturated := n.saturated || t.sat }) n

/-- Narrows one element into a non-MX format with the given scale exponent k, the target being x × 2^k (R136). -/
def Elem.narrow (e : Elem) (mode : Rnd) (k : Int) (x : Nat) : Nat × NarrowNote :=
  let v := f32.decode x
  match e with
  | .fp f => f.narrow mode k v
  | .mx f => f.narrow mode k v
  | .int8 => let r := narrowInt mode (-127) 127 k v; (unsigned 8 r.1, r.2)
  | .int32 => let r := narrowInt mode (-(2 ^ 31 - 1)) (2 ^ 31 - 1) k v; (unsigned 32 r.1, r.2)
  | .uint32 => let r := narrowInt mode 0 (2 ^ 32 - 1) k v; (unsigned 32 r.1, r.2)

/-- One MX element: in a block whose scale is 0xFF every element is written as zero, and its result is NaN (R130, R138). -/
def narrowMx (f : Fmt) (mode : Rnd) (scale x : Nat) : Nat × NarrowNote :=
  if scale = 0xFF then (0, { nonfin := true })
  else f.narrow mode (127 - (scale : Int)) (f32.decode x)

/-- Narrows 16 384 FP32 elements into a tile of an element format (R136 to R140). -/
def narrowTile (e : Elem) (axis : Bool) (tse : Nat) (step : Int) (round : RoundBy) (xs : List Nat) : Narrowed :=
  let modes := round.modes 4096
  match e with
  | .mx f =>
    let scales := (blocks32 512 (blockOrder axis xs)).map (fun b => blockScale f (amaxOf b) (b.any nonfinite32))
    let each := blockOrder axis (spreadScales scales)
    let rs := List.zipWith (fun (m : Rnd) (p : Nat × Nat) => narrowMx f m p.1 p.2) modes (each.zip xs)
    sumNotes { payload := packElems f.width (rs.map Prod.fst) ++ scales.map (BitVec.ofNat 8), amax := amaxOf xs,
               allZero := rs.all (fun r => r.1 % 2 ^ (f.exp + f.man) == 0) } (rs.map Prod.snd)
  | _ =>
    let k : Int := 127 - (tse : Int) + step
    let rs := List.zipWith (fun m x => e.narrow m k x) modes xs
    let mag := match e with
      | .fp f => f.exp + f.man
      | _ => e.width
    sumNotes { payload := packElems e.width (rs.map Prod.fst), amax := amaxOf xs,
               allZero := rs.all (fun r => r.1 % 2 ^ mag == 0) } (rs.map Prod.snd)

/-! ## Scale selection (R152, R158) -/

/-- The largest finite value of a format, as a significand and an exponent. -/
def topOf : Elem → Nat × Int
  | .fp f => f.magnitude f.maxCode
  | .mx f => f.magnitude f.maxCode
  | .int8 => (127, 0)
  | _ => (2 ^ 31 - 1, 0)

/-- Is (FP32 magnitude a) × 2^k above the largest finite value of a format? -/
def aboveMax (e : Elem) (a : Nat) (k : Int) : Bool :=
  let v := f32.magnitude (a % 2 ^ 31)
  let mx := topOf e
  Fl.lt (.fin false mx.1 mx.2) (.fin false v.1 (v.2 + k))

/-- select_tse (R152). -/
def selectTse (hist : List W32) (margin : Int) (e : Elem) : Nat :=
  let a := hist.foldl (fun a h => max a h.toNat) 0
  if a = 0 then 127 else
  let x := ceilLog2 a + margin - emaxOf e - 1
  let x' := if aboveMax e a (margin - x) then x + 1 else x
  (min 254 (max 0 (x' + 127))).toNat

/-- select_step (R158). -/
def selectStep (hist : List W32) (e : Elem) (headroom : Nat) : Int :=
  let a := hist.foldl (fun a h => max a h.toNat) 0
  if a = 0 then 0 else
  let x := ceilLog2 a - emaxOf e - 1 + headroom
  let x' := if aboveMax e a (-x) then x + 1 else x
  min 127 (max (-128) (-x'))

end Sys2Proof
end

