-- ==== Sys2Proof/Machine/Codec.lean ====
section
/-! DEFINITION. The stored forms of a tile: codecs 0 to 3 and the plane codec (R369 to R372). -/
namespace Sys2Proof

/-- A tile's bytes with CODEC and COMPRESSED_LEN replaced; its CRC stays (R368). -/
def setCodec (b : Bytes) (codec len : Nat) : Bytes :=
  b.take 4 ++ [BitVec.ofNat 8 (natAt b 4 1 / 16 * 16 + codec)] ++ (b.drop 5).take 19 ++ leBytes 4 len ++ (b.drop 28).take 36

/-- Zero-padded to a multiple of 256 bytes. -/
def pad256 (b : Bytes) : Bytes := b ++ List.replicate (ceilDiv b.length 256 * 256 - b.length) 0

/-- The space a stored tile takes (R370): its header and payload, rounded up to 256 bytes. -/
def footprint (stored : Bytes) : Nat := ceilDiv stored.length 256 * 256

/-- Exponent and mantissa widths of a format that the plane codec takes (R371). -/
def planeWidths (format : Nat) : Option (Nat × Nat) :=
  match elemOf format with
  | some (.fp f) => if f = f32 || f = bf16 || f = f16 then some (f.exp, f.man) else none
  | _ => none

/-- MODE: the most frequent exponent, the smaller one on a tie (R371). -/
def planeMode (es : List Nat) : Nat :=
  let counts := es.foldl (fun (m : SMap Nat) e => SMap.modify m e 0 (· + 1)) []
  (counts.foldl (fun (best : Nat × Nat) (e : Nat × Nat) => if best.2 < e.2 then e else best) (0, 0)).1

/-- The 4-bit code of an exponent (R371). -/
def planeCode (mode e : Nat) : Nat := if mode ≤ e + 7 && e + 7 - mode ≤ 14 then e + 7 - mode else 15

/-- The coded payload of Table 10.8. -/
def planeEncode (e m : Nat) (payload : Bytes) : Bytes :=
  let codes := unpackElems (1 + e + m) payload
  let es := codes.map (fun c => c / 2 ^ m % 2 ^ e)
  let mode := planeMode es
  let esc := es.filter (fun x => planeCode mode x == 15)
  pad256 (leBytes 1 mode ++ [0] ++ leBytes 2 esc.length ++ List.replicate 4 0
    ++ (groupBits 1 8 2048 (codes.map (· / 2 ^ (e + m)))).map (BitVec.ofNat 8)
    ++ (groupBits 4 2 8192 (es.map (planeCode mode))).map (BitVec.ofNat 8)
    ++ esc.map (BitVec.ofNat 8)
    ++ (groupBits m 8 2048 (codes.map (· % 2 ^ m))).flatMap (leBytes m))

/-- n fields of w bits out of a number, lowest first. -/
def fieldsOf (w : Nat) : Nat → Nat → List Nat
  | 0, _ => []
  | n + 1, v => v % 2 ^ w :: fieldsOf w n (v / 2 ^ w)

/-- The exponents that codes and escapes give, none where an escape is missing. -/
def planeExponents (mode : Nat) : List Nat → List Nat → Option (List Nat)
  | [], _ => some []
  | n :: ns, esc =>
    if n = 15 then
      match esc with
      | [] => none
      | x :: r => (planeExponents mode ns r).map (x :: ·)
    else (planeExponents mode ns esc).map ((mode + n - 7) :: ·)

/-- The payload that a coded payload stands for, none where the decoder finds an error (R372). -/
def planeDecode (e m : Nat) (b : Bytes) : Option Bytes :=
  let n := natAt b 2 2
  if b.length != ceilDiv (10248 + n + 2048 * m) 256 * 256 then none else
  let signs := ((b.drop 8).take 2048).flatMap (fun x => fieldsOf 1 8 x.toNat)
  let codes := ((b.drop 2056).take 8192).flatMap (fun x => fieldsOf 4 2 x.toNat)
  let mants := (chunksLe m 2048 (b.drop (10248 + n))).flatMap (fieldsOf m 8)
  (planeExponents (natAt b 0 1) codes (((b.drop 10248).take n).map (·.toNat))).map (fun es =>
    packElems (1 + e + m)
      (List.zipWith (fun (s : Nat) (p : Nat × Nat) => s * 2 ^ (e + m) + p.1 % 2 ^ e * 2 ^ m + p.2) signs (es.zip mants)))

/-- Every element of a non-MX payload has the same bits. -/
def constantPayload (e : Elem) (payload : Bytes) : Bool :=
  let n := e.width / 8
  !e.isMx && n != 0 && payload == (List.replicate 16384 (payload.take n)).flatten

/-- The stored form that the encoder chooses for a tile in working form (R370). -/
def encodeStored (b : Bytes) : Bytes :=
  let payload := b.drop 64
  match elemOf (natAt b 0 1) with
  | none => b
  | some e =>
    if payload.all (· == 0) then setCodec b 2 0
    else if constantPayload e payload then
      setCodec b 3 256 ++ pad256 (payload.take (e.width / 8))
    else
      match planeWidths (natAt b 0 1) with
      | some (x, m) =>
        let c := planeEncode x m payload
        if c.length < payload.length then setCodec b 1 c.length ++ c else b
      | none => b

/-- The CODEC of a stored tile. -/
def storedCodec (b : Bytes) : Nat := natAt b 4 1 % 16

/-- The payload of a stored tile, none where the decoder finds an error (R372). -/
def storedPayload (b : Bytes) : Option Bytes :=
  let payload := b.drop 64
  let len := natAt b 24 4
  let L := payloadLen (natAt b 0 1)
  match elemOf (natAt b 0 1) with
  | none => none
  | some e =>
    if len != payload.length then none
    else match storedCodec b with
      | 0 => if len = L then some payload else none
      | 1 => (planeWidths (natAt b 0 1)).bind (fun w => planeDecode w.1 w.2 payload)
      | 2 => if len = 0 then some (List.replicate L 0) else none
      | 3 => if len = 256 && !e.isMx then some (List.replicate 16384 (payload.take (e.width / 8))).flatten else none
      | _ => none

/-- The working form of a stored tile, none for a tile that is to fail its CRC-32C (R372). -/
def decodeStored (b : Bytes) : Option Bytes :=
  if b.length < 64 then none
  else (storedPayload b).map (fun p => setCodec b 0 p.length ++ p)

end Sys2Proof
end

