-- ==== Sys2Proof/Machine/Place.lean ====
section
/-! DEFINITION. Buoys: their entries, moorings, and the reading and writing of one tile (chapter 10; R178, R192, R193). -/
namespace Sys2Proof.Machine

/-! ## Entries of the live image -/

/-- The BUOYS entry of an identifier. -/
def buoyEntry (i : Image) (id : Nat) : Option BuoyEntry := i.buoys.find? (fun e => e.id == id)

/-- The live BUOYS entry of an identifier. -/
def liveBuoy (s : State) (id : Nat) : Option BuoyEntry := s.img.live.bind (fun i => buoyEntry i id)

/-- The bits of the allocation flags (Table 10.2). -/
def flagBit (name : Nat) (flags : Nat) : Bool := flags.testBit name

/-- Effective flags (R348): STATE ⇒ MUTABLE; MUTABLE ⇒ NO_DEEP; HOST_VISIBLE ⇒ PIN_T1, NO_DEEP and NO_COMPRESS. -/
def effectiveFlags (f : Nat) : Nat :=
  let f := if flagBit 10 f then f ||| 2 ^ 1 else f
  let f := if flagBit 1 f then f ||| 2 ^ 6 else f
  if flagBit 12 f then f ||| (2 ^ 8 + 2 ^ 6 + 2 ^ 5) else f

/-- An effective flag of an entry. -/
def hasFlag (e : BuoyEntry) (b : Nat) : Bool := flagBit b (effectiveFlags e.flags)

/-- This member owns the buoy (R337). -/
def ownedHere (i : Image) (e : BuoyEntry) : Bool := e.ownerRank == i.memberRank || e.ownerRank == 0xFFFFFFFF

/-- The module number of the buoy's owner. -/
def ownerModule (i : Image) (e : BuoyEntry) : Nat := i.group.getD e.ownerRank 0

/-- The tiles of a buoy (R336). -/
def buoyTiles (e : BuoyEntry) : Nat := tileCount e.size e.format

/-- The pitch of a buoy's tiles (R336). -/
def buoyPitch (e : BuoyEntry) : Nat := tilePitch e.format

/-- The length of a buoy's home (R337). -/
def homeBytes (e : BuoyEntry) : Nat := buoyTiles e * buoyPitch e

/-- The physical die of a logical die, 8 for the hub (R115). -/
def physDie (binding : List Nat) (ldie : Nat) : Nat := if ldie = 0xFF then 8 else binding.getD ldie 0

/-- The tile-store master of an engine kind and unit (Tables 3.6 and 9.3). -/
def masterOf (kind unit : Nat) : Nat :=
  match kind with
  | 1 => unit
  | 2 => 2 + unit
  | 3 => 4
  | 4 => 5
  | 5 => 6
  | 8 => 0
  | 9 => 9
  | 10 => 1
  | _ => 0

/-- The code of R617 of a logical engine. -/
def codeOfLe (s : State) (le : Nat) : Nat :=
  match s.img.live.bind (fun i => i.engines[le]?) with
  | some e => engineCode (physDie s.img.binding e.ldie) (masterOf e.kind e.unit)
  | none => engineCode 8 0

/-- The job step number (R147). -/
def jobStep (s : State) : Nat := s.beam.step + s.num.stepBase

/-! ## The buoy table (R339) -/

/-- A buoy-table entry. -/
def buoyOf (s : State) (id : Nat) : BuoyState := SMap.get s.ple.table id {}

/-- A buoy-table entry replaced. -/
def setBuoy (id : Nat) (b : BuoyState) (s : State) : State :=
  { s with ple := { s.ple with table := SMap.set s.ple.table id b {} } }

/-- A buoy-table entry changed. -/
def updBuoy (id : Nat) (f : BuoyState → BuoyState) (s : State) : State := setBuoy id (f (buoyOf s id)) s

/-- The counters of the PLE changed. -/
def updCounts (f : PleCounts → PleCounts) (s : State) : State := { s with ple := { s.ple with counts := f s.ple.counts } }

/-- The tier of a place (Table 10.14). -/
def tierOf : Place → Nat
  | .t0 _ _ _ _ => 0
  | .t1 _ => 1
  | .owner _ => 2
  | .deep _ => 3

/-- A tile access is counted by the tier that served it and its budget (Table 10.21). -/
def countServed (tier budget : Nat) (s : State) : State :=
  updCounts (fun c =>
    if tier < budget then { c with better := satAdd 32 c.better 1 }
    else if tier = budget then { c with atBudget := satAdd 32 c.atBudget 1 }
    else c) s

/-- A tile decoded is counted (Table 10.23). -/
def countDecoded (stored : Bytes) (s : State) : State :=
  if storedCodec stored = 0 then s else updCounts (fun c => { c with decoded := satAdd 32 c.decoded 1 }) s

/-- A tile encoded is counted (Table 10.23). -/
def countEncoded (stored : Bytes) (s : State) : State :=
  if storedCodec stored = 0 then s else updCounts (fun c => { c with encoded := satAdd 32 c.encoded 1 }) s

/-! ## Reading a tile (R178, R179) -/

/-- What a fetch of a tile gives. -/
inductive Fetched where
  /-- the tile in working form; its CRC-32C has passed -/
  | tile (b : Bytes)
  /-- the tile fails its CRC-32C -/
  | failed
  /-- the tile has not arrived from its owner -/
  | waiting
  /-- an engine port was refused: fault 0x8900 has been raised -/
  | refused
  deriving DecidableEq, Repr

/-- A tile's bytes as read pass, or fail, their CRC-32C: a poisoned tile fails it (R311, R407, R421). -/
def checkTile (pitch : Nat) (poison : Bool) (b : Option Bytes) : Fetched :=
  match b with
  | some b => if !poison && b.length == pitch && tileCrcOk b then .tile b else .failed
  | none => .failed

/-- The tile-store master that an engine of code `who` is at store t: its own port, or the hub port from another die (Table 9.3). -/
def masterAt (who t : Nat) : Nat := if who / 256 = t then who % 256 else 7

/-- The first word of a tile in a T0 space. -/
def tileWord (word pitch tile : Nat) : Nat := word + tile * (pitch / 64)

/-- A tile of a T0 space. -/
def fetchT0 (who store first count word pitch tile : Nat) (s : State) : Fetched × State :=
  match t0Read store (masterAt who store) first count (tileWord word pitch tile) (pitch / 64) s with
  | (some r, t) => (checkTile pitch r.poison (some r.data), t)
  | (none, t) => (.refused, t)

/-- A tile of a T1 space in its stored form: its header, then the payload the header names (R369, R372). -/
def fetchT1 (who offset pitch tile : Nat) (compressed : Bool) (s : State) : Fetched × State :=
  let a := offset + tile * pitch
  if compressed then
    let r := t1Read who a pitch s
    let len := min (natAt r.1.data 24 4) (pitch - 64)
    let stored := r.1.data.take (64 + len)
    (checkTile pitch r.1.poison (decodeStored stored), countDecoded stored r.2)
  else
    let r := t1Read who a pitch s
    (checkTile pitch r.1.poison (some r.1.data), r.2)

/-- An object of the deep tier. -/
def deepObj (d : Deep) (n : Nat) : Option DeepObj := d.objects.find? (fun o => o.num == n)

/-- The channel of a tile of an object (R415). -/
def tileChannel (d : Deep) (o : DeepObj) (tile : Nat) : Nat := d.channels.getD ((o.c0 + tile) % d.channels.length) 0

/-- The stored bytes of a tile of an object, none where it cannot be read or was never written (R414, R418, R421). -/
def deepTile (s : State) (n tile : Nat) : Option Bytes :=
  match deepObj s.deep n with
  | none => none
  | some o =>
    if s.env.badDeep.contains (n, tile) || s.deep.failed.contains (tileChannel s.deep o tile) then none
    else SMap.get o.tiles tile none

/-- A tile of a deep-tier object. -/
def fetchDeep (n pitch tile : Nat) (s : State) : Fetched × State :=
  match deepTile s n tile with
  | some b => (checkTile pitch false (decodeStored b), countDecoded b s)
  | none => (.failed, s)

/-- A tile that has arrived from its owner, in its stored form. -/
def arrivedTile (s : State) (buoy tile : Nat) : Option InTile := s.fab.inbox.find? (fun t => t.buoy == buoy && t.tile == tile)

/-- A tile of the owner's mooring: as it has arrived, or asked for (R340, R457). -/
def fetchOwner (le : Option Nat) (e : BuoyEntry) (tile m : Nat) (use : ReqUse) (s : State) : Fetched × State :=
  match arrivedTile s e.id tile with
  | some t =>
    (checkTile (buoyPitch e) false (decodeStored t.bytes),
     countDecoded t.bytes { s with fab := { s.fab with inbox := s.fab.inbox.erase t } })
  | none =>
    let flow := le.bind (fun le => s.img.live.bind (fun i => txFlow i le e.ownerRank))
    (.waiting, readOwner flow m use e.id tile (buoyPitch e) s)

/-- A tile of a mooring, for an engine or the PLE (R178). -/
def fetchFrom (who : Nat) (le : Option Nat) (e : BuoyEntry) (tile : Nat) (mo : Mooring) (use : ReqUse) (s : State) :
    Fetched × State :=
  match mo.place with
  | .t0 store first count word => fetchT0 who store first count word (buoyPitch e) tile s
  | .t1 offset => fetchT1 who offset (buoyPitch e) tile mo.compressed s
  | .owner m => fetchOwner le e tile m use s
  | .deep n => fetchDeep n (buoyPitch e) tile s

/-- A tile of a buoy's authoritative mooring, for an engine's access at a budget tier (R178, Table 10.21). -/
def fetchTile (who le : Nat) (e : BuoyEntry) (tile budget : Nat) (s : State) : Fetched × State :=
  let mo := (buoyOf s e.id).auth
  let r := fetchFrom who (some le) e tile mo (.fetch e.id tile) s
  match r.1 with
  | .tile b => (.tile b, countServed (tierOf mo.place) budget r.2)
  | x => (x, r.2)

/-! ## Writing a tile (R193, R341, R358) -/

/-- A write to a tile discards the retained moorings, marks a tile already copied by a move, and sets LAST_EPOCH (R341, R358,
R373). -/
def noteWrite (step tile : Nat) (b : BuoyState) : BuoyState :=
  { b with
    retained := [],
    lastEpoch := step % 2 ^ 32,
    move := b.move.map (fun m => if tile < m.next && !m.marked.contains tile then { m with marked := m.marked ++ [tile] } else m) }

/-- A SHARED buoy written by its owner is announced in slot 0 of the next beam (R366). -/
def noteShared (e : BuoyEntry) (s : State) : State :=
  if hasFlag e 2 && !s.ple.sharedWritten.contains e.id then
    { s with ple := { s.ple with sharedWritten := s.ple.sharedWritten ++ [e.id] } }
  else s

/-- The stored form of a tile in a mooring (Table 10.7). -/
def storedForm (compressed : Bool) (b : Bytes) : Bytes := if compressed then encodeStored b else b

/-- A tile in working form written into a space; false where an engine port was refused. No engine writes a deep home or another
member's mooring (R348, check 0x4A14). -/
def storeTile (who : Nat) (le : Option Nat) (pitch tile : Nat) (mo : Mooring) (b : Bytes) (s : State) : Bool × State :=
  match mo.place with
  | .t0 store first count word => t0Write store (masterAt who store) first count (tileWord word pitch tile) b s
  | .t1 offset =>
    let x := storedForm mo.compressed b
    (true, countEncoded x (t1Write (offset + tile * pitch) x le s))
  | .owner _ => (true, s)
  | .deep _ => (true, s)

/-- A tile of a buoy written by an engine into its authoritative mooring (R193, R341). -/
def writeTile (who : Nat) (le : Option Nat) (e : BuoyEntry) (tile : Nat) (b : Bytes) (s : State) : Bool × State :=
  let s1 := noteShared e (updBuoy e.id (noteWrite (jobStep s) tile) s)
  storeTile who le (buoyPitch e) tile (buoyOf s e.id).auth b s1

/-! ## Repair requests (R181, R373, R379) -/

/-- A repair of a tile is asked for by an engine that holds, or by the PLE for none (R373, R378). -/
def requestRepair (who : Option Nat) (buoy tile : Nat) (s : State) : State :=
  let ws := match who with
    | some w => [w]
    | none => []
  let rs := s.ple.repairs
  let rs' :=
    if rs.any (fun r => r.buoy == buoy && r.tile == tile) then
      rs.map (fun r => if r.buoy == buoy && r.tile == tile then { r with waiters := r.waiters ++ ws } else r)
    else rs ++ [{ buoy := buoy, tile := tile, waiters := ws, since := s.beam.offset }]
  updBuoy buoy (fun b => { b with phase := .repairing, move := b.move.map (fun m => { m with paused := true }) })
    { s with ple := { s.ple with repairs := rs' } }

end Sys2Proof.Machine
end

