-- ==== Sys2Proof/Machine/Ops.lean ====
section
/-! DEFINITION. The operations that several commands share: time, the staged set, fences, retirement, entering a module state,
the module reset (chapters 01, 03, 09, 11, 17). -/
namespace Sys2Proof.Machine

/-! ## Time (R47, R611) -/

/-- n arithmetic clocks pass: the beam offset and the base tick age, Lantern counts nanoseconds, the links send their blocks. -/
def passClocks (n : Nat) (s : State) : State :=
  let t := passGroups n s
  let ns := t.lnt.rtcThirds + 2 * n
  { t with
    beam := { t.beam with offset := t.beam.offset + n, sinceTick := t.beam.sinceTick + n }
    lnt := { t.lnt with rtc := t.lnt.rtc + BitVec.ofNat 64 (ns / 3), rtcThirds := ns % 3 } }

/-- One clock in which no command arrives: none runs in OFF, where nothing is powered (Table 1.7). -/
def idleClock (s : State) : State := if s.glb.state = .off then s else passClocks 1 s

/-- The clock goes on to an offset of the beam, unless it has passed it. -/
def advanceTo (off : Nat) (s : State) : State := if s.beam.offset < off then passClocks (off - s.beam.offset) s else s

/-! ## The staged set (R104, R116, R122) -/

/-- The staged set is emptied and the shadow copies return to the live values (R104, Table 3.11). -/
def emptyStage (s : State) : State :=
  { s with
    shadow := s.live
    img := { s.img with stage := .empty, kind := .none, staging := [], load := none, checked := none, checkedDigest := [],
                        checkedBinding := [], ownArm := none, voteSent := false, voteResult := none } }

/-- On entry into HALTED or HOST_LOST an armed set is discarded (R36, R122). -/
def discardArmed (s : State) : State := if s.img.stage = .armed then emptyStage s else s

/-- The last event code that chapter 03's rules raised. -/
def noteImgEvent (code : Nat) (s : State) : State := { s with img := { s.img with lastEvent := code } }

/-- An event of chapter 03 (Table 3.13, LAST_EVENT). -/
def recordImg (code : Nat) (d : Bytes) (s : State) : State := noteImgEvent code (record code d s)

/-- RDX_RESTORE_STATUS.STATE reads none again (R543). -/
def dropRestore (s : State) : State := { s with orbit := { s.orbit with restore := 0, restoreObj := 0, restored := none } }

/-- A fence change that takes effect ends a check and its result (R116); the staged set's restore with it (R543). -/
def fenceInvalidates (s : State) : State :=
  if s.img.stage = .checking || s.img.stage = .checked then
    let s := if s.img.kind = .regs then s else dropRestore s
    let back : Stage := if s.img.kind = .regs then .empty else .filling
    let kind : StageKind := if s.img.kind = .regs then .none else s.img.kind
    recordImg 0x4304 [] { s with img := { s.img with stage := back, kind := kind, checked := none, checkedDigest := [], checkedBinding := [] } }
  else s

/-! ## Fences (R28 to R31, R390) -/

/-- Bit n of the eight dies. -/
def dieBit (n : Fin 8) : BitVec 8 := 1#8 <<< n.val

/-- The units of U that belong to a compute die (R16, R383). -/
def dieUnits (l : Lpd) (n : Nat) : List Nat := l.units.filter (fun u => dieOfPackage (packageOf u) == n)

/-- Units that fail while the module is powered (R390). -/
def failUnits (us : List Nat) (l : Lpd) : Lpd := { l with failed := l.failed ++ us.filter (fun u => !l.failed.contains u) }

/-- An engine fence takes effect (R28). -/
def fenceEngineNow (n : Fin 8) (s : State) : State :=
  if s.glb.engineFenced &&& dieBit n = 0 && s.glb.fullFenced &&& dieBit n = 0 then
    fenceInvalidates (record 0x4100 (detail [(1, n.val), (1, (Config.fenceLevel false).toNat)])
      { s with glb := { s.glb with engineFenced := s.glb.engineFenced ||| dieBit n } })
  else s

/-- A full fence takes effect; powered, its units fail (R29, R390). -/
def fenceFullNow (n : Fin 8) (s : State) : State :=
  if s.glb.fullFenced &&& dieBit n = 0 then
    fenceInvalidates (record 0x4100 (detail [(1, n.val), (1, (Config.fenceLevel true).toNat)])
      { s with
        glb := { s.glb with engineFenced := s.glb.engineFenced &&& ~~~ (dieBit n), fullFenced := s.glb.fullFenced ||| dieBit n }
        lpd := failUnits (dieUnits s.lpd n.val) s.lpd })
  else s

/-- A fence is lifted; a die that did not answer stays fenced (R29, R43). -/
def liftFenceNow (n : Fin 8) (s : State) : State :=
  if s.glb.present &&& dieBit n ≠ 0 && (s.glb.engineFenced ||| s.glb.fullFenced) &&& dieBit n ≠ 0 then
    fenceInvalidates (record 0x0101 []
      { s with glb := { s.glb with engineFenced := s.glb.engineFenced &&& ~~~ (dieBit n), fullFenced := s.glb.fullFenced &&& ~~~ (dieBit n) } })
  else s

/-- A fence change takes effect (R31). -/
def applyFence (r : FenceReq) (s : State) : State :=
  match r.kind with
  | .engine => fenceEngineNow r.die s
  | .full => fenceFullNow r.die s
  | .lift => liftFenceNow r.die s

/-- The fences that software or R623 asked for are kept in the serial NOR (R592). -/
def keepFence (r : FenceReq) (n : Nor) : Nor :=
  match r.kind with
  | .engine => { n with engineFences := n.engineFences ||| dieBit r.die }
  | .full => { n with fullFences := n.fullFences ||| dieBit r.die }
  | .lift => { n with engineFences := n.engineFences &&& ~~~ (dieBit r.die), fullFences := n.fullFences &&& ~~~ (dieBit r.die) }

/-- The states in which a fence change takes effect (R31). -/
def fenceState (m : ModState) : Bool := m == .ready || m == .halted || m == .recovery

/-- A fence change is asked for: it takes effect now, or is held (R31). -/
def requestFence (r : FenceReq) (s : State) : State :=
  let t := { s with nor := keepFence r s.nor }
  if fenceState t.glb.state then applyFence r t
  else { t with glb := { t.glb with heldFences := t.glb.heldFences ++ [r] } }

/-- The held fence changes take effect, oldest first (R31). -/
def applyHeld (s : State) : State :=
  s.glb.heldFences.foldl (fun s r => applyFence r s) { s with glb := { s.glb with heldFences := [] } }

/-! ## Eviction, and the retirement of tile-store banks (R334, R363) -/

/-- The physical banks of a partition. -/
def partitionBanks (n : Nor) (t first count : Nat) : List Nat := (List.range count).filterMap (fun i => physBank n t (first + i))

/-- A place uses a physical bank of a tile store. -/
def usesBank (n : Nor) (t b : Nat) : Place → Bool
  | .t0 store first count _ => store == t && (partitionBanks n t first count).contains b
  | _ => false

/-- One tile copied from a mooring to another; a tile that fails is not written (R357). -/
def copyTile (e : BuoyEntry) (src dst : Mooring) (tile : Nat) (s : State) : State :=
  match fetchFrom (engineCode 8 8) none e tile src (.replica e.id tile) s with
  | (.tile b, t) => (storeTile (engineCode 8 8) none (buoyPitch e) tile dst b t).2
  | (_, t) => t

/-- Every tile copied. -/
def copyAll (e : BuoyEntry) (src dst : Mooring) (s : State) : State :=
  (List.range (buoyTiles e)).foldl (fun s j => copyTile e src dst j s) s

/-- The best of a buoy's retained moorings: the one of the fastest tier (R363). -/
def bestRetained (b : BuoyState) : Option Mooring :=
  b.retained.foldl (fun best m =>
    match best with
    | none => some m
    | some x => if tierOf m.place < tierOf x.place then some m else some x) none

/-- A buoy leaves its authoritative mooring: for its best retained one, or by a copy to its home (R363). -/
def evictNow (e : BuoyEntry) (s : State) : State :=
  let b := buoyOf s e.id
  let s1 := match bestRetained b with
    | some m => updBuoy e.id (fun b => { b with auth := m, retained := b.retained.erase m }) s
    | none =>
      let home : Mooring := ⟨b.home, false⟩
      updBuoy e.id (fun b => { b with auth := home }) (copyAll e b.auth home s)
  updCounts (fun c => { c with demotions := satAdd 32 c.demotions 1 }) s1

/-- Placement moves its moorings out of a bank (R320, R334). -/
def vacateBank (t b : Nat) (s : State) : State :=
  s.ple.table.foldl (fun s x =>
    let s := updBuoy x.1 (fun y => { y with
      retained := y.retained.filter (fun m => !usesBank s.nor t b m.place),
      move := y.move.filter (fun m => !usesBank s.nor t b m.dest.place) }) s
    match liveBuoy s x.1 with
    | some e => if usesBank s.nor t b (buoyOf s x.1).auth.place then evictNow e s else s
    | none => s) s

/-- A failing bank is retired: event 0x0901, the save buffer is freed and the test starts again (R334). -/
def retireBank (t b : Nat) (s : State) : State :=
  let s := vacateBank t b s
  record 0x0901 (detail [(1, t), (1, b)])
    (updTst t (fun x => { x with failing := x.failing &&& ~~~ (1#32 <<< b), failedRegion := none, testing := false, save := [], phase := 0 })
      { s with nor := { s.nor with retiredBanks := s.nor.retiredBanks ++ [t * 32 + b] } })

/-- The failing banks of every tile store, as (store, bank). -/
def failingBanks (s : State) : List (Nat × Nat) :=
  (List.range 9).flatMap (fun t => ((List.range (bankCount t)).filter (fun b => (tstOf s t).failing.getLsbD b)).map (fun b => (t, b)))

/-- Every failing bank is retired (R334). -/
def retireFailing (s : State) : State := (failingBanks s).foldl (fun s p => retireBank p.1 p.2 s) s

/-! ## Entering a state (R34, R31, R334, R568) -/

/-- Locked landing windows unlock; CONSUMED_GEN stays (R568). -/
def unlockWindows (s : State) : State := { s with host := { s.host with locked := [] } }

/-- The module enters READY: held fences and retirements take effect, and landing windows unlock (R31, R334, R568). -/
def enterReady (s : State) : State :=
  let unlock := s.glb.state == .running || s.glb.state == .halted || s.glb.state == .recovery
  let t := retireFailing (applyHeld (setState .ready s))
  if unlock then unlockWindows t else t

/-- The module enters RECOVERY for a cause: held fences and retirements take effect (R31, R334). -/
def enterRecoveryFor (c : RecoveryCause) (s : State) : State :=
  retireFailing (applyHeld (setState .recovery { s with glb := { s.glb with recovery := c } }))

/-! ## Module reset (R39) -/

/-- The data groups' failed units that a module reset records as retired: failed, and their die not fully fenced (R390). -/
def unitsToRetire (s : State) : List Nat :=
  s.lpd.failed.filter (fun u => !s.glb.fullFenced.getLsbD (dieOfPackage (packageOf u)) && !s.nor.retiredUnits.contains u)

/-- What a module reset keeps of the deep tier: its media, with the blocks that an erase has still to reach, and the credit in the
serial NOR (R415, R423, R426). -/
def deepAfterReset (d : Deep) : Deep :=
  { erasing := d.erasing, creditNor := d.creditNor, written := d.written, sparePct := d.sparePct, spareSteps := d.spareSteps, objects := d.objects,
    nextObj := d.nextObj }

/-- A module reset: every CSR outside the LNT block at its reset value, the tile stores and accumulators cleared, the links down
until they train, T1 undefined (R39, R40); the units that failed are recorded as retired (R390) and SLOT_ID is read (R650). -/
def moduleReset (s : State) : State :=
  let us := unitsToRetire s
  let t : State :=
    { lnt := s.lnt, nor := { s.nor with retiredUnits := s.nor.retiredUnits ++ us, clearedBanks := [] }, env := s.env, out := s.out,
      pending := s.pending, freeCount := s.freeCount + 1, deep := deepAfterReset s.deep,
      lpd := { generation := s.freeCount + 1 }, kpr := { slotId := s.env.slotPins } }
  us.foldl (fun t u => record 0x0B01 (detail [(1, u), (1, 3)]) t) t

/-- T1 contents are lost (Table 1.7). -/
def loseT1 (s : State) : State :=
  { s with lpd := { s.lpd with cells := [], wcb := [], generation := s.freeCount + 1 }, freeCount := s.freeCount + 1 }

/-- Every tile store and accumulator memory is cleared (R614 step 4). -/
def clearStores (s : State) : State :=
  { s with
    tst := SMap.mapAll s.tst {} (fun x => { x with cells := [], undef := [], save := [] })
    me := SMap.mapAll s.me {} (fun x => { x with slots := [], undefined := 0 }) }

/-- Zero is written to all backed T1 (R590, R614 step 5). -/
def zeroT1 (s : State) : State := { s with lpd := { s.lpd with wcb := [], cells := [], generation := 0 } }

end Sys2Proof.Machine
end

