-- ==== Sys2Proof/Machine/Regs.lean ====
section
/-! DEFINITION. The CSR space: its registers (Tables 19.2 to 19.4), their access codes and fields, and what a write of one
keeps (R4 to R8). -/
namespace Sys2Proof.Machine

/-- Access codes (Table 0.3). -/
inductive RegAccess where
  | ro
  | rw
  | rws
  | wo
  | w1c
  | w1s
  deriving DecidableEq, Repr

/-- Which values a writable field accepts (R4, R7). -/
inductive Takes where
  | any
  | nonZero
  | upTo (n : Nat)
  deriving DecidableEq, Repr

/-- A writable field [hi:lo]. -/
structure Field where
  hi : Nat
  lo : Nat
  takes : Takes
  deriving DecidableEq, Repr

/-- A register's access code, its reserved fields and its writable fields. -/
structure RegSpec where
  access : RegAccess
  reserved : List (Nat × Nat)
  fields : List Field
  deriving DecidableEq, Repr

/-- The registers of a tile store (Table 19.3). -/
inductive TstReg where
  | status
  | ecc
  | testCtrl
  | testStatus
  | laneAddr
  | laneData
  | laneSet
  | laneClr
  | clear
  | owner (n : Nat)
  | conflict (n : Nat)
  deriving DecidableEq, Repr

/-- The registers of an engine sub-block (Table 19.4). -/
inductive EngReg where
  | status
  | busy
  | macs
  | stall
  | counts
  | clear
  | accLast
  | accCounts
  | flags
  | fault
  deriving DecidableEq, Repr

/-- The registers of the device. -/
inductive Reg where
  | glbId
  | glbState
  | glbDieStatus
  | glbCapacity
  | glbModule
  | evStatus
  | evSel
  | evRec (n : Nat)
  | glbTelem
  | glbFencePolicy
  | glbService
  | glbLastHalt
  | beamStatus
  | beamPeriod
  | beamEclipse
  | beamTickCount
  | beamNumber
  | beamOffset
  | beamPosition
  | beamHoldLimit
  | beamIdle
  | beamMasterPrio
  | imgStatus
  | imgCtrl
  | imgLoad
  | imgData
  | imgArm
  | imgCheckDetail
  | imgLiveDigest (n : Nat)
  | imgCommitted
  | imgBinding
  | imgRelease
  | pleStatus
  | pleLookahead
  | plePolicy
  | pleBuoySel
  | pleBuoyInfo
  | pleBuoyMoor
  | pleMoves
  | pleWindows
  | pleEvict
  | pleRepairs
  | pleRepairTime
  | pleServed
  | pleBytes
  | pleCodec
  | pleClear
  | cpyStatus
  | cpyCounts
  | cpyClear
  | fabStatus
  | fabDomain
  | fabLocation
  | fabLinksUp
  | fabLinkDisable
  | fabLinkSel
  | fabLinkInfo
  | fabLinkErr
  | fabRouteSel
  | fabRoute
  | fabCounts
  | fabClear
  | rdxStatus
  | rdxApplied
  | rdxGate
  | rdxGatePolicy
  | rdxEpochSel
  | rdxEpoch
  | rdxLayerSel
  | rdxLayerNorm
  | rdxLayerLr
  | rdxCounts
  | rdxClear
  | rdxNumStatus
  | rdxNumPolicy
  | rdxCensusSel
  | rdxCensusInfo
  | rdxCensusAmax
  | rdxCensusCount (n : Nat)
  | rdxSilent
  | rdxOrbitStatus
  | rdxOrbitHost
  | rdxCapture
  | rdxCkptLast
  | rdxRestore
  | rdxRestoreStatus
  | lpdStatus
  | lpdInservice (n : Nat)
  | lpdUnitSel
  | lpdUnitInfo
  | lpdErrors
  | lpdWcb
  | lpdEclipse
  | lpdClear
  | deepStatus
  | deepWritePolicy
  | deepCredit
  | deepWear
  | deepErase
  | secStatus
  | kprStatus
  | kprFw
  | kprOccupancy
  | kprXferCtrl
  | kprXferStatus
  | kprXferLength
  | kprXferData
  | kprNonce (n : Nat)
  | lntRtc
  | lntRtcAdjust
  | lntTickEst
  | lntComp
  | lntSense
  | lntZeroize
  | fwlStatus
  | fwlLast
  | fwlAlarmRate
  | fwlRange (n : Nat)
  | fwlPerm (n : Nat)
  | aptStatus
  | aptHostRegion
  | aptAperture
  | apertureDrain
  | aptHostFlags
  | aptHostCmd
  | aptPcieLink
  | aptCfgAddr
  | aptCfgData
  | lwRange (n : Nat)
  | lwCtrl (n : Nat)
  | lwGen (n : Nat)
  | lwStatus
  | me (die unit : Nat) (r : EngReg)
  | ve (die unit : Nat) (r : EngReg)
  | ae (die : Nat) (r : EngReg)
  | gse (die : Nat) (r : EngReg)
  | lye (die : Nat) (r : EngReg)
  | tst (store : Nat) (r : TstReg)
  deriving DecidableEq, Repr

/-! ## Offsets -/

/-- The registers of a table at an offset: single ones, and rows of registers as (base, stride, count, register). -/
def lookup {α : Type} (single : List (Nat × α)) (rows : List (Nat × Nat × Nat × (Nat → α))) (off : Nat) : Option α :=
  match single.find? (fun x => x.1 == off) with
  | some x => some x.2
  | none =>
    (rows.find? (fun x => x.1 ≤ off && (off - x.1) % x.2.1 == 0 && (off - x.1) / x.2.1 < x.2.2.1)).map
      (fun x => x.2.2.2 ((off - x.1) / x.2.1))

/-- The single registers of Table 19.2, part 1. -/
def hubRegs1 : List (Nat × Reg) :=
  [(0x0, .glbId),
   (0x8, .glbState),
   (0x10, .glbDieStatus),
   (0x18, .glbCapacity),
   (0x20, .glbModule),
   (0x100, .evStatus),
   (0x108, .evSel),
   (0x150, .glbTelem),
   (0x158, .glbFencePolicy),
   (0x160, .glbService),
   (0x168, .glbLastHalt),
   (0x100000, .beamStatus),
   (0x100008, .beamPeriod),
   (0x100010, .beamEclipse),
   (0x100018, .beamTickCount),
   (0x100020, .beamNumber),
   (0x100028, .beamOffset),
   (0x100030, .beamPosition),
   (0x100038, .beamHoldLimit),
   (0x100040, .beamIdle),
   (0x100048, .beamMasterPrio),
   (0x200000, .imgStatus),
   (0x200008, .imgCtrl),
   (0x200010, .imgLoad)]

/-- The single registers of Table 19.2, part 2. -/
def hubRegs2 : List (Nat × Reg) :=
  [(0x200018, .imgData),
   (0x200020, .imgArm),
   (0x200028, .imgCheckDetail),
   (0x200070, .imgCommitted),
   (0x200078, .imgBinding),
   (0x200080, .imgRelease),
   (0x300000, .pleStatus),
   (0x300008, .pleLookahead),
   (0x300010, .plePolicy),
   (0x300018, .pleBuoySel),
   (0x300020, .pleBuoyInfo),
   (0x300028, .pleBuoyMoor),
   (0x300030, .pleMoves),
   (0x300038, .pleWindows),
   (0x300040, .pleEvict),
   (0x300048, .pleRepairs),
   (0x300050, .pleRepairTime),
   (0x300058, .pleServed),
   (0x300060, .pleBytes),
   (0x300068, .pleCodec),
   (0x300070, .pleClear),
   (0x400000, .cpyStatus),
   (0x400008, .cpyCounts),
   (0x400010, .cpyClear)]

/-- The single registers of Table 19.2, part 3. -/
def hubRegs3 : List (Nat × Reg) :=
  [(0x500000, .fabStatus),
   (0x500008, .fabDomain),
   (0x500010, .fabLocation),
   (0x500018, .fabLinksUp),
   (0x500020, .fabLinkDisable),
   (0x500028, .fabLinkSel),
   (0x500030, .fabLinkInfo),
   (0x500038, .fabLinkErr),
   (0x500040, .fabRouteSel),
   (0x500048, .fabRoute),
   (0x500050, .fabCounts),
   (0x500058, .fabClear),
   (0x600000, .rdxStatus),
   (0x600008, .rdxApplied),
   (0x600010, .rdxGate),
   (0x600018, .rdxGatePolicy),
   (0x600020, .rdxEpochSel),
   (0x600028, .rdxEpoch),
   (0x600030, .rdxLayerSel),
   (0x600038, .rdxLayerNorm),
   (0x600040, .rdxLayerLr),
   (0x600048, .rdxCounts),
   (0x600050, .rdxClear),
   (0x600800, .rdxNumStatus)]

/-- The single registers of Table 19.2, part 4. -/
def hubRegs4 : List (Nat × Reg) :=
  [(0x600808, .rdxNumPolicy),
   (0x600810, .rdxCensusSel),
   (0x600818, .rdxCensusInfo),
   (0x600820, .rdxCensusAmax),
   (0x600850, .rdxSilent),
   (0x600900, .rdxOrbitStatus),
   (0x600908, .rdxOrbitHost),
   (0x600910, .rdxCapture),
   (0x600918, .rdxCkptLast),
   (0x600920, .rdxRestore),
   (0x600928, .rdxRestoreStatus),
   (0x700000, .lpdStatus),
   (0x700028, .lpdUnitSel),
   (0x700030, .lpdUnitInfo),
   (0x700038, .lpdErrors),
   (0x700040, .lpdWcb),
   (0x700048, .lpdEclipse),
   (0x700050, .lpdClear),
   (0x800000, .deepStatus),
   (0x800008, .deepWritePolicy),
   (0x800010, .deepCredit),
   (0x800018, .deepWear),
   (0x800020, .deepErase),
   (0x900000, .secStatus)]

/-- The single registers of Table 19.2, part 5. -/
def hubRegs5 : List (Nat × Reg) :=
  [(0xA00000, .kprStatus),
   (0xA00008, .kprFw),
   (0xA00010, .kprOccupancy),
   (0xA00018, .kprXferCtrl),
   (0xA00020, .kprXferStatus),
   (0xA00028, .kprXferLength),
   (0xA00030, .kprXferData),
   (0xB00000, .lntRtc),
   (0xB00008, .lntRtcAdjust),
   (0xB00010, .lntTickEst),
   (0xB00018, .lntComp),
   (0xB00020, .lntSense),
   (0xB00028, .lntZeroize),
   (0xC00000, .fwlStatus),
   (0xC00008, .fwlLast),
   (0xC00010, .fwlAlarmRate),
   (0xD00000, .aptStatus),
   (0xD00008, .aptHostRegion),
   (0xD00010, .aptAperture),
   (0xD00018, .apertureDrain),
   (0xD00020, .aptHostFlags),
   (0xD00028, .aptHostCmd),
   (0xD00030, .aptPcieLink),
   (0xD00040, .aptCfgAddr)]

/-- The single registers of Table 19.2, part 6. -/
def hubRegs6 : List (Nat × Reg) :=
  [(0xD00048, .aptCfgData),
   (0xD00280, .lwStatus)]

/-- The single registers of Table 19.2. -/
def hubRegs : List (Nat × Reg) := hubRegs1 ++ hubRegs2 ++ hubRegs3 ++ hubRegs4 ++ hubRegs5 ++ hubRegs6

/-- The rows of registers of Table 19.2. -/
def hubRows : List (Nat × Nat × Nat × (Nat → Reg)) :=
  [(0x110, 8, 8, .evRec),
   (0x200030, 8, 8, .imgLiveDigest),
   (0x600828, 8, 5, .rdxCensusCount),
   (0x700008, 8, 4, .lpdInservice),
   (0xA00038, 8, 4, .kprNonce),
   (0xC00100, 16, 64, .fwlRange),
   (0xC00108, 16, 64, .fwlPerm),
   (0xD00100, 16, 16, .lwRange),
   (0xD00108, 16, 16, .lwCtrl),
   (0xD00200, 8, 16, .lwGen)]

/-- The registers of a tile store at an offset from its base. -/
def tstRegAt (off : Nat) : Option TstReg :=
  lookup
    [(0x0, .status),
     (0x8, .ecc),
     (0x10, .testCtrl),
     (0x18, .testStatus),
     (0x20, .laneAddr),
     (0x28, .laneData),
     (0x30, .laneSet),
     (0x38, .laneClr),
     (0x40, .clear)]
    [(0x100, 8, 32, .owner),
     (0x200, 8, 12, .conflict)] off

/-- The registers of a matrix engine at an offset from its base. -/
def meRegAt (off : Nat) : Option EngReg :=
  lookup
    [(0x0, .status), (0x8, .busy), (0x10, .macs), (0x18, .stall), (0x20, .counts), (0x28, .clear), (0x30, .accLast), (0x38, .accCounts)] [] off

/-- The registers of a vector engine at an offset from its base. -/
def veRegAt (off : Nat) : Option EngReg :=
  lookup
    [(0x0, .status), (0x8, .flags), (0x10, .busy), (0x18, .counts), (0x20, .fault), (0x28, .clear)] [] off

/-- The registers of an attention engine at an offset from its base. -/
def aeRegAt (off : Nat) : Option EngReg :=
  lookup
    [(0x0, .status), (0x8, .busy), (0x10, .counts), (0x18, .clear)] [] off

/-- The registers of a gather-scatter engine at an offset from its base. -/
def gseRegAt (off : Nat) : Option EngReg :=
  lookup
    [(0x0, .status), (0x10, .counts), (0x18, .clear)] [] off

/-- The registers of a layout engine at an offset from its base. -/
def lyeRegAt (off : Nat) : Option EngReg :=
  lookup
    [(0x0, .status), (0x10, .counts), (0x18, .clear)] [] off

/-- The registers of a compute die, by the offset from its base (Table 19.4). -/
def dieRegAt (die off : Nat) : Option Reg :=
  match off / 0x1000 with
  | 0 => (meRegAt off).map (.me die 0)
  | 1 => (meRegAt (off - 0x1000)).map (.me die 1)
  | 2 => (veRegAt (off - 0x2000)).map (.ve die 0)
  | 3 => (veRegAt (off - 0x3000)).map (.ve die 1)
  | 4 => (aeRegAt (off - 0x4000)).map (.ae die)
  | 5 => (gseRegAt (off - 0x5000)).map (.gse die)
  | 6 => (lyeRegAt (off - 0x6000)).map (.lye die)
  | 7 => (tstRegAt (off - 0x7000)).map (.tst die)
  | _ => none

/-- The register at an offset of the CSR space; none at an unoccupied one (R6, R634). -/
def regAt (off : Nat) : Option Reg :=
  if 0x1000000 ≤ off && off < 0x1800000 then dieRegAt ((off - 0x1000000) / 0x100000) (off % 0x100000)
  else if 0x308000 ≤ off && off < 0x309000 then (tstRegAt (off - 0x308000)).map (.tst 8)
  else lookup hubRegs hubRows off

/-! ## Fields -/

/-- The fields of a tile-store register (Tables 9.6 to 9.15). -/
def TstReg.spec : TstReg → RegSpec
  | .status => ⟨.ro, [], []⟩
  | .ecc => ⟨.ro, [], []⟩
  | .testCtrl => ⟨.rw, [(63, 32), (15, 1)], [⟨31, 16, .any⟩, ⟨0, 0, .any⟩]⟩
  | .testStatus => ⟨.ro, [(31, 22), (15, 13), (7, 3)], []⟩
  | .laneAddr => ⟨.rw, [(63, 27), (2, 0)], [⟨26, 22, .any⟩, ⟨21, 3, .any⟩]⟩
  | .laneData => ⟨.rw, [], [⟨63, 0, .any⟩]⟩
  | .laneSet => ⟨.wo, [], [⟨63, 0, .any⟩]⟩
  | .laneClr => ⟨.wo, [], [⟨63, 0, .any⟩]⟩
  | .clear => ⟨.wo, [(63, 1)], [⟨0, 0, .any⟩]⟩
  | .owner _ => ⟨.ro, [(63, 42)], []⟩
  | .conflict _ => ⟨.ro, [], []⟩

/-- The fields of a matrix-engine register (Tables 5.12 to 5.17, 6.7, 6.8). -/
def meSpec : EngReg → RegSpec
  | .status => ⟨.ro, [(23, 8)], []⟩
  | .busy => ⟨.ro, [], []⟩
  | .macs => ⟨.ro, [], []⟩
  | .stall => ⟨.ro, [], []⟩
  | .counts => ⟨.ro, [], []⟩
  | .clear => ⟨.wo, [(63, 1)], [⟨0, 0, .any⟩]⟩
  | .accLast => ⟨.ro, [(31, 10), (1, 0)], []⟩
  | .accCounts => ⟨.ro, [], []⟩
  | _ => ⟨.ro, [], []⟩

/-- The fields of a vector-engine register (Tables 7.12 to 7.17). -/
def veSpec : EngReg → RegSpec
  | .status => ⟨.ro, [(15, 4)], []⟩
  | .flags => ⟨.ro, [(63, 13), (7, 5)], []⟩
  | .busy => ⟨.ro, [], []⟩
  | .counts => ⟨.ro, [], []⟩
  | .fault => ⟨.ro, [(31, 8)], []⟩
  | .clear => ⟨.wo, [(63, 1)], [⟨0, 0, .any⟩]⟩
  | _ => ⟨.ro, [], []⟩

/-- The fields of a attention-engine register (Tables 8.10 to 8.12, 8.17). -/
def aeSpec : EngReg → RegSpec
  | .status => ⟨.ro, [(7, 4)], []⟩
  | .busy => ⟨.ro, [], []⟩
  | .counts => ⟨.ro, [], []⟩
  | .clear => ⟨.wo, [(63, 1)], [⟨0, 0, .any⟩]⟩
  | _ => ⟨.ro, [], []⟩

/-- The fields of a gather-scatter-engine register (Tables 8.13, 8.14, 8.17). -/
def gseSpec : EngReg → RegSpec
  | .status => ⟨.ro, [(31, 4)], []⟩
  | .counts => ⟨.ro, [], []⟩
  | .clear => ⟨.wo, [(63, 1)], [⟨0, 0, .any⟩]⟩
  | _ => ⟨.ro, [], []⟩

/-- The fields of a layout-engine register (Tables 8.15 to 8.17). -/
def lyeSpec : EngReg → RegSpec
  | .status => ⟨.ro, [(15, 4)], []⟩
  | .counts => ⟨.ro, [], []⟩
  | .clear => ⟨.wo, [(63, 1)], [⟨0, 0, .any⟩]⟩
  | _ => ⟨.ro, [], []⟩

/-- The access code and fields of a register (Tables 19.2 to 19.4 and the field tables of the chapters). -/
def Reg.spec : Reg → RegSpec
  | .glbId => ⟨.ro, [(39, 32)], []⟩
  | .glbState => ⟨.ro, [(63, 16)], []⟩
  | .glbDieStatus => ⟨.ro, [(63, 26)], []⟩
  | .glbCapacity => ⟨.ro, [], []⟩
  | .glbModule => ⟨.ro, [(63, 17), (15, 13)], []⟩
  | .evStatus => ⟨.ro, [], []⟩
  | .evSel => ⟨.rw, [(63, 32)], [⟨31, 0, .any⟩]⟩
  | .evRec _ => ⟨.ro, [], []⟩
  | .glbTelem => ⟨.rw, [(63, 54), (31, 22)], [⟨53, 32, .any⟩, ⟨21, 0, .any⟩]⟩
  | .glbFencePolicy => ⟨.rw, [(63, 32), (15, 8)], [⟨31, 16, .nonZero⟩, ⟨7, 0, .any⟩]⟩
  | .glbService => ⟨.wo, [(31, 8)], [⟨63, 32, .any⟩, ⟨7, 0, (.upTo 6)⟩]⟩
  | .glbLastHalt => ⟨.ro, [(47, 45)], []⟩
  | .beamStatus => ⟨.ro, [(63, 58), (31, 8), (1, 0)], []⟩
  | .beamPeriod => ⟨.rws, [(63, 32)], [⟨31, 0, .nonZero⟩]⟩
  | .beamEclipse => ⟨.rws, [(63, 32)], [⟨31, 0, .nonZero⟩]⟩
  | .beamTickCount => ⟨.ro, [], []⟩
  | .beamNumber => ⟨.ro, [], []⟩
  | .beamOffset => ⟨.ro, [(63, 23)], []⟩
  | .beamPosition => ⟨.ro, [], []⟩
  | .beamHoldLimit => ⟨.rws, [(63, 32)], [⟨31, 0, .any⟩]⟩
  | .beamIdle => ⟨.ro, [], []⟩
  | .beamMasterPrio => ⟨.rw, [(63, 8)], [⟨7, 0, .any⟩]⟩
  | .imgStatus => ⟨.ro, [(15, 11), (7, 6)], []⟩
  | .imgCtrl => ⟨.wo, [(63, 8)], [⟨7, 0, (.upTo 5)⟩]⟩
  | .imgLoad => ⟨.wo, [(31, 20)], [⟨63, 32, .any⟩, ⟨19, 0, .any⟩]⟩
  | .imgData => ⟨.wo, [], [⟨63, 0, .any⟩]⟩
  | .imgArm => ⟨.wo, [], [⟨63, 0, .any⟩]⟩
  | .imgCheckDetail => ⟨.ro, [(39, 32)], []⟩
  | .imgLiveDigest _ => ⟨.ro, [], []⟩
  | .imgCommitted => ⟨.ro, [], []⟩
  | .imgBinding => ⟨.ro, [(63, 32)], []⟩
  | .imgRelease => ⟨.wo, [], [⟨63, 0, .any⟩]⟩
  | .pleStatus => ⟨.ro, [], []⟩
  | .pleLookahead => ⟨.ro, [], []⟩
  | .plePolicy => ⟨.rws, [(63, 34)], [⟨33, 33, .any⟩, ⟨32, 32, .any⟩, ⟨31, 0, .any⟩]⟩
  | .pleBuoySel => ⟨.rw, [(63, 32)], [⟨31, 0, .any⟩]⟩
  | .pleBuoyInfo => ⟨.ro, [(31, 24), (19, 18), (14, 3)], []⟩
  | .pleBuoyMoor => ⟨.ro, [(63, 58)], []⟩
  | .pleMoves => ⟨.ro, [], []⟩
  | .pleWindows => ⟨.ro, [], []⟩
  | .pleEvict => ⟨.ro, [], []⟩
  | .pleRepairs => ⟨.ro, [], []⟩
  | .pleRepairTime => ⟨.ro, [], []⟩
  | .pleServed => ⟨.ro, [], []⟩
  | .pleBytes => ⟨.ro, [], []⟩
  | .pleCodec => ⟨.ro, [], []⟩
  | .pleClear => ⟨.wo, [(63, 1)], [⟨0, 0, .any⟩]⟩
  | .cpyStatus => ⟨.ro, [(63, 16)], []⟩
  | .cpyCounts => ⟨.ro, [], []⟩
  | .cpyClear => ⟨.wo, [(63, 1)], [⟨0, 0, .any⟩]⟩
  | .fabStatus => ⟨.ro, [(63, 46), (31, 6), (2, 0)], []⟩
  | .fabDomain => ⟨.ro, [], []⟩
  | .fabLocation => ⟨.rw, [(63, 17), (15, 13)], [⟨16, 16, .any⟩, ⟨12, 0, .any⟩]⟩
  | .fabLinksUp => ⟨.ro, [(63, 48)], []⟩
  | .fabLinkDisable => ⟨.rw, [(63, 48)], [⟨47, 0, .any⟩]⟩
  | .fabLinkSel => ⟨.rw, [(63, 6)], [⟨5, 0, (.upTo 47)⟩]⟩
  | .fabLinkInfo => ⟨.ro, [(47, 46), (39, 30)], []⟩
  | .fabLinkErr => ⟨.ro, [], []⟩
  | .fabRouteSel => ⟨.rw, [(63, 13)], [⟨12, 0, .any⟩]⟩
  | .fabRoute => ⟨.ro, [(63, 16), (14, 12), (7, 6)], []⟩
  | .fabCounts => ⟨.ro, [], []⟩
  | .fabClear => ⟨.wo, [(63, 1)], [⟨0, 0, .any⟩]⟩
  | .rdxStatus => ⟨.ro, [(63, 8), (5, 5), (3, 2)], []⟩
  | .rdxApplied => ⟨.ro, [], []⟩
  | .rdxGate => ⟨.ro, [], []⟩
  | .rdxGatePolicy => ⟨.rws, [(63, 32)], [⟨31, 0, .any⟩]⟩
  | .rdxEpochSel => ⟨.rw, [(63, 16)], [⟨15, 0, .any⟩]⟩
  | .rdxEpoch => ⟨.ro, [], []⟩
  | .rdxLayerSel => ⟨.rw, [(63, 16)], [⟨15, 0, .any⟩]⟩
  | .rdxLayerNorm => ⟨.ro, [], []⟩
  | .rdxLayerLr => ⟨.ro, [], []⟩
  | .rdxCounts => ⟨.ro, [], []⟩
  | .rdxClear => ⟨.wo, [(63, 1)], [⟨0, 0, .any⟩]⟩
  | .rdxNumStatus => ⟨.ro, [(63, 48)], []⟩
  | .rdxNumPolicy => ⟨.rws, [(63, 56)], [⟨55, 48, (.upTo 8)⟩, ⟨47, 32, .nonZero⟩, ⟨31, 0, .any⟩]⟩
  | .rdxCensusSel => ⟨.rw, [(63, 32)], [⟨31, 0, .any⟩]⟩
  | .rdxCensusInfo => ⟨.ro, [(15, 3)], []⟩
  | .rdxCensusAmax => ⟨.ro, [(63, 32)], []⟩
  | .rdxCensusCount _ => ⟨.ro, [], []⟩
  | .rdxSilent => ⟨.rw, [(31, 16)], [⟨15, 0, .any⟩]⟩
  | .rdxOrbitStatus => ⟨.ro, [(15, 3)], []⟩
  | .rdxOrbitHost => ⟨.wo, [(31, 2)], [⟨63, 32, .any⟩, ⟨1, 1, .any⟩, ⟨0, 0, .any⟩]⟩
  | .rdxCapture => ⟨.w1s, [(63, 10), (7, 3)], [⟨2, 2, .any⟩, ⟨1, 1, .any⟩, ⟨0, 0, .any⟩]⟩
  | .rdxCkptLast => ⟨.ro, [(63, 58)], []⟩
  | .rdxRestore => ⟨.wo, [(63, 58)], [⟨57, 0, .any⟩]⟩
  | .rdxRestoreStatus => ⟨.ro, [(31, 2)], []⟩
  | .lpdStatus => ⟨.ro, [(63, 32), (15, 9)], []⟩
  | .lpdInservice _ => ⟨.ro, [], []⟩
  | .lpdUnitSel => ⟨.rw, [(63, 8)], [⟨7, 0, .any⟩]⟩
  | .lpdUnitInfo => ⟨.ro, [(39, 32), (15, 4)], []⟩
  | .lpdErrors => ⟨.ro, [], []⟩
  | .lpdWcb => ⟨.ro, [], []⟩
  | .lpdEclipse => ⟨.ro, [(15, 0)], []⟩
  | .lpdClear => ⟨.wo, [(63, 1)], [⟨0, 0, .any⟩]⟩
  | .deepStatus => ⟨.ro, [(63, 24), (22, 20)], []⟩
  | .deepWritePolicy => ⟨.rw, [(63, 48)], [⟨47, 32, .nonZero⟩, ⟨31, 16, .any⟩, ⟨15, 0, .any⟩]⟩
  | .deepCredit => ⟨.ro, [], []⟩
  | .deepWear => ⟨.ro, [], []⟩
  | .deepErase => ⟨.wo, [(55, 4)], [⟨63, 56, .any⟩, ⟨3, 0, .any⟩]⟩
  | .secStatus => ⟨.ro, [(47, 4)], []⟩
  | .kprStatus => ⟨.ro, [(47, 8), (3, 2)], []⟩
  | .kprFw => ⟨.ro, [], []⟩
  | .kprOccupancy => ⟨.ro, [(31, 11), (7, 7)], []⟩
  | .kprXferCtrl => ⟨.wo, [(63, 16)], [⟨15, 8, .any⟩, ⟨7, 0, (.upTo 6)⟩]⟩
  | .kprXferStatus => ⟨.ro, [(7, 3)], []⟩
  | .kprXferLength => ⟨.ro, [], []⟩
  | .kprXferData => ⟨.rw, [], [⟨63, 0, .any⟩]⟩
  | .kprNonce _ => ⟨.rw, [], [⟨63, 0, .any⟩]⟩
  | .lntRtc => ⟨.ro, [], []⟩
  | .lntRtcAdjust => ⟨.wo, [], [⟨63, 0, .any⟩]⟩
  | .lntTickEst => ⟨.ro, [], []⟩
  | .lntComp => ⟨.w1c, [(63, 14), (7, 6)], [⟨13, 8, .any⟩]⟩
  | .lntSense => ⟨.ro, [(63, 48)], []⟩
  | .lntZeroize => ⟨.ro, [(31, 1)], []⟩
  | .fwlStatus => ⟨.ro, [], []⟩
  | .fwlLast => ⟨.ro, [(59, 45)], []⟩
  | .fwlAlarmRate => ⟨.rw, [(63, 32)], [⟨31, 0, .any⟩]⟩
  | .fwlRange _ => ⟨.rws, [(63, 61), (31, 29)], [⟨60, 32, .any⟩, ⟨28, 0, .any⟩]⟩
  | .fwlPerm _ => ⟨.rws, [(63, 3)], [⟨2, 2, .any⟩, ⟨1, 1, .any⟩, ⟨0, 0, .any⟩]⟩
  | .aptStatus => ⟨.ro, [(47, 40), (31, 4)], []⟩
  | .aptHostRegion => ⟨.ro, [(63, 57), (47, 45)], []⟩
  | .aptAperture => ⟨.rw, [(63, 13)], [⟨12, 0, .any⟩]⟩
  | .apertureDrain => ⟨.ro, [], []⟩
  | .aptHostFlags => ⟨.w1s, [], [⟨63, 0, .any⟩]⟩
  | .aptHostCmd => ⟨.wo, [(63, 8)], [⟨7, 0, (.upTo 2)⟩]⟩
  | .aptPcieLink => ⟨.ro, [], []⟩
  | .aptCfgAddr => ⟨.rw, [(63, 29), (1, 0)], [⟨28, 28, .any⟩, ⟨27, 20, .any⟩, ⟨19, 15, .any⟩, ⟨14, 12, .any⟩, ⟨11, 2, .any⟩]⟩
  | .aptCfgData => ⟨.rw, [(63, 33)], [⟨31, 0, .any⟩]⟩
  | .lwRange _ => ⟨.rws, [(63, 61), (31, 29)], [⟨60, 32, .any⟩, ⟨28, 0, .any⟩]⟩
  | .lwCtrl _ => ⟨.rws, [(31, 2)], [⟨63, 32, .any⟩, ⟨1, 0, (.upTo 2)⟩]⟩
  | .lwGen _ => ⟨.ro, [], []⟩
  | .lwStatus => ⟨.ro, [(63, 32)], []⟩
  | .me _ _ r => meSpec r
  | .ve _ _ r => veSpec r
  | .ae _ r => aeSpec r
  | .gse _ r => gseSpec r
  | .lye _ r => lyeSpec r
  | .tst _ r => r.spec

/-- A field accepts a value. -/
def Takes.accepts : Takes → Nat → Bool
  | .any, _ => true
  | .nonZero, x => x != 0
  | .upTo n, x => x ≤ n

/-- What the writable fields hold after a write of v: a field given a reserved encoding keeps its old value, and reserved bits
are discarded (R4, R7). -/
def acceptFields (fs : List Field) (old v : Nat) : Nat :=
  fs.foldl (fun acc f =>
    let x := bits v f.hi f.lo
    acc + (if f.takes.accepts x then x else bits old f.hi f.lo) * 2 ^ f.lo) 0

/-- A write holds non-zero reserved bits or a reserved encoding (R7). -/
def writeRefused (r : RegSpec) (v : Nat) : Bool :=
  r.reserved.any (fun x => bits v x.1 x.2 != 0) || r.fields.any (fun f => !f.takes.accepts (bits v f.hi f.lo))

/-! ## Ports (R547, R607, R628, R635, R658) -/

/-- The host site reaches the CSR space, the aperture and the host region (R658). -/
def hostServed (s : State) : Bool :=
  s.host.hostUp &&
  match s.glb.state with
  | .off => false
  | .lantern => false
  | .recovery => s.glb.bootStage == 0 || decide (6 ≤ s.glb.bootStage)
  | _ => true

/-- The I3C target works (R604, R658). -/
def mgmtPowered (s : State) : Bool :=
  !s.kpr.restarting &&
  match s.glb.state with
  | .off => false
  | .lantern => s.lnt.power && decide (2 ≤ s.glb.bootStage)
  | _ => true

/-- The management port answers its address: at shed level 4 it serves broadcast CCCs alone (R598). -/
def mgmtServed (s : State) : Bool := mgmtPowered s && decide (s.kpr.shed < 4)

/-- The registers that respond while the boot ROM serves the management port (R658). -/
def romServes : Reg → Bool
  | .kprStatus => true
  | .kprXferCtrl => true
  | .kprXferStatus => true
  | .kprXferLength => true
  | .kprXferData => true
  | _ => false

/-- A register of the FWL, SEC or LNT block (R547). -/
def hostBarred : Reg → Bool
  | .fwlStatus => true
  | .fwlLast => true
  | .fwlAlarmRate => true
  | .fwlRange _ => true
  | .fwlPerm _ => true
  | .secStatus => true
  | .lntRtc => true
  | .lntRtcAdjust => true
  | .lntTickEst => true
  | .lntComp => true
  | .lntSense => true
  | .lntZeroize => true
  | _ => false

/-- How the device takes a port's write of a register. -/
inductive WritePath where
  /-- the device receives no request, or the boot ROM ignores it (R658) -/
  | silent
  /-- the target does not acknowledge its address (R598, R658) -/
  | nack
  /-- refused with an event (R547, R628) -/
  | event (code : Nat) (d : Bytes)
  /-- performed -/
  | open
  deriving DecidableEq, Repr

/-- How a port's write of a register is taken. -/
def writePath (p : Port) (r : Reg) (v : Nat) (s : State) : WritePath :=
  match p with
  | .host =>
    if !hostServed s then .silent
    else if hostBarred r then .event 0x5002 []
    else if r == .glbService then .event 0x5200 (detail [(1, bits v 7 0)])
    else .open
  | .mgmt =>
    if !mgmtServed s then .nack
    else if s.kpr.romService && !romServes r then .silent
    else .open

/-- Event 0x4001 where a write holds what R7 discards. -/
def noteDiscard (r : Reg) (v : Nat) (s : State) : State := if writeRefused r.spec v then record 0x4001 [] s else s

/-- A port's write of a register: `old` is what its writable fields hold, `act` takes what they hold afterwards. -/
def regWrite (p : Port) (r : Reg) (v : W64) (old : State → Nat) (act : Nat → State → State) (s : State) : State :=
  match writePath p r v.toNat s with
  | .silent => s
  | .nack => { s with out := .nack :: s.out }
  | .event c d => record c d s
  | .open => act (acceptFields r.spec.fields (old s) v.toNat) (noteDiscard r v.toNat s)

/-- A port's command through a register: the word it writes holds the command alone. -/
def regCommand (p : Port) (r : Reg) (v : Nat) (act : State → State) (s : State) : State :=
  regWrite p r (w64 v) (fun _ => 0) (fun _ s => act s) s

end Sys2Proof.Machine
end

