-- ==== Sys2Proof/Machine/Read.lean ====
section
/-! DEFINITION. What each register reads: the current values of its fields (Tables 1.9 to 18.13 of the chapters). -/
namespace Sys2Proof.Machine

/-! ## Records (Table 18.1) -/

/-- The 64 bytes of an event record. -/
def EvRecord.bytes (r : EvRecord) : Bytes :=
  bytesAt (leBytes 2 r.code ++ leBytes 2 r.modNum ++ leBytes 4 r.seq.toNat ++ leBytes 8 r.tick.toNat ++ leBytes 8 r.rtc.toNat
    ++ r.detail.take 40) 0 64

/-! ## GLB (Tables 1.9 to 1.13, 18.7 to 18.13) -/

/-- A compute die is fenced at either level. -/
def dieFenced (g : Glb) (n : Nat) : Bool := g.engineFenced.getLsbD n || g.fullFenced.getLsbD n

/-- The number of set bits of an n-bit word. -/
def countBits (n : Nat) (f : Nat → Bool) : Nat := ((List.range n).filter f).length

/-- T0_MIB: 128 MiB less for each fenced die, 4 MiB less for each retired bank of a die that is not (R44). -/
def t0Mib (s : State) : Nat :=
  1088 - 128 * countBits 8 (dieFenced s.glb)
    - 4 * ((s.nor.retiredBanks ++ s.nor.clearedBanks).filter (fun k => !dieFenced s.glb (k / 32))).length

/-- T1_MIB: 0 after a failure under R390 (Table 1.12). -/
def t1Mib (l : Lpd) : Nat := if l.failed.isEmpty then t1Cap l / 2 ^ 20 else 0

/-- T3_GIB (R413). -/
def t3Gib (d : Deep) : Nat := 1024 * d.channels.length - 16 * d.spareSteps

/-- GLB_DIE_STATUS (Table 1.11). -/
def dieStatus (g : Glb) : Nat :=
  g.present.toNat + at_ 8 g.engineFenced.toNat + at_ 16 g.fullFenced.toNat + at_ 24 (b01 g.hostPresent)
    + at_ 25 (b01 g.partnerPresent)

/-- The GLB registers. -/
def readGlb (r : Reg) (s : State) : Nat :=
  match r with
  | .glbId => at_ 48 0x1152 + at_ 40 0x11 + s.glb.serial.toNat
  | .glbState => at_ 8 (s.glb.bootStage % 256) + at_ 4 (ModState.code s.glb.prev) + ModState.code s.glb.state
  | .glbDieStatus => dieStatus s.glb
  | .glbCapacity =>
    if s.glb.capValid then at_ 48 (t3Gib s.deep) + at_ 32 (t0Mib s) + at_ 31 1 + t1Mib s.lpd else 0
  | .glbModule => at_ 16 (b01 s.glb.moduleValid) + s.glb.moduleNumber.toNat
  | .evStatus => at_ 32 s.ev.nextSeq.toNat + s.ev.lost.toNat
  | .evSel => s.ev.sel.toNat
  | .evRec n => natAt (s.ev.latched.elim [] EvRecord.bytes) (8 * n) 8
  | .glbTelem => s.ev.telem.toNat
  | .glbFencePolicy => s.ev.fencePolicy.toNat
  | .glbLastHalt => at_ 48 (s.ev.ownFault % 65536) + at_ 32 (s.ev.haltOrigin % 8192) + s.ev.haltTick % 2 ^ 32
  | _ => 0

/-! ## BEAM (Tables 2.5 to 2.14) -/

/-- BEAM_STATUS.ROLE. -/
def Role.code : Role → Nat
  | .follower => 0
  | .master => 1
  | .standby => 2

/-- A false vote is pending for a coming plan beam. -/
def holdPending (b : Beam) : Bool := b.ownVotes.any (fun v => !v.2) || b.holdResults.any (fun v => !v.2)

/-- The BEAM registers. -/
def readBeam (r : Reg) (s : State) : Nat :=
  match r with
  | .beamStatus =>
    at_ 45 (s.beam.standby % 8192) + at_ 32 (s.beam.master % 8192) + at_ 7 (b01 (holdPending s.beam)) + at_ 6 (b01 s.beam.idle)
      + at_ 5 (b01 s.beam.holdover) + at_ 4 (b01 s.beam.countValid) + at_ 2 (Role.code s.beam.role)
  | .beamPeriod => s.live.period.toNat
  | .beamEclipse => s.live.eclipse.toNat
  | .beamTickCount => s.beam.count.toNat
  | .beamNumber => beamNumber s
  | .beamOffset => s.beam.offset % 2 ^ 23
  | .beamPosition => at_ 32 (s.beam.step % 2 ^ 32) + s.beam.planBeam % 2 ^ 32
  | .beamHoldLimit => s.live.holdLimit.toNat
  | .beamIdle => at_ 32 s.beam.idleTotal + s.beam.idleRun
  | .beamMasterPrio => s.beam.prio.toNat
  | _ => 0

/-! ## IMG (Tables 3.13 to 3.22) -/

/-- Stage codes of Table 3.11. -/
def Stage.code : Stage → Nat
  | .empty => 0
  | .filling => 1
  | .checking => 2
  | .checked => 3
  | .armed => 4
  | .failed => 5

/-- IMG_STATUS.KIND. -/
def StageKind.code : StageKind → Nat
  | .none => 0
  | .full => 1
  | .delta => 2
  | .regs => 3

/-- IMG_BINDING.MAP: 0xF where a logical die is unbound. -/
def bindingMap (b : List Nat) : Nat := (List.range 8).foldl (fun a i => a + at_ (4 * i) (b.getD i 0xF % 16)) 0

/-- The IMG registers. -/
def readImg (r : Reg) (s : State) : Nat :=
  match r with
  | .imgStatus =>
    at_ 32 (s.img.staging.length % 2 ^ 32) + at_ 16 (s.img.lastEvent % 65536) + at_ 10 (b01 s.img.release.isSome)
      + at_ 9 (b01 s.img.live.isSome) + at_ 8 (b01 s.img.load.isSome) + at_ 4 (StageKind.code s.img.kind) + Stage.code s.img.stage
  | .imgCheckDetail => at_ 48 (s.img.detail.1 % 65536) + at_ 40 (s.img.detail.2.1 % 256) + s.img.detail.2.2 % 2 ^ 32
  | .imgLiveDigest n => natAt s.img.liveDigest (8 * n) 8
  | .imgCommitted => s.img.committed % 2 ^ 64
  | .imgBinding => bindingMap s.img.binding
  | _ => 0

/-! ## PLE (Tables 10.10 to 10.23) -/

/-- Buoys in a state. -/
def buoysIn (p : BuoyPhase) (s : State) : Nat := (s.ple.table.filter (fun x => x.2.phase == p)).length

/-- The PLE registers. -/
def readPle (r : Reg) (s : State) : Nat :=
  let c := s.ple.counts
  match r with
  | .pleStatus =>
    at_ 48 (min (buoysIn .lost s) 65535) + at_ 32 (min (buoysIn .repairing s) 65535) + min (buoysIn .moving s) (2 ^ 32 - 1)
  | .pleLookahead => at_ 32 (s.ple.lookLast % 2 ^ 32) + s.ple.lookFirst % 2 ^ 32
  | .plePolicy => s.live.plePolicy.toNat
  | .pleBuoySel => s.ple.sel.toNat
  | .pleBuoyInfo => s.ple.info.toNat
  | .pleBuoyMoor => s.ple.moor.toNat
  | .pleMoves => at_ 32 c.promotions + c.demotions
  | .pleWindows => at_ 32 c.fills + c.writebacks
  | .pleEvict => at_ 32 c.redirected + c.stayed
  | .pleRepairs => at_ 48 c.fromRetained + at_ 32 c.fromOwner + at_ 16 c.fromDeep + c.failed
  | .pleRepairTime => at_ 32 c.maxBeam + c.totalClocks
  | .pleServed => at_ 32 c.better + c.atBudget
  | .pleBytes => c.bytes
  | .pleCodec => at_ 32 c.encoded + c.decoded
  | _ => 0

/-! ## FAB (Tables 13.12 to 13.22) -/

/-- FAB_LINK_INFO of a link (Table 13.18). -/
def linkInfo (k : Link) : Nat :=
  at_ 60 (k.state % 16) + at_ 56 (k.spareFor % 16) + at_ 48 (k.delay % 256) + at_ 40 (k.peerLink % 64)
    + at_ 29 (b01 k.peerValid) + at_ 16 (k.peerModule % 8192) + k.trainings

/-- FAB_LINK_ERR of a link (Table 13.19). -/
def linkErr (k : Link) : Nat := at_ 32 k.corrected + at_ 16 k.uncorrected + k.retries

/-- FAB_ROUTE of a destination (Table 13.21): 0 hops for this module. -/
def routeWord (s : State) (m : Nat) : Nat :=
  if s.glb.moduleValid && m == s.glb.moduleNumber.toNat then at_ 15 1
  else match routeTo s m with
    | some (l, h) => at_ 15 1 + at_ 8 (h % 16) + l % 64
    | none => 0

/-- The FAB registers. -/
def readFab (r : Reg) (s : State) : Nat :=
  match r with
  | .fabStatus => at_ 32 (s.fab.members.length % 2 ^ 14) + at_ 4 (s.fab.discovery % 4) + at_ 3 (b01 s.fab.change.isSome)
  | .fabDomain => s.fab.domain.toNat
  | .fabLocation => s.fab.location.toNat
  | .fabLinksUp => (upLinks s).foldl (fun a l => a + 2 ^ l) 0
  | .fabLinkDisable => s.fab.disable.toNat
  | .fabLinkSel => s.fab.linkSel.toNat
  | .fabLinkInfo => s.fab.linkInfo.toNat
  | .fabLinkErr => s.fab.linkErr.toNat
  | .fabRouteSel => s.fab.routeSel.toNat
  | .fabRoute => s.fab.route.toNat
  | .fabCounts => at_ 32 s.fab.retries + at_ 16 s.fab.halts + s.fab.drops
  | _ => 0

/-! ## RDX (Tables 4.11 to 4.17, 14.10 to 14.19, 15.6 to 15.11) -/

/-- SILENT_THRESHOLD of the live set. -/
def silentThreshold (s : State) : Nat := bits s.live.numPolicy.toNat 31 0

/-- Layers whose counter is at or above the threshold (Table 4.11). -/
def silentLayers (s : State) : Nat :=
  if silentThreshold s = 0 then 0 else (s.num.silent.filter (fun x => silentThreshold s ≤ x.2)).length

/-- RDX_STATUS.MODE and CLIP of the live image. -/
def exchangeMode (s : State) : Nat := s.img.live.elim 0 (fun i => i.exchange.mode)

/-- The RDX registers of chapter 14. -/
def readRdx (r : Reg) (s : State) : Nat :=
  match r with
  | .rdxStatus =>
    at_ 7 (b01 s.num.nonFinite) + at_ 6 (b01 s.rdx.lastSkipped) + at_ 4 (s.img.live.elim 0 (fun i => i.exchange.clip % 2))
      + exchangeMode s % 4
  | .rdxApplied => s.rdx.applied % 2 ^ 64
  | .rdxGate => at_ 32 s.rdx.skipped + s.rdx.run
  | .rdxGatePolicy => s.live.gatePolicy.toNat
  | .rdxEpochSel => s.rdx.epochSel.toNat
  | .rdxEpoch => s.rdx.epochLatch.toNat
  | .rdxLayerSel => s.rdx.layerSel.toNat
  | .rdxLayerNorm => s.rdx.normLatch.toNat
  | .rdxLayerLr => s.rdx.lrLatch.toNat
  | .rdxCounts => at_ 32 s.rdx.buckets + s.rdx.nonfinBuckets
  | _ => 0

/-- The RDX registers of chapter 04. -/
def readNum (r : Reg) (s : State) : Nat :=
  match r with
  | .rdxNumStatus =>
    at_ 32 (min (silentLayers s) 65535) + at_ 16 (min s.num.warmup.length 65535) + s.num.warmup.foldl (fun a x => max a x.2) 0
  | .rdxNumPolicy => s.live.numPolicy.toNat
  | .rdxCensusSel => s.num.sel.toNat
  | .rdxCensusInfo => s.num.latch.info.toNat
  | .rdxCensusAmax => s.num.latch.amax.toNat
  | .rdxCensusCount n =>
    let c := s.num.latch.counts
    [c.conv, c.flush, c.subn, c.sat, c.nonfin].getD n 0
  | .rdxSilent => at_ 32 (SMap.get s.num.silent s.num.silentSel 0) + s.num.silentSel
  | _ => 0

/-- The RDX registers of chapter 15. -/
def readOrbit (r : Reg) (s : State) : Nat :=
  match r with
  | .rdxOrbitStatus =>
    at_ 40 (s.orbit.out % 2 ^ 24) + at_ 16 (s.orbit.applied % 2 ^ 24) + at_ 2 (b01 s.orbit.anchorBusy)
      + at_ 1 (b01 s.orbit.inReady) + b01 s.orbit.outWritten
  | .rdxCapture =>
    at_ 9 (b01 s.orbit.ckptWriting) + at_ 8 (b01 s.orbit.snapHeld) + at_ 2 (b01 s.orbit.snapRelease)
      + at_ 1 (b01 s.orbit.ckptReq) + b01 s.orbit.snapReq
  | .rdxCkptLast => s.orbit.ckptLast.toNat
  | .rdxRestoreStatus => at_ 32 (s.orbit.restoreStep % 2 ^ 32) + s.orbit.restore % 4
  | _ => 0

/-! ## LPD and DEEP (Tables 11.5 to 11.11, 12.2 to 12.5) -/

/-- LPD_STATUS.FAILED: free above 255, which its eight bits cannot hold. -/
def failedField (l : Lpd) : Nat := if l.failed.length < 256 then l.failed.length else (Config.failedOver l.failed.length).toNat

/-- LPD_STATUS.NO_LINK_ECC: a mask of packages, free where a package above P7 is among them. -/
def noEccField (l : Lpd) : Nat :=
  let m := (List.range 16).foldl (fun a p => if l.noEcc.contains p then a + 2 ^ p else a) 0
  if m < 256 then m else (Config.noEccOver m).toNat

/-- LPD_UNIT_INFO.STATE of a unit (Table 11.8). -/
def unitState (s : State) (u : Nat) : Nat :=
  if s.lpd.failed.contains u then 1
  else if s.lpd.units.contains u then 0
  else if s.lpd.fenced.contains u then 3
  else if s.nor.retiredUnits.contains u then 2
  else 0

/-- LPD_UNIT_INFO of a unit (Table 11.8). -/
def unitWord (s : State) (u : Nat) : Nat :=
  let i := SMap.get s.lpd.info u {}
  at_ 56 (i.readEye % 256) + at_ 48 (i.writeEye % 256) + at_ 40 (i.refresh % 256) + at_ 16 i.retries + at_ 3 (b01 i.eccWrite)
    + at_ 2 (b01 i.eccRead) + unitState s u

/-- The LPD registers. -/
def readLpd (r : Reg) (s : State) : Nat :=
  match r with
  | .lpdStatus => at_ 24 (noEccField s.lpd) + at_ 16 (failedField s.lpd) + s.lpd.units.length
  | .lpdInservice k => (s.lpd.units.filter (fun u => u / 64 == k)).foldl (fun a u => a + 2 ^ (u % 64)) 0
  | .lpdUnitSel => s.lpd.sel.toNat
  | .lpdUnitInfo => s.lpd.latch.toNat
  | .lpdErrors => at_ 32 s.lpd.corrected + s.lpd.retries
  | .lpdWcb => at_ 32 s.lpd.mergeReads + s.lpd.recordFlushes
  | .lpdEclipse => at_ 48 s.lpd.maxFlush + at_ 32 s.lpd.maxWork + at_ 16 s.lpd.maxMissed
  | _ => 0

/-- Lifetime writes in 0.01 % of 30 PB (Table 12.5). -/
def ratedShare (written : Nat) : Nat := min (written * 10000 / (30 * 10 ^ 15)) 65535

/-- The DEEP registers. -/
def readDeep (r : Reg) (s : State) : Nat :=
  match r with
  | .deepStatus =>
    at_ 23 (b01 s.deep.erasing.isSome) + at_ 16 s.deep.keyValid.toNat + s.deep.channels.foldl (fun a c => a + 2 ^ c) 0
  | .deepWritePolicy => s.deep.policy.toNat
  | .deepCredit => unsigned 64 (Int.fdiv s.deep.credit (2 ^ 20))
  | .deepWear => at_ 48 (ratedShare s.deep.written) + at_ 40 (s.deep.sparePct % 256) + s.deep.written / 2 ^ 30 % 2 ^ 40
  | _ => 0

/-! ## SEC, KPR and LNT (Tables 17.9 to 17.23) -/

/-- VERSION of a firmware slot, 0 where it is not valid (Table 17.11). -/
def slotVersion (valid : Bool) (b : Bytes) : Nat := if valid then natAt b 8 4 else 0

/-- KPR_FW. -/
def fwVersions (s : State) : Nat := at_ 32 (slotVersion s.kpr.bValid s.nor.slotB) + slotVersion s.kpr.aValid s.nor.slotA

/-- The code of a transfer's owner (Table 17.14). -/
def ownerCode : Option Port → Nat
  | none => 0
  | some .host => 1
  | some .mgmt => 2

/-- SPACE: what the undrained bytes leave of the 64 KiB buffer; 0 with no write open (DEDUCED from its reset value, log 12). -/
def xferSpace (x : Xfer) : Nat := if x.owner.isSome && x.write && decide (2 ≤ x.state) then 65536 - x.undrained else 0

/-- LENGTH: of a read object, 0 for a write or with none open (Table 17.15). -/
def xferLength (x : Xfer) : Nat := if x.owner.isSome && !x.write && decide (2 ≤ x.state) then x.data.length else 0

/-- The tick-count estimate: one tick in 50 000 ns from the last tick accepted (R59). -/
def tickEstimate (l : Lantern) : Nat := l.tickEst.toNat + (l.rtc - l.tickRtc).toNat / 50000

/-- The SEC, KPR and LNT registers; KPR_XFER_DATA is read by R603's own operation. -/
def readKpr (r : Reg) (s : State) : Nat :=
  match r with
  | .secStatus =>
    at_ 56 (s.env.rollback % 256) + at_ 48 (countMask s.nor.authorities)
      + at_ 3 (b01 s.kpr.zeroizeBusy) + at_ 2 (b01 s.nor.policy.isSome) + at_ 1 (b01 s.nor.operator.isSome) + b01 s.kpr.vaultReady
  | .kprStatus =>
    at_ 48 s.kpr.restarts + at_ 7 (b01 s.kpr.trial) + at_ 6 (b01 s.nor.pending.isSome) + at_ 5 (b01 (s.nor.pending.getD false))
      + at_ 4 (b01 s.nor.active) + at_ 1 (b01 s.kpr.bValid) + b01 s.kpr.aValid
  | .kprFw => fwVersions s
  | .kprOccupancy => at_ 32 s.kpr.shedBeams + at_ 8 (s.kpr.shed % 8) + s.kpr.occupancy % 128
  | .kprXferStatus =>
    at_ 32 (s.kpr.xfer.position % 2 ^ 32) + at_ 15 (xferSpace s.kpr.xfer) + at_ 12 (ownerCode s.kpr.xfer.owner)
      + at_ 8 (s.kpr.xfer.object % 16) + s.kpr.xfer.state % 8
  | .kprXferLength => xferLength s.kpr.xfer
  | .kprNonce n => (SMap.get s.kpr.nonce n 0).toNat
  | .lntRtc => s.lnt.rtc.toNat
  | .lntTickEst => tickEstimate s.lnt
  | .lntComp => at_ 8 s.lnt.latched.toNat + s.lnt.now.toNat
  | .lntSense => at_ 32 s.lnt.hubTemp.toNat + at_ 16 s.lnt.input.toNat + s.lnt.cell.toNat
  | .lntZeroize => at_ 32 s.lnt.zeroizeCount.toNat + b01 s.lnt.zeroizePending
  | _ => 0
where
  /-- Bit i set: place i is enrolled. -/
  countMask (m : SMap Nat) : Nat := (List.range 8).foldl (fun a i => if SMap.get m i 0 != 0 then a + 2 ^ i else a) 0

/-! ## APT, CPY and FWL (Tables 16.12 to 16.32) -/

/-- LINK0 or LINK1 of APT_PCIE_LINK. -/
def portWord (p : PortLink) : Nat := if p.up then at_ 8 (p.width % 256) + at_ 4 (p.rate % 16) + at_ 1 (b01 p.flit) + 1 else 0

/-- The APT, CPY and FWL registers; APERTURE_DRAIN and APT_CFG_DATA are read by their own operations. -/
def readHost (r : Reg) (s : State) : Nat :=
  let h := s.host
  match r with
  | .aptStatus =>
    at_ 48 h.retrains + at_ 32 (h.lostCause % 256) + at_ 3 (b01 h.scrubBusy) + at_ 2 (b01 h.partnerUp) + at_ 1 (b01 h.hostUp)
      + b01 (s.glb.state == .hostLost)
  | .aptHostRegion => at_ 48 (h.regionGib % 512) + h.regionBase % 2 ^ 45
  | .aptAperture => h.aperture.toNat
  | .aptHostFlags => h.flags.toNat
  | .aptPcieLink => at_ 48 h.port1.errors + at_ 32 h.port0.errors + at_ 16 (portWord h.port1) + portWord h.port0
  | .aptCfgAddr => h.cfgAddr.toNat
  | .aptCfgData => at_ 32 (b01 h.cfgFailed) + h.cfgData.toNat
  | .lwRange n => lwRangeOf s.live n
  | .lwCtrl n => lwCtrlOf s.live n
  | .lwGen n => (consumedGen s n).toNat
  | .lwStatus => (List.range 16).foldl (fun a n => a + at_ (2 * n) (winState s n)) 0
  | .cpyStatus =>
    (List.range 8).foldl (fun a u =>
      let c := SMap.get h.ce u {}
      a + at_ (8 + u) (b01 c.held.isSome) + at_ u (b01 c.run.isSome)) 0
  | .cpyCounts => at_ 48 h.crcFail + at_ 32 h.records + at_ 16 h.fromHost + h.toHost
  | .fwlStatus => at_ 32 h.violations + h.lastSecond
  | .fwlLast => h.fwlLast.toNat
  | .fwlAlarmRate => h.alarmRate.toNat
  | .fwlRange n => (SMap.get s.live.fwlRange n 0).toNat
  | .fwlPerm n => (SMap.get s.live.fwlPerm n 0).toNat
  | _ => 0

/-! ## Engines and tile stores (Tables 5.12 to 9.15) -/

/-- The logical engine that an image binds to an engine of a kind, physical die and unit; 0xFFFF where none is. -/
def boundLe (i : Option Image) (binding : List Nat) (kind die unit : Nat) : Nat :=
  match i with
  | none => 0xFFFF
  | some i =>
    ((List.range i.engines.length).find? (fun k =>
      match i.engines[k]? with
      | some e => e.kind == kind && e.unit == unit && physDie binding e.ldie == die
      | none => false)).getD 0xFFFF

/-- The logical engine bound to an engine now. -/
def lengineOf (s : State) (kind die unit : Nat) : Nat := boundLe s.img.live s.img.binding kind die unit

/-- Engines are stopped by a halt, or by a fence of their die. -/
def engineStopped (s : State) (die : Nat) : Bool := s.beam.stopped || s.glb.state == .halted || dieFenced s.glb die

/-- A matrix engine. -/
def meOf (s : State) (die u : Nat) : MeUnit := SMap.get s.me (2 * die + u) {}

/-- A vector engine. -/
def veOf (s : State) (die u : Nat) : VeUnit := SMap.get s.ve (2 * die + u) {}

/-- The matrix-engine registers. -/
def readMe (die u : Nat) (r : EngReg) (s : State) : Nat :=
  let m := meOf s die u
  match r with
  | .status =>
    at_ 48 (m.taskIndex % 65536) + at_ 32 (lengineOf s 1 die u) + at_ 24 (m.accSlot % 256) + at_ 4 (m.replays % 16)
      + at_ 3 (b01 m.held.isSome) + (if engineStopped s die then 5 else m.phase % 8)
  | .busy => m.busy
  | .macs => m.macs
  | .stall => at_ 32 m.stallFetch + m.stallHeld
  | .counts => at_ 32 m.crcFail + m.replayCount
  | .accLast =>
    let l := m.last
    at_ 48 (l.taskIndex % 65536) + at_ 40 (unsigned 8 l.lambda) + at_ 32 (l.accSlot % 256) + at_ 8 (l.attempt % 4)
      + at_ 7 (b01 l.excess) + at_ 6 (b01 l.exhausted) + at_ 5 (b01 l.rerun) + at_ 4 (b01 l.nonfinInput)
      + at_ 3 (b01 l.nonfinResult) + at_ 2 (b01 l.saturated)
  | .accCounts => at_ 48 m.exhausted + at_ 32 m.reruns + m.nonfinTasks
  | _ => 0

/-- The vector-engine registers. -/
def readVe (die u : Nat) (r : EngReg) (s : State) : Nat :=
  let m := veOf s die u
  match r with
  | .status =>
    at_ 48 (m.taskIndex % 65536) + at_ 32 (lengineOf s 2 die u) + at_ 16 (m.pcLast % 65536) + at_ 3 (b01 m.held.isSome)
      + (if engineStopped s die then 3 else m.phase % 8)
  | .flags => at_ 8 m.accum.toNat + m.lastFlags.toNat
  | .busy => m.busy
  | .counts => at_ 32 m.crcFail + m.twrites
  | .fault => at_ 48 (m.fault.1 % 65536) + at_ 32 (m.fault.2.1 % 65536) + m.fault.2.2 % 256
  | _ => 0

/-- The bits of open contexts (Table 8.10). -/
def openContexts (u : SeqUnit) : Nat :=
  (List.range 8).foldl (fun a c => if (SMap.get u.ctx c {}).isOpen then a + 2 ^ c else a) 0

/-- The attention-engine registers. -/
def readAe (die : Nat) (r : EngReg) (s : State) : Nat :=
  let m := SMap.get s.ae die {}
  match r with
  | .status =>
    at_ 48 (m.taskIndex % 65536) + at_ 32 (lengineOf s 3 die 0) + at_ 16 (m.item % 65536) + at_ 8 (openContexts m)
      + at_ 3 (b01 m.held.isSome) + (if engineStopped s die then 4 else m.phase % 8)
  | .busy => m.busy
  | .counts => at_ 32 m.crcFail + m.count
  | _ => 0

/-- The gather-scatter-engine registers. -/
def readGse (die : Nat) (r : EngReg) (s : State) : Nat :=
  let m := SMap.get s.gse die {}
  match r with
  | .status =>
    at_ 48 (m.taskIndex % 65536) + at_ 32 (lengineOf s 4 die 0) + at_ 3 (b01 m.held.isSome)
      + (if engineStopped s die then 4 else m.phase % 8)
  | .counts => at_ 32 m.crcFail + m.count
  | _ => 0

/-- The layout-engine registers. -/
def readLye (die : Nat) (r : EngReg) (s : State) : Nat :=
  let m := SMap.get s.lye die {}
  match r with
  | .status =>
    at_ 48 (m.taskIndex % 65536) + at_ 32 (lengineOf s 5 die 0) + at_ 16 (m.item % 65536) + at_ 3 (b01 m.held.isSome)
      + (if engineStopped s die then 2 else m.phase % 8)
  | .counts => at_ 32 m.crcFail + m.count
  | _ => 0

/-- TST_STATUS.RETIRED. -/
def retiredMask (n : Nor) (t : Nat) : Nat :=
  (List.range (bankCount t)).foldl (fun a b => if bankRetired n t b then a + 2 ^ b else a) 0

/-- The tile-store registers; TST_LANE_DATA is read by R327's own operation. -/
def readTst (t : Nat) (r : TstReg) (s : State) : Nat :=
  let x := tstOf s t
  match r with
  | .status => at_ 32 (retiredMask s.nor t) + x.failing.toNat
  | .ecc => at_ 32 x.corrected + x.uncorrectable
  | .testCtrl => x.testCtrl.toNat
  | .testStatus => at_ 32 x.passes + at_ 16 (x.region % 64) + at_ 8 (x.bank % 32) + x.phase % 8
  | .laneAddr => x.laneAddr.toNat
  | .owner b =>
    if bankCount t ≤ b then 0 else
    let o := ownerOf x b
    at_ 40 (if bankRetired s.nor t b then 3 else o.power % 4) + at_ 32 (o.words % 256) + at_ 24 (o.count % 256)
      + at_ 16 (o.first % 256) + o.mask % 65536
  | .conflict m =>
    let c := SMap.get x.conflict m (0, 0)
    at_ 32 c.1 + c.2
  | _ => 0

/-- What a register reads, for the registers that a read does not change. -/
def readReg (r : Reg) (s : State) : W64 :=
  w64 (match r with
    | .me die u e => readMe die u e s
    | .ve die u e => readVe die u e s
    | .ae die e => readAe die e s
    | .gse die e => readGse die e s
    | .lye die e => readLye die e s
    | .tst t e => readTst t e s
    | _ => readGlb r s + readBeam r s + readImg r s + readPle r s + readFab r s + readRdx r s + readNum r s + readOrbit r s
        + readLpd r s + readDeep r s + readKpr r s + readHost r s)

end Sys2Proof.Machine
end

