-- ==== Sys2Proof/Machine/Halt.lean ====
section
/-! DEFINITION. Stopping: abandoning tasks and moves, entering HALTED and HOST_LOST, restarting Keeper (R36, R37, R588, R601, R624). -/
namespace Sys2Proof.Machine

/-! ## Tasks and moves abandoned (R624 steps 1 and 2) -/

/-- A matrix engine abandons its task. -/
def MeUnit.abandoned (m : MeUnit) : MeUnit := { m with run := none, held := none, phase := 0 }

/-- A vector engine abandons its task; its stream buffer empties. -/
def VeUnit.abandoned (m : VeUnit) : VeUnit := { m with run := none, held := none, phase := 0, regs := {}, stream := [] }

/-- An attention, gather-scatter or layout engine abandons its task; no context keeps a chain. -/
def SeqUnit.abandoned (m : SeqUnit) : SeqUnit := { m with run := none, held := none, phase := 0, ctx := [] }

/-- A field of a task's payload (R172). -/
def payloadField (t : TaskEntry) (hi lo : Nat) : Nat := bits t.payload hi lo

/-- Contents of T1 that are undefined from now on. -/
def undefineT1 (a n : Nat) (s : State) : State :=
  t1Write a ((List.range n).map (fun i => Config.undefinedByte (s.freeCount + 1) (a + i))) none
    { s with freeCount := s.freeCount + 1 }

/-- The host-region lines that a stopped copy task to the host was to write (R571, R575): offset and length. -/
def copyLines (s : State) (r : RunTask) : Option (Nat × Nat) :=
  if payloadField r.task 63 56 = 1 then
    match (r.accs[payloadField r.task 54 52]?).bind (fun a => liveBuoy s a.buoy) with
    | some e => some (payloadField r.task 255 192, payloadField r.task 95 64 * buoyPitch e)
    | none => none
  else none

/-- A copy engine stops its task without a record; the data lines of a copy to the host are then undefined (R575). -/
def stopCopy (u : Nat) (s : State) : State :=
  let c := SMap.get s.host.ce u {}
  let s' := { s with host := { s.host with ce := SMap.set s.host.ce u {} {} } }
  match c.run.bind (copyLines s) with
  | some (off, n) => undefineT1 (s.host.regionBase + off) n s'
  | none => s'

/-- Every copy task stops. -/
def stopCopies (s : State) : State := (List.range 8).foldl (fun s u => stopCopy u s) s

/-- Every engine, copy engine and the RDE abandons its task; stream buffers and the relay store empty (R624 step 1). -/
def abandonTasks (s : State) : State :=
  let t := stopCopies s
  { t with
    me := SMap.mapAll t.me {} MeUnit.abandoned
    ve := SMap.mapAll t.ve {} VeUnit.abandoned
    ae := SMap.mapAll t.ae {} SeqUnit.abandoned
    gse := SMap.mapAll t.gse {} SeqUnit.abandoned
    lye := SMap.mapAll t.lye {} SeqUnit.abandoned
    fab := { t.fab with relay := [], landing := [], landed := [], received := [], arrived := [], outgoing := [], runs := [], sent := [] }
    rdx := { t.rdx with tiles := [], held := none } }

/-- A buoy whose move is abandoned. -/
def BuoyState.unmoved (b : BuoyState) : BuoyState :=
  { b with move := none, phase := if b.phase = .moving then .moored else b.phase }

/-- The PLE abandons every move and frees its shadow; moorings stay (R624 step 2). -/
def abandonMoves (s : State) : State :=
  { s with ple := { s.ple with
      table := SMap.mapAll s.ple.table {} BuoyState.unmoved, windows := [],
      repairs := s.ple.repairs.map (fun r => { r with waiters := [] }) } }

/-! ## Leaving a job -/

/-- What the beams of a job group keep, as a module that takes no part in them has it: no pending halt, vote or release, no tasks of
the beam, no idle run (R38, R123). -/
def leaveJob (s : State) : State :=
  { s with
    beam := { s.beam with halt := none, stopped := false, ownFault := 0, ownVotes := [], holdResults := [], votes := [],
                          started := [], done := [], idle := false, idleRun := 0, idleStep := 0, atTick := false, inEclipse := false }
    fab := { s.fab with haltSeen := [], collects := [] }
    img := { s.img with release := none, ownRelease := none, releaseResult := none } }

/-! ## HALTED (R36, R624 steps 1 to 3) -/

/-- GLB_LAST_HALT and event 0x1201 (R624). -/
def noteHalt (origin tick : Nat) (s : State) : State :=
  record 0x1201 (detail [(2, origin), (4, tick)])
    { s with ev := { s.ev with ownFault := s.beam.ownFault, haltOrigin := origin, haltTick := tick % 2 ^ 32 } }

/-- Every controller writes out its write-combining buffer. -/
def flushBuffers (s : State) : State := { s with lpd := flushAll s.lpd }

/-- The module enters HALTED at its halt tick: the event, then steps 1 to 3; held fences and failing banks act in step 4 (R624). -/
def enterHalted (h : PendingHalt) (s : State) : State :=
  let t := noteHalt h.origin h.tick (setState .halted s)
  flushBuffers (abandonMoves (discardArmed (abandonTasks
    (leaveJob { t with glb := { t.glb with haltStarted := true } }))))

/-! ## Root ports -/

/-- A root port's link is disabled. -/
def PortLink.down (p : PortLink) : PortLink := { p with up := false }

/-! ## Keeper restarts (R600, R601, R604) -/

/-- An open transfer closes as for ABORT (R601). -/
def closeTransfer (s : State) : State := { s with kpr := { s.kpr with xfer := {} } }

/-- Keeper restarts; it loses its working memory and any open transfer (R601). -/
def restartKeeper (s : State) : State :=
  closeTransfer { s with kpr := { s.kpr with restarts := satAdd 16 s.kpr.restarts 1, restartDue := false } }

/-- FAULT_LED_N is driven low (R651). -/
def faultLedLow (s : State) : Bool :=
  s.glb.state == .halted || s.glb.state == .hostLost || s.glb.state == .recovery || s.lnt.latched != 0

end Sys2Proof.Machine
end

