-- ==== Sys2Proof/Machine/Narrow.lean ====
section
/-! DEFINITION. Writing tiles of a buoy: the class policy, scale selection, narrowing and what it records (chapter 04). -/
namespace Sys2Proof.Machine

/-! ## Class policies (R142 to R144) -/

/-- Table 4.7: the default policy of a class. -/
def defaultPolicy (cls : Nat) : ClassPolicy :=
  { cls := cls,
    round := if cls = 3 || cls = 4 || cls = 6 || cls = 7 || cls = 8 then 1 else 0,
    scaling := if cls = 1 || cls = 2 || cls = 3 || cls = 4 then 1 else if cls = 7 || cls = 8 then 2 else 0,
    margin := if cls = 2 || cls = 3 then 1 else 0 }

/-- The policy of a class (R142). -/
def policyOf (i : Image) (cls : Nat) : ClassPolicy :=
  (i.numeric.classes.find? (fun p => p.cls == cls)).getD (defaultPolicy cls)

/-- The scaled formats (R144). -/
def scaledFormat (code : Nat) : Bool := code == 0x03 || code == 0x04 || code == 0x05 || code == 0x10

/-- SCALING as it acts on a buoy (R144). -/
def scalingOf (i : Image) (e : BuoyEntry) : Nat := if scaledFormat e.format then (policyOf i e.cls).scaling else 0

/-- SR by class, whatever ROUND says (Table 4.5). -/
def srClass (cls : Nat) : Bool := cls == 3 || cls == 4 || cls == 6 || cls == 7 || cls == 8

/-- The key of a layer's step-exponent history (R158). -/
def layerKey (e : BuoyEntry) : Nat := 2 * e.layer + b01 (e.cls == 8)

/-- A buoy is vector-shaped (Table 3.10: SHAPE 1). -/
def vectorShaped (e : BuoyEntry) : Bool := e.shape == 1

/-! ## Scales (R150 to R159) -/

/-- The amax history of a buoy. -/
def amaxHistory (n : NumState) (id : Nat) : List W32 := SMap.get n.amax id []

/-- Warm-up steps left of a buoy (R153). -/
def warmupLeft (n : NumState) (id : Nat) : Nat := SMap.get n.warmup id 0

/-- The TSE of a tile of a buoy, where a is the tile's own amax (R144, R152, R154). -/
def chooseTse (s : State) (i : Image) (e : BuoyEntry) (a : Nat) : Nat :=
  match scalingOf i e, elemOf e.format with
  | 1, some el =>
    let m := (policyOf i e.cls).margin
    if warmupLeft s.num e.id = 0 then selectTse (amaxHistory s.num e.id) m el else selectTse [BitVec.ofNat 32 a] m el
  | _, _ => 127

/-- hr of R158. -/
def stepHeadroom (s : State) : Nat := bits s.live.numPolicy.toNat 55 48

/-- STEP of a layer's tiles in a delta class; from the amax a of the current deltas where the history is empty (R158, R159).
The first tile of the step decides in that case (DEDUCED, log 13). -/
def chooseStep (s : State) (i : Image) (e : BuoyEntry) (a : Nat) : Int :=
  match scalingOf i e, elemOf e.format with
  | 2, some el =>
    match SMap.get s.num.stepNow (layerKey e) none with
    | some st => st
    | none =>
      let h := SMap.get s.num.delta (layerKey e) []
      selectStep (if h.isEmpty then [BitVec.ofNat 32 a] else h) el (stepHeadroom s)
  | _, _ => 0

/-! ## Narrowing into a buoy (R136 to R141) -/

/-- A tile as narrowed for a buoy, and what its narrowing reports. -/
structure Written where
  tile : Bytes
  notes : Narrowed
  step : Int
  deriving DecidableEq, Repr

/-- The rounding of a narrowing into a buoy (Table 4.5). -/
def roundFor (i : Image) (e : BuoyEntry) (key : SrKey) : RoundBy :=
  if srClass e.cls || key.purpose != 0 then .sr key
  else match (policyOf i e.cls).round with
    | 1 => .sr key
    | 2 => .rtz
    | _ => .rne

/-- 16 384 FP32 elements narrowed into a tile of a buoy, at a job step, for a purpose and write ordinal (R136 to R148). -/
def narrowFor (s : State) (i : Image) (e : BuoyEntry) (tile step purpose ordinal : Nat) (axis : Bool) (xs : List Nat) : Written :=
  match elemOf e.format with
  | none => { tile := [], notes := {}, step := 0 }
  | some el =>
    let a := amaxOf xs
    let tse := chooseTse s i e a
    let st := chooseStep s i e a
    let key : SrKey := { seed := i.numeric.seed.toNat, tile := tile, buoy := e.id, step := step, purpose := purpose, ordinal := ordinal }
    let ax := axis && el.isMx && !vectorShaped e
    let n := narrowTile el ax tse st (roundFor i e key) xs
    { tile := makeTile (workHeader e.format e.id tile step tse st (tileFlags ax n.nonfinite n.saturated)) n.payload,
      notes := n, step := st }

/-- 16 384 32-bit integers copied into a tile of their own format (R136). -/
def copyInts (e : BuoyEntry) (tile step : Nat) (xs : List Nat) : Bytes :=
  makeTile (workHeader e.format e.id tile step 127 0 0) (packElems 32 xs)

/-! ## What a narrowing records (R138, R150, R158, R162) -/

/-- A census with a tile's counts added; each holds at its maximum. -/
def Census.plus (c : Census) (n : Narrowed) : Census :=
  { conv := satAdd 64 c.conv n.conv, flush := satAdd 64 c.flush n.flush, subn := satAdd 64 c.subn n.subn,
    sat := satAdd 64 c.sat n.sat, nonfin := satAdd 64 c.nonfin n.nonfin }

/-- The larger of an FP32 magnitude kept and a new one. -/
def maxAmax (m : SMap W32) (k a : Nat) : SMap W32 := SMap.modify m k 0 (fun x => BitVec.ofNat 32 (max x.toNat a))

/-- The numerics state after a tile of a buoy has been narrowed. -/
def NumState.note (n : NumState) (i : Image) (e : BuoyEntry) (w : Written) : NumState :=
  { n with
    census := SMap.modify n.census e.id {} (fun c => Census.plus c w.notes),
    nonFinite := n.nonFinite || w.notes.nonfinite,
    stepAmax := if scalingOf i e = 1 then maxAmax n.stepAmax e.id w.notes.amax else n.stepAmax,
    deltaNow := if scalingOf i e = 2 then maxAmax n.deltaNow (layerKey e) w.notes.amax else n.deltaNow,
    stepNow := if scalingOf i e = 2 then SMap.set n.stepNow (layerKey e) (some w.step) none else n.stepNow }

/-- A tile of a buoy narrowed for purpose 0 at the present job step and written into its authoritative mooring; false where an
engine port was refused. -/
def writeNarrowed (who : Nat) (le : Option Nat) (i : Image) (e : BuoyEntry) (tile ordinal : Nat) (axis : Bool) (xs : List Nat)
    (s : State) : Bool × State :=
  let w := narrowFor s i e tile (jobStep s) 0 ordinal axis xs
  writeTile who le e tile w.tile { s with num := NumState.note s.num i e w }

/-- The elements of a tile as FP32 encodings, for a buoy whose header has passed its checks. -/
def tileElems (b : Bytes) : List Nat :=
  let h := Header.parse b
  match elemOf h.format with
  | some el => widenTile h el (b.drop 64)
  | none => []

end Sys2Proof.Machine
end

