-- ==== Sys2Proof/Machine/Plan.lean ====
section
/-! DEFINITION. The plan beam in progress: tasks, dependencies, aliases, slots, and the checks of a tile at use (R65, R98 to R100,
R134, R179 to R181, R447 to R451, R501). -/
namespace Sys2Proof.Machine

/-! ## The plan of the live image -/

/-- The record of a plan beam. -/
def planRec (i : Image) (p : Nat) : Option BeamRec := i.plans.beams[p]?

/-- Plan beams of a step. -/
def planBeams (i : Image) : Nat := i.plans.beams.length

/-- The tasks of a plan beam. -/
def tasksOf (i : Image) (p : Nat) : List TaskEntry :=
  match planRec i p with
  | some r => (i.plans.tasks.drop r.first).take r.count
  | none => []

/-- The access records of a task. -/
def accsOf (i : Image) (t : TaskEntry) : List Access := (i.plans.accs.drop t.accFirst).take t.accCount

/-- The slot entries of a plan beam (R447). -/
def slotsOf (i : Image) (p : Nat) : List SlotEntry :=
  match i.slots.index[p]? with
  | some r => (i.slots.entries.drop r.1).take r.2
  | none => []

/-- A flag of a plan beam's record. -/
def beamFlag (i : Image) (p bitNo : Nat) : Bool :=
  match planRec i p with
  | some r => r.flags.testBit bitNo
  | none => false

/-- The plan beam is the step-gate beam (03, PLANS). -/
def isGate (i : Image) (p : Nat) : Bool := beamFlag i p 0

/-- A flagged plan beam does its work in this step: ORBIT_OUT and PACK with the orbit that has closed, UNPACK and ORBIT_IN with the
orbit whose outer update is due, CAPTURE with a capture; a beam without these flags always (R522, R523). -/
def beamDue (s : State) (i : Image) (p : Nat) : Bool :=
  if beamFlag i p 1 || beamFlag i p 2 then s.orbit.dueOut.isSome
  else if beamFlag i p 3 || beamFlag i p 4 then s.orbit.dueIn.isSome
  else if beamFlag i p 5 then !s.orbit.due.isEmpty
  else true

/-- The module runs a plan beam now: RUNNING, at or after its beam tick, not idle, not stopped by a halt (R65, R73, R77). -/
def planRuns (s : State) : Bool := s.glb.state == .running && s.beam.atTick && !s.beam.idle && !s.beam.stopped

/-- L, clocks of a slot (R63). -/
def slotLen (r : Rws) : Nat := eclipseStart r / 256

/-! ## Aliases (R500, R501) -/

/-- The epoch word of a shard, where this member holds one. -/
def epochOf (s : State) (shard : Nat) : Option Nat := SMap.get s.rdx.epochs shard none

/-- The half of a pair that is current under an epoch word, and the other. -/
def halfOf (p : EpochPair) (e : Nat) (current : Bool) : Nat :=
  if (e % 2 = 0) = current then p.half0 else p.half1

/-- The pair of which an identifier is an alias. -/
def aliasPair (i : Image) (id : Nat) : Option EpochPair := i.exchange.pairs.find? (fun p => p.cur == id || p.next == id)

/-- An identifier as it resolves now: an alias to its half, any other to itself (R501). -/
def resolveId (s : State) (i : Image) (id : Nat) : Nat :=
  match aliasPair i id with
  | some p => halfOf p ((epochOf s p.shard).getD 0) (p.cur == id)
  | none => id

/-- An access record with its alias resolved. -/
def resolveAccess (s : State) (i : Image) (a : Access) : Access := { a with buoy := resolveId s i a.buoy }

/-! ## Dependencies (R65, R99, R455, R488) -/

/-- The end of the last run of a flow that this module receives in a plan beam, plus 158 clocks; 0 where it receives none. -/
def emptyFlowEnd (s : State) (i : Image) (p flow : Nat) : Nat :=
  ((slotsOf i p).filter (fun e => e.recv && e.flow == flow)).foldl
    (fun m e => max m ((e.first + e.count) * slotLen s.live + 158)) 0

/-- Bytes that an ENGINE flow carries: the tiles of its bucket in their wire format, and in FP32 downward (R486, R492, R493). -/
def bucketFlowBytes (b : Bucket) (members flow : Nat) : Option Nat :=
  if b.flowBase ≤ flow && flow < b.flowBase + (members - 1) then some (b.count * tilePitch b.wire)
  else if b.flowBase + (members - 1) ≤ flow && flow < b.flowBase + 2 * (members - 1) then some (b.count * tilePitch 0x01)
  else none

/-- Bytes that a flow carries in a step; none for a TRANSACTION flow. -/
def flowBytes (i : Image) (k : Nat) : Option Nat :=
  match i.slots.flows[k]? with
  | none => none
  | some f =>
    if f.kind = 1 then (buoyEntry i f.srcBuoy).map (fun e => f.count * buoyPitch e)
    else if f.kind = 3 then i.exchange.buckets.findSome? (fun b => bucketFlowBytes b i.group.length k)
    else none

/-- A flow that sends no flits (R455, R488). -/
def emptyFlow (i : Image) (k : Nat) : Bool := flowBytes i k == some 0

/-- The receive entry that covers a slot of a link. -/
def recvEntry (i : Image) (p link slot : Nat) : Option SlotEntry :=
  (slotsOf i p).find? (fun e => e.recv && e.link == link && decide (e.first ≤ slot) && decide (slot < e.first + e.count))

/-- A slot-arrival dependency is complete (R99); one on a slot for which the slot table schedules no flit waits for nothing (DEDUCED,
log 43). -/
def slotDone (s : State) (i : Image) (link slot : Nat) : Bool :=
  s.fab.arrived.contains (link, slot) ||
  match recvEntry i s.beam.planBeam link slot with
  | some e => emptyFlow i e.flow && decide (emptyFlowEnd s i s.beam.planBeam e.flow ≤ s.beam.offset)
  | none => true

/-- A dependency word is complete (Table 3.9). -/
def depDone (s : State) (i : Image) (d : Nat) : Bool :=
  match bits d 31 30 with
  | 0 => s.beam.done.contains (bits d 29 16, bits d 15 0)
  | 1 => slotDone s i (bits d 21 16) (bits d 15 0)
  | _ => false

/-- The first task of an engine's list that has not started. -/
def nextTask (s : State) (i : Image) (le : Nat) : Option TaskEntry :=
  (tasksOf i s.beam.planBeam).find? (fun t => t.le == le && !s.beam.started.contains (le, t.idx))

/-- A task of an engine has started and not completed. -/
def engineBusy (b : Beam) (le : Nat) : Bool := b.started.any (fun x => x.1 == le && !b.done.contains x)

/-- A task writes a NEXT alias of a shard (R503). -/
def writesShard (i : Image) (shard : Nat) (t : TaskEntry) : Bool :=
  (accsOf i t).any (fun a => a.mode != 1 && i.exchange.pairs.any (fun p => p.shard == shard && p.next == a.buoy))

/-- Every task of the step that writes a NEXT alias of a shard has completed: those of earlier plan beams ended before their next tick
(R72, R504). -/
def shardWritten (s : State) (i : Image) (shard : Nat) : Bool :=
  (tasksOf i s.beam.planBeam).all (fun t => !writesShard i shard t || s.beam.done.contains (t.le, t.idx))
    && (List.range (planBeams i)).all (fun p => p ≤ s.beam.planBeam || !(tasksOf i p).any (writesShard i shard))

/-- The shards of which this member owns the halves. -/
def ownShards (i : Image) : List Nat :=
  (i.exchange.pairs.filter (fun p => (buoyEntry i p.half0).elim false (ownedHere i))).map (·.shard)

/-- The complete bits after a task's end (R504). -/
def noteComplete (i : Image) (le idx : Nat) (s : State) : State :=
  match (tasksOf i s.beam.planBeam).find? (fun t => t.le == le && t.idx == idx) with
  | some t =>
    { s with rdx := { s.rdx with complete :=
        ((ownShards i).filter (fun x => writesShard i x t && shardWritten s i x)).foldl (fun m x => SMap.set m x true false) s.rdx.complete } }
  | none => s

/-- A task completes. -/
def markDone (le idx : Nat) (s : State) : State :=
  let t : State := { s with beam := { s.beam with done := (le, idx) :: s.beam.done } }
  match s.img.live with
  | some i => noteComplete i le idx t
  | none => t

/-- The end of a task at an offset: an end after P − E is an eclipse intrusion, event 0x4200 (R71). -/
def noteEnd (who idx endAt : Nat) (s : State) : State :=
  if eclipseStart s.live < endAt then record 0x4200 (detail [(2, who), (2, idx), (4, endAt)]) s else s

/-- The clock goes to a task's end, and the task is complete. -/
def finishTask (who le idx endAt : Nat) (s : State) : State := markDone le idx (noteEnd who idx endAt (advanceTo endAt s))

/-! ## Writers of a tile -/

/-- An access record reaches a tile of a buoy. -/
def accessHas (a : Access) (buoy tile : Nat) : Bool := a.buoy == buoy && decide (a.first ≤ tile) && decide (tile < a.first + a.count)

/-- A task writes a tile of a buoy: a record of MODE 2 or 3 names it. -/
def taskWrites (s : State) (i : Image) (t : TaskEntry) (buoy tile : Nat) : Bool :=
  (accsOf i t).any (fun a => a.mode != 1 && accessHas (resolveAccess s i a) buoy tile)

/-- No task of the plan beam that writes a tile is still to complete (R453, R489). -/
def tileWritten (s : State) (i : Image) (buoy tile : Nat) : Bool :=
  (tasksOf i s.beam.planBeam).all (fun t => !taskWrites s i t buoy tile || s.beam.done.contains (t.le, t.idx))

/-! ## A tile at use (R134, R179 to R181) -/

/-- What an engine finds as it uses a tile. -/
inductive TileUse where
  /-- it passes its three checks -/
  | good (h : Header) (b : Bytes)
  /-- it fails its CRC-32C: the event is recorded and a repair is asked for -/
  | held
  /-- it has not arrived from its owner -/
  | waiting
  /-- a fault has been raised -/
  | stop
  deriving DecidableEq, Repr

/-- The numeric and the identity check of a tile whose CRC-32C has passed (R134, R180). -/
def checkHeader (who idFault : Nat) (e : BuoyEntry) (tile : Nat) (b : Bytes) (s : State) : TileUse × State :=
  let h := Header.parse b
  if numericBad h e.format (vectorShaped e) then
    (.stop, raiseFault 0x8400 (detail [(2, who), (4, e.id), (4, tile)]) s)
  else if identityBad h e.id tile then
    (.stop, raiseFault idFault (detail [(2, who), (4, e.id), (4, h.buoy), (4, tile)]) s)
  else (.good h b, s)

/-- A tile of a buoy at use by an engine: its CRC failure records `crcEvent` and asks for a repair (R179 to R181). -/
def useTile (who le crcEvent idFault : Nat) (e : BuoyEntry) (tile budget : Nat) (s : State) : TileUse × State :=
  match fetchTile who le e tile budget s with
  | (.tile b, t) => checkHeader who idFault e tile b t
  | (.failed, t) => (.held, requestRepair (some who) e.id tile (record crcEvent (detail [(2, who), (4, e.id), (4, tile)]) t))
  | (.waiting, t) => (.waiting, t)
  | (.refused, t) => (.stop, t)

/-- A tile that an engine is to use: its entry, its index, the budget tier of its access. -/
structure TileRef where
  entry : BuoyEntry
  tile : Nat
  budget : Nat
  deriving DecidableEq, Repr

/-- What using a list of tiles gives: all of them, or the first that does not pass. -/
inductive TilesUse where
  | all (ts : List (Header × Bytes))
  | held (buoy tile : Nat)
  | waiting
  | stop
  deriving DecidableEq, Repr

/-- Tiles that had arrived from their owners stay for a task that waits for another. -/
def keepInbox (s t : State) : State := { t with fab := { t.fab with inbox := s.fab.inbox } }

/-- Tiles used in order. -/
def useTiles (who le crcEvent idFault : Nat) : List TileRef → State → TilesUse × State
  | [], s => (.all [], s)
  | r :: rs, s =>
    match useTile who le crcEvent idFault r.entry r.tile r.budget s with
    | (.good h b, t) =>
      match useTiles who le crcEvent idFault rs t with
      | (.all ts, u) => (.all ((h, b) :: ts), u)
      | (.waiting, u) => (.waiting, keepInbox s u)
      | x => x
    | (.held, t) => (.held r.entry.id r.tile, t)
    | (.waiting, t) => (.waiting, t)
    | (.stop, t) => (.stop, t)

end Sys2Proof.Machine
end

