-- ==== Sys2Proof/Machine/Operands.lean ====
section
/-! DEFINITION. Vector instruction words, element types, registers, masks, the vector length and the loop stack (R236 to R249). -/
namespace Sys2Proof.Machine

/-! ## Words (R245, Table 7.4) -/

/-- The instruction word of an opcode and its fields. -/
def VWord.encode (op : BitVec 8) (w : VWord) : W64 :=
  op ++ w.et ++ BitVec.ofBool w.m ++ w.mr ++ w.d ++ w.a ++ w.b ++ w.c ++ BitVec.ofBool w.bs ++ w.sub ++ w.imm

/-- The opcode of an instruction word. -/
def wordOp (x : W64) : BitVec 8 := x.extractLsb' 56 8

/-- The fields of an instruction word. -/
def VWord.decode (x : W64) : VWord :=
  { et := x.extractLsb' 52 4, m := x.getLsbD 51, mr := x.extractLsb' 49 2, d := x.extractLsb' 44 5, a := x.extractLsb' 39 5,
    b := x.extractLsb' 34 5, c := x.extractLsb' 29 5, bs := x.getLsbD 28, sub := x.extractLsb' 24 4, imm := x.extractLsb' 0 24 }

/-- The LOOP word (R249). -/
def loopWord (body : BitVec 16) (count : BitVec 32) : W64 := (0x03#8 ++ 0#8) ++ body ++ count

/-! ## Element types (Table 7.5) -/

/-- Bytes of an element. -/
def etBytes (et : Nat) : Nat :=
  match et with
  | 1 => 2
  | 2 => 2
  | 5 => 1
  | _ => 4

/-- VLMAX. -/
def vlMax (et : Nat) : Nat := 4096 / etBytes et

/-- The floating-point format of an element type. -/
def etFmt (et : Nat) : Option Fmt :=
  match et with
  | 0 => some f32
  | 1 => some bf16
  | 2 => some f16
  | _ => none

/-! ## Registers (R238) -/

/-- A scalar register. -/
def sreg (r : VeRegs) (k : Nat) : Nat := (SMap.get r.s (k % 16) 0).toNat

/-- A write of a scalar register. -/
def setSreg (k v : Nat) (r : VeRegs) : VeRegs := { r with s := SMap.set r.s (k % 16) (BitVec.ofNat 32 v) 0 }

/-- n elements of width bytes of a vector register, from element e on. -/
def vElems (r : VeRegs) (reg width e n : Nat) : List Nat :=
  chunksLe width n (SMap.read r.v (4096 * (reg % 32) + width * e) (width * n) (fun _ => 0))

/-- A write of elements of a vector register, from element e on. -/
def setElems (reg width e : Nat) (xs : List Nat) (r : VeRegs) : VeRegs :=
  { r with v := SMap.write r.v (4096 * (reg % 32) + width * e) (xs.flatMap (leBytes width)) 0 }

/-- Bit i of a mask register. -/
def maskBit (r : VeRegs) (reg i : Nat) : Bool := SMap.get r.m (4096 * (reg % 4) + i) false

/-- The first n bits of a mask register. -/
def maskBits (r : VeRegs) (reg n : Nat) : List Bool := SMap.read r.m (4096 * (reg % 4)) n (fun _ => false)

/-- A write of the first bits of a mask register. -/
def setMask (reg : Nat) (bs : List Bool) (r : VeRegs) : VeRegs := { r with m := SMap.write r.m (4096 * (reg % 4)) bs false }

/-- Flags are sticky (R270). -/
def raise (f : BitVec 5) (r : VeRegs) : VeRegs := { r with flags := r.flags ||| f }

/-! ## Vector length and masks (R239 to R241) -/

/-- n of an instruction: the elements that it acts on. -/
def lenOf (r : VeRegs) (limit : Nat) : Nat := min r.vl limit

/-- The active elements among the first n. -/
def activeBits (w : VWord) (r : VeRegs) (n : Nat) : List Bool :=
  if w.m then maskBits r w.mr.toNat n else List.replicate n true

/-- LC where VL exceeds a limit (R239, R265). -/
def clampFlag (r : VeRegs) (limit : Nat) : BitVec 5 := if limit < r.vl then flagLC else 0

/-- The active new values over the old ones. -/
def mergeActive {α : Type} : List Bool → List α → List α → List α
  | a :: as, x :: xs, o :: os => (if a then x else o) :: mergeActive as xs os
  | _, _, _ => []

/-- The flags of the active elements. -/
def activeFlags (as : List Bool) (fs : List (BitVec 5)) : BitVec 5 :=
  (as.zip fs).foldl (fun f x => if x.1 then f ||| x.2 else f) 0

/-- Operand B of n elements: a register, or a scalar broadcast (R246). -/
def operandB (w : VWord) (r : VeRegs) (et n : Nat) : List Nat :=
  if w.bs then List.replicate n (sreg r w.b.toNat % 2 ^ (8 * etBytes et)) else vElems r w.b.toNat (etBytes et) 0 n

/-- Results of n elements written where they are active, with their flags (R239, R240). -/
def putResults (w : VWord) (et : Nat) (rs : List (Nat × BitVec 5)) (r : VeRegs) : VeRegs :=
  let n := lenOf r (vlMax et)
  let as := activeBits w r n
  let b := etBytes et
  raise (activeFlags as (rs.map (·.2)) ||| clampFlag r (vlMax et))
    (setElems w.d.toNat b 0 (mergeActive as (rs.map (·.1)) (vElems r w.d.toNat b 0 n)) r)

/-- The immediate, sign-extended to 32 bits. -/
def immSigned (w : VWord) : Nat := unsigned 32 (signed 24 w.imm.toNat)

/-- IMM or s[B], by BS: SETVL, SADD and SSUB take s[B] in the immediate's place. -/
def immOrScalar (w : VWord) (r : VeRegs) (imm : Nat) : Nat := if w.bs then sreg r w.b.toNat else imm

/-- IMM + s[B]: TLOAD, TOPEN, VLD, VST and VLDW add s[B] (R251, R254). -/
def immPlusScalar (w : VWord) (r : VeRegs) (imm : Nat) : Nat := imm + (if w.bs then sreg r w.b.toNat else 0)

/-! ## Loops (R249) -/

/-- Where execution goes after the word before `pc`: the innermost loop whose body ends there runs again or is over. The fuel is the
number of loops. -/
def afterWord : Nat → Nat → VeRegs → VeRegs
  | 0, pc, r => { r with pc := pc }
  | n + 1, pc, r =>
    match r.loops with
    | [] => { r with pc := pc }
    | f :: fs =>
      if pc = f.first + f.body then
        if f.index + 1 < f.count then
          { r with pc := f.first, loops := { f with index := f.index + 1 } :: fs,
                   l := SMap.set r.l fs.length (BitVec.ofNat 32 (f.index + 1)) 0 }
        else afterWord n pc { r with loops := fs }
      else { r with pc := pc }

/-- The next word. -/
def nextWord (r : VeRegs) : VeRegs := afterWord r.loops.length (r.pc + 1) r

/-- LOOP: a COUNT of 0 skips the body. -/
def enterLoop (body count : Nat) (r : VeRegs) : VeRegs :=
  if count = 0 then afterWord r.loops.length (r.pc + 1 + body) r
  else { r with pc := r.pc + 1, loops := { first := r.pc + 1, body := body, count := count, index := 0 } :: r.loops,
                l := SMap.set r.l r.loops.length 0 0 }

end Sys2Proof.Machine
end

