-- ==== Sys2Proof/Decode.lean ====
section
/-! DEFINITION. Decoding by the opcode table's bits, and the words of vector programs (chapter 07) read and written as commands. -/
namespace Sys2Proof
open Machine

/-- The command that a word spells by the opcode table's bits: none, since no row of the table has a bit field. -/
def decodeTableWord (_nbits _w : Nat) : Option Instr := none

/-- The command that a vector instruction word spells on engine u (Table 7.6); `endAt` is when an END completes its task. None for an
opcode that the table does not list. -/
def decodeVectorWord (u : Fin 16) (endAt : Nat) (x : W64) : Option Instr :=
  let w := VWord.decode x
  match (wordOp x).toNat with
  | 0x00 => some (.nop u w)
  | 0x01 => some (.endTask u endAt)
  | 0x02 => some (.setvl u w)
  | 0x03 => some (.loopN u (x.extractLsb' 32 16) (x.extractLsb' 0 32))
  | 0x08 => some (.slil u w)
  | 0x09 => some (.slih u w)
  | 0x0A => some (.sadd u w)
  | 0x0B => some (.ssub u w)
  | 0x0C => some (.smul u w)
  | 0x0D => some (.sget u w)
  | 0x10 => some (.sfadd u w)
  | 0x11 => some (.sfsub u w)
  | 0x12 => some (.sfmul u w)
  | 0x13 => some (.sfdiv u w)
  | 0x14 => some (.sfsqrt u w)
  | 0x15 => some (.sfrsqrt u w)
  | 0x16 => some (.sfmax u w)
  | 0x17 => some (.sfmin u w)
  | 0x18 => some (.snf u w)
  | 0x20 => some (.vadd u w)
  | 0x21 => some (.vsub u w)
  | 0x22 => some (.vmul u w)
  | 0x23 => some (.vfma u w)
  | 0x24 => some (.vmin u w)
  | 0x25 => some (.vmax u w)
  | 0x26 => some (.vabs u w)
  | 0x27 => some (.vneg u w)
  | 0x28 => some (.vdiv u w)
  | 0x29 => some (.vsqrt u w)
  | 0x2A => some (.vrsqrt u w)
  | 0x2B => some (.vrcp u w)
  | 0x2C => some (.vexp2 u w)
  | 0x2D => some (.vlog2 u w)
  | 0x2E => some (.vaddc u w)
  | 0x2F => some (.vfold u w)
  | 0x30 => some (.vand u w)
  | 0x31 => some (.vor u w)
  | 0x32 => some (.vxor u w)
  | 0x33 => some (.vshl u w)
  | 0x34 => some (.vshr u w)
  | 0x35 => some (.vsel u w)
  | 0x36 => some (.vmov u w)
  | 0x37 => some (.vidx u w)
  | 0x38 => some (.vcvt u w)
  | 0x40 => some (.vcmp u w)
  | 0x41 => some (.mop u w)
  | 0x42 => some (.mpop u w)
  | 0x48 => some (.vrsum u w)
  | 0x49 => some (.vrsumc u w)
  | 0x4A => some (.vrmax u w)
  | 0x4B => some (.vrmin u w)
  | 0x4C => some (.vramax u w)
  | 0x4D => some (.vrssqc u w)
  | 0x60 => some (.tload u w)
  | 0x61 => some (.tstream u w)
  | 0x62 => some (.vld u w)
  | 0x63 => some (.topen u w)
  | 0x64 => some (.vst u w)
  | 0x65 => some (.vldw u w)
  | 0x66 => some (.twrite u w)
  | _ => none

/-- The word of a vector instruction (Tables 7.4 and 7.6), with the engine that it runs on; none for any other command. -/
def encodeVectorWord : Instr → Option (Fin 16 × W64)
  | .nop u w => some (u, VWord.encode 0x00 w)
  | .endTask u _ => some (u, 0x0100000000000000)
  | .setvl u w => some (u, VWord.encode 0x02 w)
  | .loopN u body count => some (u, loopWord body count)
  | .slil u w => some (u, VWord.encode 0x08 w)
  | .slih u w => some (u, VWord.encode 0x09 w)
  | .sadd u w => some (u, VWord.encode 0x0A w)
  | .ssub u w => some (u, VWord.encode 0x0B w)
  | .smul u w => some (u, VWord.encode 0x0C w)
  | .sget u w => some (u, VWord.encode 0x0D w)
  | .sfadd u w => some (u, VWord.encode 0x10 w)
  | .sfsub u w => some (u, VWord.encode 0x11 w)
  | .sfmul u w => some (u, VWord.encode 0x12 w)
  | .sfdiv u w => some (u, VWord.encode 0x13 w)
  | .sfsqrt u w => some (u, VWord.encode 0x14 w)
  | .sfrsqrt u w => some (u, VWord.encode 0x15 w)
  | .sfmax u w => some (u, VWord.encode 0x16 w)
  | .sfmin u w => some (u, VWord.encode 0x17 w)
  | .snf u w => some (u, VWord.encode 0x18 w)
  | .vadd u w => some (u, VWord.encode 0x20 w)
  | .vsub u w => some (u, VWord.encode 0x21 w)
  | .vmul u w => some (u, VWord.encode 0x22 w)
  | .vfma u w => some (u, VWord.encode 0x23 w)
  | .vmin u w => some (u, VWord.encode 0x24 w)
  | .vmax u w => some (u, VWord.encode 0x25 w)
  | .vabs u w => some (u, VWord.encode 0x26 w)
  | .vneg u w => some (u, VWord.encode 0x27 w)
  | .vdiv u w => some (u, VWord.encode 0x28 w)
  | .vsqrt u w => some (u, VWord.encode 0x29 w)
  | .vrsqrt u w => some (u, VWord.encode 0x2A w)
  | .vrcp u w => some (u, VWord.encode 0x2B w)
  | .vexp2 u w => some (u, VWord.encode 0x2C w)
  | .vlog2 u w => some (u, VWord.encode 0x2D w)
  | .vaddc u w => some (u, VWord.encode 0x2E w)
  | .vfold u w => some (u, VWord.encode 0x2F w)
  | .vand u w => some (u, VWord.encode 0x30 w)
  | .vor u w => some (u, VWord.encode 0x31 w)
  | .vxor u w => some (u, VWord.encode 0x32 w)
  | .vshl u w => some (u, VWord.encode 0x33 w)
  | .vshr u w => some (u, VWord.encode 0x34 w)
  | .vsel u w => some (u, VWord.encode 0x35 w)
  | .vmov u w => some (u, VWord.encode 0x36 w)
  | .vidx u w => some (u, VWord.encode 0x37 w)
  | .vcvt u w => some (u, VWord.encode 0x38 w)
  | .vcmp u w => some (u, VWord.encode 0x40 w)
  | .mop u w => some (u, VWord.encode 0x41 w)
  | .mpop u w => some (u, VWord.encode 0x42 w)
  | .vrsum u w => some (u, VWord.encode 0x48 w)
  | .vrsumc u w => some (u, VWord.encode 0x49 w)
  | .vrmax u w => some (u, VWord.encode 0x4A w)
  | .vrmin u w => some (u, VWord.encode 0x4B w)
  | .vramax u w => some (u, VWord.encode 0x4C w)
  | .vrssqc u w => some (u, VWord.encode 0x4D w)
  | .tload u w => some (u, VWord.encode 0x60 w)
  | .tstream u w => some (u, VWord.encode 0x61 w)
  | .vld u w => some (u, VWord.encode 0x62 w)
  | .topen u w => some (u, VWord.encode 0x63 w)
  | .vst u w => some (u, VWord.encode 0x64 w)
  | .vldw u w => some (u, VWord.encode 0x65 w)
  | .twrite u w => some (u, VWord.encode 0x66 w)
  | _ => none

end Sys2Proof
end

