-- ==== Sys2Proof/Machine/Comp.lean ====
section
/-! DEFINITION. Compensated FP32 arithmetic: Neumaier's update, pairs, lane sums (R209, R263, R268, R490). -/
namespace Sys2Proof

/-- An FP32 sum, without its flags. -/
def add32 (a b : Nat) : Nat := (f32.add a b).1
/-- An FP32 difference, without its flags. -/
def sub32 (a b : Nat) : Nat := (f32.sub a b).1
/-- An FP32 product, without its flags. -/
def mul32 (a b : Nat) : Nat := (f32.mul a b).1
/-- An FP32 quotient, without its flags. -/
def div32 (a b : Nat) : Nat := (f32.div a b).1
/-- An FP32 square root, without its flags. -/
def sqrt32 (a : Nat) : Nat := (f32.sqrt a).1

/-- A compensated sum: s and its compensation c, as encodings of a format. -/
structure Pair where
  s : Nat := 0
  c : Nat := 0
  deriving DecidableEq, Repr

/-- Not an infinity and not a NaN. -/
def Fmt.finite (f : Fmt) (x : Nat) : Bool := (f.decode x).isFinite

/-- Neumaier's update in FP32: x is added to s, its rounding error to c (R209). -/
def Pair.add (p : Pair) (x : Nat) : Pair :=
  let t := add32 p.s x
  if !f32.finite t then ⟨t, 0⟩
  else if Fl.absGe (f32.decode p.s) (f32.decode x) then ⟨t, add32 p.c (add32 (sub32 p.s t) x)⟩
  else ⟨t, add32 p.c (add32 (sub32 x t) p.s)⟩

/-- The corrected sum, rne(s + c). -/
def Pair.fold (p : Pair) : Nat := add32 p.s p.c

/-- Two pairs combined (R268): the second's sum is added, then the compensations. -/
def Pair.merge (p q : Pair) : Pair :=
  let r := Pair.add p q.s
  ⟨r.s, add32 r.c q.c⟩

/-- A pair as a 64-bit value: s in [31:0], c in [63:32] (R470). -/
def Pair.word (p : Pair) : Nat := p.s + p.c * 2 ^ 32

/-- The pair that a 64-bit value holds. -/
def Pair.ofWord (v : Nat) : Pair := ⟨v % 2 ^ 32, v / 2 ^ 32 % 2 ^ 32⟩

/-- Adjacent elements merged: one level of the reduction tree (R267). -/
def halve {α : Type} (f : α → α → α) : List α → List α
  | a :: b :: r => f a b :: halve f r
  | xs => xs

/-- n levels of halving. -/
def halveTimes {α : Type} (f : α → α → α) : Nat → List α → List α
  | 0, xs => xs
  | n + 1, xs => halveTimes f n (halve f xs)

/-- One lane's fold over its elements: every 128th element from the lane's own on; the fuel bounds their number. -/
def laneFold {α β : Type} (f : β → α → β) : Nat → List α → β → β
  | 0, _, acc => acc
  | n + 1, xs, acc =>
    match xs with
    | [] => acc
    | x :: r => laneFold f n (r.drop 127) (f acc x)

/-- The lane structure of a reduction: 128 lanes, each over its elements in order, merged in seven levels (R267). -/
def laneReduce {α β : Type} (f : β → α → β) (g : β → β → β) (z : β) (xs : List α) : β :=
  let lanes := (List.range 128).map (fun l => laneFold f (xs.length / 128 + 1) (xs.drop l) z)
  (halveTimes g 7 lanes).headD z

/-- Elements with their active bits summed with compensation (VRSUMC, R268). -/
def sumPairs (xs : List (Option Nat)) : Pair :=
  laneReduce (fun p x => match x with
    | some v => Pair.add p v
    | none => p) Pair.merge {} xs

/-- The square of an FP32 value, rounded once (VRSSQC, R268). -/
def square32 (x : Nat) : Nat := mul32 x x

end Sys2Proof
end

