-- ==== Sys2Proof/Machine/Clears.lean ====
section
/-! DEFINITION. The counter clears of each block (R200, R234, R274; Tables 5.17, 7.17, 8.17, 9.13, 10.24, 11.12, 13.23, 14.20,
16.27). -/
namespace Sys2Proof.Machine

/-- A write of a CLEAR register: bit 0 set applies the clear. -/
def clearWrite (p : Port) (r : Reg) (v : W64) (zero : State → State) (s : State) : State :=
  regWrite p r v (fun _ => 0) (fun x s => if x.testBit 0 then zero s else s) s

/-- ME_BUSY, ME_MACS, ME_STALL, ME_COUNTS and ME_ACC_COUNTS zeroed; ME_ACC_LAST stays (R234). -/
def MeUnit.cleared (m : MeUnit) : MeUnit :=
  { m with busy := 0, macs := 0, stallFetch := 0, stallHeld := 0, crcFail := 0, replayCount := 0, exhausted := 0, reruns := 0,
           nonfinTasks := 0 }

/-- A matrix engine changed. -/
def updMe (die u : Nat) (f : MeUnit → MeUnit) (s : State) : State := { s with me := SMap.modify s.me (2 * die + u) {} f }

/-- A vector engine changed. -/
def updVe (die u : Nat) (f : VeUnit → VeUnit) (s : State) : State := { s with ve := SMap.modify s.ve (2 * die + u) {} f }

/-- An attention engine changed. -/
def updAe (die : Nat) (f : SeqUnit → SeqUnit) (s : State) : State := { s with ae := SMap.modify s.ae die {} f }

/-- A gather-scatter engine changed. -/
def updGse (die : Nat) (f : SeqUnit → SeqUnit) (s : State) : State := { s with gse := SMap.modify s.gse die {} f }

/-- A layout engine changed. -/
def updLye (die : Nat) (f : SeqUnit → SeqUnit) (s : State) : State := { s with lye := SMap.modify s.lye die {} f }

/-- ME_CLEAR (Table 5.17, R200, R234). -/
def execMeClear (p : Port) (die : Fin 8) (u : Fin 2) (v : W64) (s : State) : Result :=
  .next (clearWrite p (.me die u .clear) v (updMe die u MeUnit.cleared) s)

/-- VE_BUSY, VE_COUNTS and VE_FLAGS.ACCUM zeroed; LAST and VE_FAULT stay (R274). -/
def VeUnit.cleared (m : VeUnit) : VeUnit := { m with busy := 0, crcFail := 0, twrites := 0, accum := 0 }

/-- VE_CLEAR (Table 7.17, R274). -/
def execVeClear (p : Port) (die : Fin 8) (u : Fin 2) (v : W64) (s : State) : Result :=
  .next (clearWrite p (.ve die u .clear) v (updVe die u VeUnit.cleared) s)

/-- The counters of an attention, gather-scatter or layout engine zeroed (Table 8.17). -/
def SeqUnit.cleared (m : SeqUnit) : SeqUnit := { m with busy := 0, crcFail := 0, count := 0 }

/-- AE_CLEAR (Table 8.17). -/
def execAeClear (p : Port) (die : Fin 8) (v : W64) (s : State) : Result :=
  .next (clearWrite p (.ae die .clear) v (updAe die SeqUnit.cleared) s)

/-- GSE_CLEAR (Table 8.17). -/
def execGseClear (p : Port) (die : Fin 8) (v : W64) (s : State) : Result :=
  .next (clearWrite p (.gse die .clear) v (updGse die SeqUnit.cleared) s)

/-- LYE_CLEAR (Table 8.17). -/
def execLyeClear (p : Port) (die : Fin 8) (v : W64) (s : State) : Result :=
  .next (clearWrite p (.lye die .clear) v (updLye die SeqUnit.cleared) s)

/-- TST_ECC and every TST_CONFLICTm zeroed (Table 9.13). -/
def TileStore.cleared (x : TileStore) : TileStore := { x with corrected := 0, uncorrectable := 0, conflict := [] }

/-- TST_CLEAR (Table 9.13). -/
def execTstClear (p : Port) (t : Fin 9) (v : W64) (s : State) : Result :=
  .next (clearWrite p (.tst t .clear) v (updTst t TileStore.cleared) s)

/-- PLE_CLEAR (Table 10.24). -/
def execPleClear (p : Port) (v : W64) (s : State) : Result :=
  .next (clearWrite p .pleClear v (fun s => { s with ple := { s.ple with counts := {} } }) s)

/-- LPD_ERRORS, LPD_WCB and LPD_ECLIPSE zeroed (Table 11.12). -/
def Lpd.cleared (l : Lpd) : Lpd :=
  { l with corrected := 0, retries := 0, mergeReads := 0, recordFlushes := 0, maxFlush := 0, maxWork := 0, maxMissed := 0 }

/-- LPD_CLEAR (Table 11.12). -/
def execLpdClear (p : Port) (v : W64) (s : State) : Result :=
  .next (clearWrite p .lpdClear v (fun s => { s with lpd := Lpd.cleared s.lpd }) s)

/-- The error counts of a link zeroed (Table 13.23). -/
def Link.cleared (k : Link) : Link := { k with corrected := 0, uncorrected := 0, retries := 0 }

/-- FAB_COUNTS and the error counts of every link zeroed (Table 13.23). -/
def clearFab (s : State) : State :=
  { updLinks (List.range 48) Link.cleared s with
    fab := { (updLinks (List.range 48) Link.cleared s).fab with retries := 0, halts := 0, drops := 0 } }

/-- FAB_CLEAR (Table 13.23). -/
def execFabClear (p : Port) (v : W64) (s : State) : Result := .next (clearWrite p .fabClear v clearFab s)

/-- RDX_CLEAR: RDX_COUNTS and RDX_GATE.SKIPPED zeroed (Table 14.20). -/
def execRdxClear (p : Port) (v : W64) (s : State) : Result :=
  .next (clearWrite p .rdxClear v (fun s => { s with rdx := { s.rdx with buckets := 0, nonfinBuckets := 0, skipped := 0 } }) s)

/-- CPY_CLEAR: CPY_COUNTS zeroed (Table 16.27); a CSR_WRITE performs it. -/
def clearCpy (p : Port) (v : W64) (s : State) : State :=
  clearWrite p .cpyClear v (fun s => { s with host := { s.host with crcFail := 0, records := 0, fromHost := 0, toHost := 0 } }) s

end Sys2Proof.Machine
end

