-- ==== Sys2Proof/Machine/Tasks.lean ====
section
/-! DEFINITION. Starting a task on the engine that its logical engine binds to, and what the engines share at a task's tiles and end
(R65 to R72, R115, R172, R237, R276). -/
namespace Sys2Proof.Machine

/-! ## Engines by unit -/

/-- The physical die of an engine. -/
def engineDie (s : State) (e : EngineEntry) : Nat := physDie s.img.binding e.ldie

/-- A matrix engine changed, by 2 × die + u. -/
def updMeUnit (u : Nat) (f : MeUnit → MeUnit) (s : State) : State := { s with me := SMap.modify s.me u {} f }

/-- A vector engine changed, by 2 × die + u. -/
def updVeUnit (u : Nat) (f : VeUnit → VeUnit) (s : State) : State := { s with ve := SMap.modify s.ve u {} f }

/-- A copy engine changed. -/
def updCe (u : Nat) (f : CopyUnit → CopyUnit) (s : State) : State := { s with host := { s.host with ce := SMap.modify s.host.ce u {} f } }

/-! ## TASK_START (R65, R66) -/

/-- s0 to s5 at the start of a vector task (Table 7.3, R237). -/
def startScalars (t : TaskEntry) : SMap W32 :=
  (List.range 6).foldl (fun m k => SMap.set m k (BitVec.ofNat 32 (payloadField t (95 + 32 * k) (64 + 32 * k))) 0) []

/-- A matrix engine as its task starts. -/
def MeUnit.started (r : RunTask) (m : MeUnit) : MeUnit :=
  { m with run := some r, taskIndex := r.task.idx, accSlot := payloadField r.task 31 24, replays := 0, phase := 1, held := none }

/-- A vector engine as its task starts: every register but s0 to s5 is zero and every buffer empty (R237). -/
def VeUnit.started (r : RunTask) (m : VeUnit) : VeUnit :=
  { m with run := some r, taskIndex := r.task.idx, pcLast := 0, phase := 1, held := none, regs := { s := startScalars r.task } }

/-- An attention, gather-scatter or layout engine as its task starts. -/
def SeqUnit.started (r : RunTask) (m : SeqUnit) : SeqUnit :=
  { m with run := some r, taskIndex := r.task.idx, item := 0, phase := 1, held := none }

/-- The kinds of engine that run tasks: a task descriptor is defined for no other (Tables 3.6, 5.4, 7.3, 8.1, 8.4, 8.6, 16.5). -/
def runsTasks (kind : Nat) : Bool := kind == 1 || kind == 2 || kind == 3 || kind == 4 || kind == 5 || kind == 9

/-- The task is loaded into its unit. -/
def loadUnit (e : EngineEntry) (r : RunTask) (s : State) : State :=
  let d := engineDie s e
  match e.kind with
  | 1 => updMeUnit (2 * d + e.unit) (MeUnit.started r) s
  | 2 => updVeUnit (2 * d + e.unit) (VeUnit.started r) s
  | 3 => updAe d (SeqUnit.started r) s
  | 4 => updGse d (SeqUnit.started r) s
  | 5 => updLye d (SeqUnit.started r) s
  | 9 => updCe e.unit (fun _ => { run := some r }) { s with lpd := forgetWriter s.lpd r.task.le }
  | _ => s

/-- A task may start now: released, its dependencies complete, its engine free, before P − E (R65, R66). -/
def mayStart (s : State) (i : Image) (t : TaskEntry) : Bool :=
  decide (t.release ≤ s.beam.offset) && decide (s.beam.offset < eclipseStart s.live)
    && !engineBusy s.beam t.le && t.deps.all (depDone s i)

/-- The running task as its engine holds it: aliases resolve at its start (R501). -/
def runTask (s : State) (i : Image) (t : TaskEntry) : RunTask :=
  { task := t, accs := (accsOf i t).map (resolveAccess s i), planBeam := s.beam.planBeam, start := s.beam.offset }

/-- The task starts on its engine. -/
def startOn (i : Image) (e : EngineEntry) (t : TaskEntry) (s : State) : State :=
  loadUnit e (runTask s i t) { s with beam := { s.beam with started := (t.le, t.idx) :: s.beam.started } }

/-- A task of a flagged plan beam that is not due completes at its release offset with no effect (R524). -/
def passTask (t : TaskEntry) (s : State) : State :=
  markDone t.le t.idx { s with beam := { s.beam with started := (t.le, t.idx) :: s.beam.started } }

/-- The next task of an engine's list starts where it may. -/
def startTask (i : Image) (le : Nat) (s : State) : Option State :=
  match i.engines[le]?, nextTask s i le with
  | some e, some t =>
    if !beamDue s i s.beam.planBeam then (if t.release ≤ s.beam.offset then some (passTask t s) else none)
    else if runsTasks e.kind && mayStart s i t then some (startOn i e t s)
    else none
  | _, _ => none

/-- TASK_START (R65): at an offset of the beam, the engine starts the next task of its list. -/
def execTaskStart (le off : Nat) (s : State) : Result :=
  .next (
    if planRuns s then
      match s.img.live.bind (fun i => startTask i le (advanceTo off s)) with
      | some t => t
      | none => s
    else s)

/-! ## Tiles of a running task (R172, R173, R178) -/

/-- A tile of an access, by its offset from FIRST_TILE: none where it lies outside the access record. -/
def tileRef (i : Image) (r : RunTask) (acc off : Nat) : Option TileRef :=
  match r.accs[acc]? with
  | some a =>
    if off < a.count then (buoyEntry i a.buoy).map (fun e => ⟨e, a.first + off, a.budget⟩) else none
  | none => none

/-- Tiles of an access, by their offsets: none where one lies outside the access record, which no checked image has. -/
def tileRefs (i : Image) (r : RunTask) (acc : Nat) (offs : List Nat) : Option (List TileRef) := offs.mapM (tileRef i r acc)

/-- A task may end at an offset: it is not an overrun (R72). -/
def mayEnd (s : State) (endAt : Nat) : Bool := decide (endAt < periodOf s.live)

/-- Clocks in which a task was running, as its end adds them to a counter of 64 bits. -/
def addBusy (busy start endAt : Nat) : Nat := satAdd 64 busy (endAt - start)

end Sys2Proof.Machine
end

