-- ==== Sys2Proof/Machine/Attention.lean ====
section
/-! DEFINITION. The attention engine: masks, scores, the forward and the backward pass (chapter 08, R276 to R299). -/
namespace Sys2Proof.Machine

/-! ## Shared by the attention, gather-scatter and layout engines (R276, R277) -/

/-- Tiles used by an engine of chapter 08: a CRC failure holds it, records 0x4800 and counts (R276). -/
def seqTiles (who : Nat) (upd : (SeqUnit → SeqUnit) → State → State) (t : RunTask) (rs : List TileRef) (s : State) :
    Option (List (Header × Bytes)) × State :=
  match useTiles who t.task.le 0x4800 0x8800 rs s with
  | (.all ts, x) => (some ts, x)
  | (.held b k, x) => (none, upd (fun m => { m with held := some ⟨b, k⟩, crcFail := satAdd 32 m.crcFail 1 }) x)
  | (.waiting, x) => (none, x)
  | (.stop, x) => (none, x)

/-- Elements narrowed into a tile that a task names (R277). -/
def seqWrite (who : Nat) (i : Image) (t : RunTask) (r : TileRef) (ordinal : Nat) (axis : Bool) (xs : List Nat) (s : State) : Bool × State :=
  writeNarrowed who (some t.task.le) i r.entry r.tile ordinal axis xs s

/-- The task that a unit runs, neither held nor stopped. -/
def seqTask (s : State) (m : SeqUnit) : Option (Image × RunTask) :=
  match s.img.live, m.run with
  | some i, some t => if planRuns s && m.held.isNone then some (i, t) else none
  | _, _ => none

/-- A unit as its task ends. -/
def SeqUnit.finished (t : RunTask) (items endAt : Nat) (m : SeqUnit) : SeqUnit :=
  { m with run := none, phase := 0, item := items - 1, busy := addBusy m.busy t.start endAt }

/-! ## The descriptor (R287 to R290) -/

/-- Iterated blocks. -/
def aeCount (t : TaskEntry) : Nat := payloadField t 207 192
/-- FIX_T. -/
def aeFix (t : TaskEntry) : Nat := payloadField t 191 172
/-- The tile offset of iterated block j. -/
def aeIter (t : TaskEntry) (j : Nat) : Nat := payloadField t 171 152 + j * payloadField t 151 136
/-- CTX. -/
def aeCtxNo (t : TaskEntry) : Nat := payloadField t 32 30
/-- d. -/
def headDim (t : TaskEntry) : Nat := 64 * 2 ^ payloadField t 29 28
/-- Tiles of a block: two for d = 256. -/
def blockTiles (t : TaskEntry) : Nat := if payloadField t 29 28 = 2 then 2 else 1
/-- BWD. -/
def isBwd (t : TaskEntry) : Bool := payloadField t 40 33 == 2
/-- The query block's number for iterated block j. -/
def qBlock (t : TaskEntry) (j : Nat) : Nat := payloadField t 135 119 + (if isBwd t then j * payloadField t 101 85 else 0)
/-- The key block's number for iterated block j. -/
def kBlock (t : TaskEntry) (j : Nat) : Nat := payloadField t 118 102 + (if isBwd t then 0 else j * payloadField t 101 85)
/-- FINISH. -/
def aeFinish (t : TaskEntry) : Bool := t.payload.testBit 26

/-- Consecutive tiles of an access from an offset on. -/
def runRefs (i : Image) (r : RunTask) (acc off n : Nat) : Option (List TileRef) := tileRefs i r acc ((List.range n).map (· + off))

/-- The K and V tiles of a block. -/
def kvRefs (i : Image) (r : RunTask) (off : Nat) : Option (List TileRef) := runRefs i r (payloadField r.task 20 18) off (2 * blockTiles r.task)

/-- The Q tiles of a block. -/
def qRefs (i : Image) (r : RunTask) (off : Nat) : Option (List TileRef) := runRefs i r (payloadField r.task 23 21) off (blockTiles r.task)

/-- The statistics tile of the query block at tile offset x (R290). -/
def statRef (i : Image) (r : RunTask) (x : Nat) : Option TileRef := tileRef i r (payloadField r.task 14 12) (256 * x / 16384)

/-! ## Masks (R291, R292) -/

/-- The bitmap's bit of iterated block j, out of the mask tile's elements (R291). -/
def sparseBit (t : TaskEntry) (mask : List Nat) (j : Nat) : Bool :=
  let b := payloadField t 60 41 + j
  (mask.getD (b / 32) 0).testBit (b % 32)

/-- A query position and a key position form an allowed pair by CAUSAL and WINDOW (R291). -/
def allowedPair (t : TaskEntry) (q k : Nat) : Bool :=
  let w := payloadField t 84 61
  if t.payload.testBit 25 then decide (k ≤ q) && (w == 0 || decide (q - k < w))
  else w == 0 || decide (q - k + (k - q) < w)

/-- The allowed pairs of query row r and the 128 keys of iterated block j. -/
def allowedRow (t : TaskEntry) (mask : List Nat) (j r : Nat) : List Bool :=
  let bitOk := !t.payload.testBit 24 || sparseBit t mask j
  (List.range 128).map (fun c => bitOk && allowedPair t (128 * qBlock t j + r) (128 * kBlock t j + c))

/-- Iterated block j has no allowed pair: it is skipped (R292). -/
def skipsBlock (t : TaskEntry) (mask : List Nat) (j : Nat) : Bool :=
  (List.range 128).all (fun r => (allowedRow t mask j r).all (fun b => !b))

/-! ## Operands (R282, R283) -/

/-- The real values of a block: 128 rows of d columns. -/
def blockRows (d : Nat) (ts : List (Header × Bytes)) : List (List Fl) :=
  let parts := ts.map (fun x => rowsOf 128 ((elemOf x.1.format).elim [] (fun e => tileValues x.1 e (x.2.drop 64))))
  (List.range 128).map (fun r => (parts.flatMap (fun p => p.getD r [])).take d)

/-- The columns of 128 rows. -/
def blockColumns (d : Nat) (rows : List (List Fl)) : List (List Fl) := columnsOf d rows

/-- p_s: 8 products for 16-bit Q and K, 16 for 8-bit (R283). -/
def scoreGroup (ts : List (Header × Bytes)) : Nat :=
  match (ts.head?).bind (fun x => elemOf x.1.format) with
  | some e => if e.width = 16 then 8 else 16
  | none => 8

/-- π: FP16 for FP16 inputs, else BF16 (R282). -/
def probFmt (ts : List (Header × Bytes)) : Fmt := if (ts.head?).elim 0 (fun x => x.1.format) = 0x03 then f16 else bf16

/-- An exact group sum rounded once to FP32 (R293). -/
def group32 (a b : List Fl) : Nat := (f32.ofFl (exact a b (.fin false 0 0))).1
where
  /-- The sum of products; NaN where a factor is not finite. -/
  exact : List Fl → List Fl → Fl → Fl
    | x :: xs, y :: ys, acc => exact xs ys (if x.isFinite && y.isFinite then Fl.add acc (Fl.mul x y) else .nan)
    | _, _, acc => acc

/-- Groups of g of a list of n elements. -/
def inGroups {α : Type} (g n : Nat) (xs : List α) : List (List α) := (List.range (n / g)).map (fun k => (xs.drop (k * g)).take g)

/-- The group sums of a dot product over n elements. -/
def dotGroups (g n : Nat) (a b : List Fl) : List Nat := List.zipWith group32 (inGroups g n a) (inGroups g n b)

/-- A score or dP: group sums added in plain FP32 (R293, R296). -/
def plainDot (g n : Nat) (a b : List Fl) : Nat := (dotGroups g n a b).foldl add32 0

/-- A compensated sum of groups of 8 (R293, R296). -/
def pairDot (p : Pair) (a b : List Fl) : Pair := (dotGroups 8 128 a b).foldl Pair.add p

/-! ## Contexts (R284, R286) -/

/-- −∞ in FP32. -/
def minusInf : Nat := f32.infCode true

/-- A pair as a context holds it. -/
def ctxPair (p : Pair) : W32 × W32 := (BitVec.ofNat 32 p.s, BitVec.ofNat 32 p.c)

/-- The pair that a context holds. -/
def pairCtx (x : W32 × W32) : Pair := ⟨x.1.toNat, x.2.toNat⟩

/-- A context cleared by INIT. -/
def clearCtx (t : TaskEntry) : AeCtx :=
  let zeros := List.replicate 128 (List.replicate (headDim t) (0#32, 0#32))
  { isOpen := true, m := List.replicate 128 (BitVec.ofNat 32 minusInf), l := List.replicate 128 (0#32, 0#32), o := zeros,
    o2 := if isBwd t then zeros else [] }

/-- Undefined context contents (R286). -/
def undefinedCtx (gen : Nat) (t : TaskEntry) : AeCtx :=
  let w (k : Nat) : W32 := BitVec.ofNat 32 (leNat ((List.range 4).map (fun b => Config.undefinedByte gen (aeCtxNo t * 524288 + 4 * k + b))))
  let rows (base : Nat) : List (List (W32 × W32)) :=
    (List.range 128).map (fun r => (List.range (headDim t)).map (fun x => (w (base + 2 * (r * headDim t + x)), w (base + 2 * (r * headDim t + x) + 1))))
  { isOpen := true, m := (List.range 128).map w, l := (List.range 128).map (fun r => (w (128 + 2 * r), w (129 + 2 * r))),
    o := rows 512, o2 := if isBwd t then rows 66048 else [] }

/-- The context as the next block finds it: INIT clears it before the first block (R285). -/
def ctxFor (s : State) (m : SeqUnit) (t : TaskEntry) : AeCtx :=
  let c := SMap.get m.ctx (aeCtxNo t) {}
  if t.payload.testBit 27 && m.item = 0 then clearCtx t
  else if c.isOpen then c else undefinedCtx (s.freeCount + 1) t

/-! ## Forward (R293, R294) -/

/-- The running state of a query row. -/
structure AeRow where
  m : Nat
  l : Pair
  o : List Pair
  deriving DecidableEq, Repr

/-- The rows of a forward context. -/
def ctxRows (c : AeCtx) : List AeRow :=
  List.zipWith (fun (m : W32) (x : (W32 × W32) × List (W32 × W32)) => ⟨m.toNat, pairCtx x.1, x.2.map pairCtx⟩) c.m (c.l.zip c.o)

/-- A forward context out of its rows. -/
def rowsCtx (rs : List AeRow) : AeCtx :=
  { isOpen := true, m := rs.map (fun r => BitVec.ofNat 32 r.m), l := rs.map (fun r => ctxPair r.l), o := rs.map (fun r => r.o.map ctxPair) }

/-- t of a pair: masked −∞; a score that is not finite makes its row NaN (R293, R294; DEDUCED, log 28). -/
def scaledScore (scale2 : Nat) (allowed : Bool) (sc : Nat) : Nat :=
  if !allowed then minusInf else if nonfinite32 sc then f32.nanCode else mul32 sc scale2

/-- exp2 in FP32. -/
def exp232 (a : Nat) : Nat := (f32.exp2 a).1

/-- A probability in π. -/
def probOf (pi : Fmt) (t mn : Nat) : Fl := pi.decode (pi.ofFl (f32.decode (exp232 (sub32 t mn)))).1

/-- block_update of R293 for one row. -/
def updateRow (pi : Fmt) (ts : List Nat) (vCols : List (List Fl)) (r : AeRow) : AeRow :=
  let mn := f32.max r.m (ts.foldl f32.max minusInf)
  if mn = minusInf then r
  else
    let a := exp232 (sub32 r.m mn)
    let ps := ts.map (fun t => probOf pi t mn)
    let l0 : Pair := ⟨mul32 r.l.s a, mul32 r.l.c a⟩
    { m := mn
      l := ps.foldl (fun p x => Pair.add p (f32.ofFl x).1) l0
      o := List.zipWith (fun (p : Pair) v => pairDot ⟨mul32 p.s a, mul32 p.c a⟩ ps v) r.o vCols }

/-- −(2 − 2⁻²³) × 2¹²⁷. -/
def minusMax : Nat := f32.sign true + f32.maxCode

/-- finish of R293: the output row and the log-sum-exp. -/
def finishRow (d : Nat) (r : AeRow) : List Nat × Nat :=
  if r.m = minusInf then (List.replicate d 0, minusMax)
  else
    let lf := r.l.fold
    (r.o.map (fun p => div32 p.fold lf), add32 r.m (f32.log2 lf).1)

/-- Scores of the pairs of query row r (R293). -/
def scoreRow (ps d : Nat) (q : List Fl) (kRows : List (List Fl)) : List Nat := kRows.map (fun k => plainDot ps d q k)

/-- SCALE2. -/
def scale2Of (t : TaskEntry) : Nat := payloadField t 255 224

/-- A forward block. -/
def forwardBlock (t : TaskEntry) (mask : List Nat) (j : Nat) (q kv : List (Header × Bytes)) (c : AeCtx) : AeCtx :=
  let d := headDim t
  let k := kv.take (blockTiles t)
  let qr := blockRows d q
  let kr := blockRows d k
  let vc := blockColumns d (blockRows d (kv.drop (blockTiles t)))
  let rows := (List.range 128).zipWith (fun r (row : AeRow) =>
    let ts := List.zipWith (scaledScore (scale2Of t)) (allowedRow t mask j r) (scoreRow (scoreGroup k) d (qr.getD r []) kr)
    updateRow (probFmt q) ts vc row) (ctxRows c)
  rowsCtx rows

/-- Rows of d columns as the tiles of a block: for d = 64 the columns from 64 on are zero. -/
def rowsTiles (d : Nat) (rows : List (List Nat)) : List (List Nat) :=
  if d = 256 then [rows.flatMap (fun r => r.take 128), rows.flatMap (fun r => r.drop 128)]
  else [rows.flatMap (fun r => (r ++ List.replicate (128 - d) 0).take 128)]

/-! ## Backward (R296) -/

/-- ⌊ln 2 × 2^256⌋. -/
def ln2Fix : Nat := 80260960185991308862233904206310070533990667611589946606122867505419956976171

/-- scale_n = rne(SCALE2 × ln 2), with ln 2 exact. -/
def scaleN (scale2 : Nat) : Nat :=
  match f32.decode scale2 with
  | .fin s m e => if m = 0 then (f32.ofFl (.fin s 0 0)).1 else (f32.sticky s (m * ln2Fix) true (e - 256)).1
  | x => (f32.ofFl x).1

/-- p and dS of one query row over the keys (R296). -/
def gradRow (pi : Fmt) (scale : Nat) (ts dps : List Nat) (allowed : List Bool) (lse dd : Nat) : List (Fl × Fl) :=
  List.zipWith (fun (a : Bool) (x : Nat × Nat) =>
    if a then
      let p := probOf pi x.1 lse
      let ds := mul32 (mul32 (f32.ofFl p).1 (sub32 x.2 dd)) scale
      (p, pi.decode (pi.ofFl (f32.decode ds)).1)
    else (.fin false 0 0, .fin false 0 0)) allowed (ts.zip dps)

/-- dK or dV gains the products of a column of weights with the rows of a block: `w` holds p or dS, one row for each query. -/
def gainRows (acc : List (List Pair)) (w : List (List Fl)) (cols : List (List Fl)) : List (List Pair) :=
  List.zipWith (fun (row : List Pair) (wc : List Fl) => List.zipWith (fun p x => pairDot p wc x) row cols) acc (columnsOf 128 w)

/-- What a backward block gives: the context after it and the dQ contribution of each query row. -/
def backwardBlock (t : TaskEntry) (mask : List Nat) (j : Nat) (q dO kv : List (Header × Bytes)) (stats : List (Nat × Nat)) (c : AeCtx) :
    AeCtx × List (List Nat) :=
  let d := headDim t
  let n := blockTiles t
  let pi := probFmt q
  let qr := blockRows d q
  let dor := blockRows d dO
  let kr := blockRows d (kv.take n)
  let vr := blockRows d (kv.drop n)
  let g := scoreGroup q
  let grads := (List.range 128).map (fun r =>
    let al := allowedRow t mask j r
    let ts := List.zipWith (scaledScore (scale2Of t)) al (scoreRow g d (qr.getD r []) kr)
    let st := stats.getD r (0, 0)
    gradRow pi (scaleN (scale2Of t)) ts (scoreRow g d (dor.getD r []) vr) al st.1 st.2)
  let ps := grads.map (fun x => x.map (·.1))
  let ds := grads.map (fun x => x.map (·.2))
  let kc := blockColumns d kr
  ({ c with
     isOpen := true
     o := (gainRows (c.o.map (fun r => r.map pairCtx)) ds (blockColumns d qr)).map (fun r => r.map ctxPair)
     o2 := (gainRows (c.o2.map (fun r => r.map pairCtx)) ps (blockColumns d dor)).map (fun r => r.map ctxPair) },
   ds.map (fun row => kc.map (fun col => (pairDot {} row col).fold)))

/-! ## Running a task block by block -/

/-- The code of an attention engine (R617). -/
def aeCode (die : Nat) : Nat := engineCode die 4

/-- Tiles used by an attention engine. -/
def aeTiles (die : Nat) (t : RunTask) (rs : Option (List TileRef)) (s : State) : Option (List (Header × Bytes)) × State :=
  match rs with
  | some rs => seqTiles (aeCode die) (updAe die) t rs s
  | none => (none, s)

/-- Block j is done: the context, and the next block. -/
def stepBlock (die : Nat) (t : TaskEntry) (j : Nat) (c : AeCtx) (s : State) : State :=
  updAe die (fun m => { m with item := j + 1, phase := 2, ctx := SMap.set m.ctx (aeCtxNo t) c {} }) s

/-- Block j is skipped (R292): it changes no state but that the context is the chain's. -/
def skipBlock (die : Nat) (t : TaskEntry) (j : Nat) (s : State) : State :=
  let c := ctxFor s (SMap.get s.ae die {}) t
  updAe die (fun m => { m with item := j + 1, phase := 2, count := satAdd 32 m.count 1, ctx := SMap.set m.ctx (aeCtxNo t) c {} }) s

/-- Forward blocks from j on; the fuel is the number of blocks left. False where the task holds, waits or stops. -/
def forwardBlocks (die : Nat) (i : Image) (t : RunTask) (mask : List Nat) (q : List (Header × Bytes)) : Nat → Nat → State → Bool × State
  | 0, _, s => (true, s)
  | n + 1, j, s =>
    if skipsBlock t.task mask j then forwardBlocks die i t mask q n (j + 1) (skipBlock die t.task j s)
    else match aeTiles die t (kvRefs i t (aeIter t.task j)) s with
      | (some kv, x) =>
        let c := forwardBlock t.task mask j q kv (ctxFor x (SMap.get x.ae die {}) t.task)
        forwardBlocks die i t mask q n (j + 1) (stepBlock die t.task j c x)
      | (none, x) => (false, x)

/-- Tiles written in order; false where one was refused. -/
def writeTiles (die : Nat) (i : Image) (t : RunTask) : List TileRef → List (List Nat) → State → Bool × State
  | r :: rs, xs :: xss, s =>
    match seqWrite (aeCode die) i t r (payloadField t.task 223 208) false xs s with
    | (true, x) => writeTiles die i t rs xss x
    | (false, x) => (false, x)
  | _, _, s => (true, s)

/-- The chain ends: its context is free. -/
def closeCtx (die : Nat) (t : TaskEntry) (s : State) : State :=
  updAe die (fun m => { m with ctx := SMap.set m.ctx (aeCtxNo t) {} {} }) s

/-- The LSE elements of a block set in a statistics tile, the D elements unchanged (R290). -/
def setLse (x : Nat) (lse old : List Nat) : List Nat :=
  splice old (256 * x % 16384)
    ((List.range 128).flatMap (fun r => [lse.getD r 0, old.getD (256 * x % 16384 + 2 * r + 1) 0]))

/-- FINISH of a forward chain: the output and the LSE are written (R293, R290). -/
def finishForward (die : Nat) (i : Image) (t : RunTask) (s : State) : Bool × State :=
  let d := headDim t.task
  let x := aeFix t.task
  match runRefs i t (payloadField t.task 17 15) x (blockTiles t.task), statRef i t x with
  | some outs, some st =>
    match aeTiles die t (some [st]) s with
    | (some [old], s1) =>
      let rows := (ctxRows (ctxFor s1 (SMap.get s1.ae die {}) t.task)).map (finishRow d)
      match writeTiles die i t outs (rowsTiles d (rows.map (·.1))) s1 with
      | (true, s2) =>
        match writeTiles die i t [st] [setLse x (rows.map (·.2)) (tileElems old.2)] s2 with
        | (true, s3) => (true, closeCtx die t.task s3)
        | y => y
      | y => y
    | (_, s1) => (false, s1)
  | _, _ => (false, s)

/-- A task that has no block, or none left, leaves its context to the chain (R285). -/
def keepCtx (die : Nat) (t : TaskEntry) (s : State) : State :=
  let c := ctxFor s (SMap.get s.ae die {}) t
  updAe die (fun m => { m with ctx := SMap.set m.ctx (aeCtxNo t) c {} }) s

/-- The task's end: it is complete. -/
def endAttention (die : Nat) (t : RunTask) (endAt : Nat) (s : State) : State :=
  finishTask (aeCode die) t.task.le t.task.idx endAt (updAe die (SeqUnit.finished t (aeCount t.task) endAt) s)

/-- The blocks are done: FINISH, or the chain goes on. -/
def closeAttention (die : Nat) (t : RunTask) (endAt : Nat) (fin : Bool × State → Bool × State) (r : Bool × State) : State :=
  match r with
  | (false, s) => s
  | (true, s) =>
    if aeFinish t.task then
      match fin (true, keepCtx die t.task s) with
      | (true, x) => endAttention die t endAt x
      | (false, x) => x
    else endAttention die t endAt (keepCtx die t.task s)

/-- The mask tile of a task: the bitmap lies in the first tile of its access (R291). -/
def maskRefs (i : Image) (t : RunTask) : Option (List TileRef) :=
  if t.task.payload.testBit 24 then runRefs i t (payloadField t.task 5 3) 0 1 else some []

/-- The elements of the mask tile. -/
def maskElems (ts : List (Header × Bytes)) : List Nat := (ts.head?).elim [] (fun x => tileElems x.2)

/-- A forward task from the block it has reached. -/
def runForward (die : Nat) (i : Image) (t : RunTask) (endAt : Nat) (s : State) : State :=
  match aeTiles die t (qRefs i t (aeFix t.task)) s with
  | (none, x) => x
  | (some q, x) =>
    match aeTiles die t (maskRefs i t) x with
    | (none, y) => y
    | (some ms, y) =>
      let j := (SMap.get y.ae die {}).item
      closeAttention die t endAt (fun r => finishForward die i t r.2)
        (forwardBlocks die i t (maskElems ms) q (aeCount t.task - j) j y)

/-- FWD (R293): the running attention task streams its key blocks and ends at an offset of the beam. -/
def execFwd (die : Fin 8) (endAt : Nat) (s : State) : Result :=
  .next (
    match seqTask s (SMap.get s.ae die.val {}) with
    | some (i, t) => if mayEnd s endAt && !isBwd t.task then runForward die.val i t endAt s else s
    | none => s)

/-- LSE and D of the rows of the query block at tile offset x. -/
def rowStats (x : Nat) (elems : List Nat) : List (Nat × Nat) :=
  (List.range 128).map (fun r => (elems.getD (256 * x % 16384 + 2 * r) 0, elems.getD (256 * x % 16384 + 2 * r + 1) 0))

/-- The tiles that a backward block reads: Q, dO, dQ and the statistics (Table 8.3). -/
def backwardRefs (i : Image) (t : RunTask) (x : Nat) : Option (List TileRef) :=
  match qRefs i t x, runRefs i t (payloadField t.task 17 15) x (blockTiles t.task),
        runRefs i t (payloadField t.task 11 9) x (blockTiles t.task), statRef i t x with
  | some a, some b, some c, some d => some (a ++ b ++ c ++ [d])
  | _, _, _, _ => none

/-- dQ tiles with a block's contributions added (R296). -/
def addDq (d : Nat) (old : List (Header × Bytes)) (rows : List (List Nat)) : List (List Nat) :=
  List.zipWith (fun o xs => List.zipWith add32 (tileElems o.2) xs) old (rowsTiles d rows)

/-- Backward blocks from i on; the fuel is the number of blocks left. -/
def backwardBlocks (die : Nat) (i : Image) (t : RunTask) (mask : List Nat) (kv : List (Header × Bytes)) : Nat → Nat → State → Bool × State
  | 0, _, s => (true, s)
  | n + 1, j, s =>
    let b := blockTiles t.task
    let x := aeIter t.task j
    if skipsBlock t.task mask j then backwardBlocks die i t mask kv n (j + 1) (skipBlock die t.task j s)
    else match aeTiles die t (backwardRefs i t x) s with
      | (some ts, s1) =>
        let r := backwardBlock t.task mask j (ts.take b) ((ts.drop b).take b) kv
          (rowStats x ((ts.getLast?).elim [] (fun y => tileElems y.2))) (ctxFor s1 (SMap.get s1.ae die {}) t.task)
        match writeTiles die i t ((runRefs i t (payloadField t.task 11 9) x b).getD []) (addDq (headDim t.task) ((ts.drop (2 * b)).take b) r.2) s1 with
        | (true, s2) => backwardBlocks die i t mask kv n (j + 1) (stepBlock die t.task j r.1 s2)
        | y => y
      | (none, s1) => (false, s1)

/-- FINISH of a backward chain: dK and dV are narrowed into the DKV buoy (R296). -/
def finishBackward (die : Nat) (i : Image) (t : RunTask) (s : State) : Bool × State :=
  let d := headDim t.task
  let c := ctxFor s (SMap.get s.ae die {}) t.task
  let rows (x : List (List (W32 × W32))) : List (List Nat) := x.map (fun r => r.map (fun p => (pairCtx p).fold))
  match runRefs i t (payloadField t.task 8 6) (aeFix t.task) (2 * blockTiles t.task) with
  | some outs =>
    match writeTiles die i t outs (rowsTiles d (rows c.o) ++ rowsTiles d (rows c.o2)) s with
    | (true, s1) => (true, closeCtx die t.task s1)
    | y => y
  | none => (false, s)

/-- A backward task from the block it has reached. -/
def runBackward (die : Nat) (i : Image) (t : RunTask) (endAt : Nat) (s : State) : State :=
  match aeTiles die t (kvRefs i t (aeFix t.task)) s with
  | (none, x) => x
  | (some kv, x) =>
    match aeTiles die t (maskRefs i t) x with
    | (none, y) => y
    | (some ms, y) =>
      let j := (SMap.get y.ae die {}).item
      closeAttention die t endAt (fun r => finishBackward die i t r.2)
        (backwardBlocks die i t (maskElems ms) kv (aeCount t.task - j) j y)

/-- BWD (R296): the running attention task recomputes scores block by block and ends at an offset of the beam. -/
def execBwd (die : Fin 8) (endAt : Nat) (s : State) : Result :=
  .next (
    match seqTask s (SMap.get s.ae die.val {}) with
    | some (i, t) => if mayEnd s endAt && isBwd t.task then runBackward die.val i t endAt s else s
    | none => s)

end Sys2Proof.Machine
end

