-- ==== Sys2Proof/Machine/Rates.lean ====
section
/-! DEFINITION. Clip factors, the learning-rate schedule and the layer's constants (R484, R508 to R510). -/
namespace Sys2Proof.Machine

/-- 1.0 as an FP32 encoding. -/
def one32 : Nat := 0x3F800000

/-- 0.5 as an FP32 encoding. -/
def half32 : Nat := 0x3F000000

/-- An FP32 encoding of a zero of either sign. -/
def zero32 (x : Nat) : Bool := x % 2 ^ 31 == 0

/-- An integer converted to FP32 with RNE. -/
def ofNat32 (n : Nat) : Nat := (f32.arith false n 1 0).1

/-- clip_of (R508): the clip factor and n. -/
def clipOf (p : Pair) (tau : Nat) : Nat × Nat :=
  let n := sqrt32 (Pair.fold p)
  let x := f32.decode n
  if zero32 tau then (one32, n)
  else if !x.isFinite || !(Fl.lt (f32.decode tau) x) then (one32, n)
  else (div32 tau n, n)

/-- ⌊π × 2^256⌋. -/
def piFix : Nat := 363771576891766324280234942777729862653393377328392429958772151117938894466185

/-- n further terms of the cosine's series, with 256 fraction bits: t is the last term and k its index. -/
def cosTerms : Nat → Int → Nat → Int → Int → Int
  | 0, _, _, _, acc => acc
  | n + 1, x2, k, t, acc =>
    let t' := Int.tdiv (-(Int.tdiv (t * x2) (2 ^ 256))) (((2 * k + 1) * (2 * k + 2) : Nat) : Int)
    cosTerms n x2 (k + 1) t' (acc + t')

/-- cos x for x of 256 fraction bits, 0 ≤ x ≤ π, with 256 fraction bits. -/
def cosFix (x : Nat) : Int :=
  let x2 : Int := Int.tdiv ((x : Int) * x) (2 ^ 256)
  cosTerms 90 x2 0 (2 ^ 256) (2 ^ 256)

/-- cospi(f), the correctly rounded cos(πf), for an FP32 f of 0 to 1 (R509), by 256-bit arithmetic: beside f = 0, 1/2 and 1 the
cosine of a dyadic part of π is irrational, so no rounding tie arises. -/
def cospi32 (f : Nat) : Nat :=
  match f32.decode f with
  | .fin _ m e =>
    if m = 0 then one32
    else if f = half32 then 0
    else if f = one32 then 0xBF800000
    else
      let v := cosFix (piFix * m * 2 ^ e.toNat / 2 ^ (-e).toNat)
      (f32.sticky (decide (v < 0)) v.natAbs true (-256)).1
  | _ => f32.nanCode

/-- The schedule of the live image; the section holds exactly one (R484). -/
def scheduleOf (x : Exchange) : Schedule :=
  x.schedules.headD { shape := 0, start := 0, peak := 0, min := 0, warmup := 0, decay := 0 }

/-- lr_at (R509). -/
def lrAt (c : Schedule) (a : Nat) : Nat :=
  let start := c.start.toNat
  let peak := c.peak.toNat
  let low := c.min.toNat
  if a < c.warmup then
    add32 start (mul32 (sub32 peak start) (div32 (ofNat32 a) (ofNat32 c.warmup)))
  else
    let x := a - c.warmup
    if c.shape = 0 then peak
    else if c.decay ≤ x then low
    else
      let f := div32 (ofNat32 x) (ofNat32 c.decay)
      if c.shape = 1 then sub32 peak (mul32 (sub32 peak low) f)
      else add32 low (mul32 (mul32 (sub32 peak low) half32) (add32 one32 (cospi32 f)))

/-- A LAYER entry, or what stands for one that is absent (R484). -/
def layerEntry (x : Exchange) (l : Nat) : LayerEntry :=
  (x.layers.find? (fun e => e.layer == l)).getD
    { layer := l, tau := 0, lrMult := BitVec.ofNat 32 one32, wd := 0, clipBeam := 0 }

/-- lr_l (R510), SGET source 3. -/
def layerRate (s : State) (i : Image) (l : Nat) : Nat :=
  mul32 (lrAt (scheduleOf i.exchange) s.rdx.applied) (layerEntry i.exchange l).lrMult.toNat

/-- The clip factor of a layer in this step (R508, R510), SGET source 4. -/
def layerClip (s : State) (i : Image) (l : Nat) : Nat :=
  if i.exchange.clip = 1 then
    if zero32 i.exchange.globalTau.toNat then one32
    else (s.rdx.globalClip.map (fun c => c.clip.toNat)).getD one32
  else if zero32 (layerEntry i.exchange l).tau.toNat then one32
  else ((SMap.get s.rdx.clips l none).map (fun c => c.clip.toNat)).getD one32

/-- WD of a layer, SGET source 5. -/
def layerDecay (i : Image) (l : Nat) : Nat := (layerEntry i.exchange l).wd.toNat

end Sys2Proof.Machine
end

