-- ==== Sys2Proof/Machine/Selectors.lean ====
section
/-! DEFINITION. The registers that latch what they select, and the plain writes that have rows of their own (R167, R380, R410, R480,
R555, R569, R611, R631). -/
namespace Sys2Proof.Machine

/-! ## RDX_CENSUS_SEL (R167) -/

/-- STEP that the history of a buoy's layer and class gives; 0 while it is empty (R158, R167). -/
def historyStep (s : State) (i : Image) (e : BuoyEntry) : Int :=
  match scalingOf i e, elemOf e.format, SMap.get s.num.delta (layerKey e) [] with
  | 2, some el, x :: h => selectStep (x :: h) el (stepHeadroom s)
  | _, _, _ => 0

/-- RDX_CENSUS_INFO of a declared buoy (Table 4.14). -/
def censusInfo (s : State) (i : Image) (e : BuoyEntry) : Nat :=
  let tse :=
    match scalingOf i e, elemOf e.format with
    | 1, some el => selectTse (amaxHistory s.num e.id) (policyOf i e.cls).margin el
    | _, _ => 127
  let step := unsigned 8 (historyStep s i e)
  at_ 32 ((s.num.coveredStep.getD 0) % 2 ^ 32) + at_ 24 tse + at_ 16 step + at_ 2 (b01 s.num.coveredStep.isSome)
    + at_ 1 (b01 (warmupLeft s.num e.id != 0)) + 1

/-- What a write of RDX_CENSUS_SEL latches (R167): zeros for a buoy that the live image does not declare. -/
def censusLatch (s : State) (id : Nat) : CensusLatch :=
  match s.img.live with
  | none => {}
  | some i =>
    match buoyEntry i id with
    | none => {}
    | some e =>
      { info := w64 (censusInfo s i e),
        amax := w64 ((amaxHistory s.num id).headD 0).toNat,
        counts := SMap.get s.num.covered id {} }

/-- The selected buoy's census and scale state are latched (R167). -/
def selectCensus (x : Nat) (s : State) : State :=
  { s with num := { s.num with sel := w64 x, latch := censusLatch s x } }

/-- RDX_CENSUS_SEL (R167). -/
def execRdxCensusSel (p : Port) (v : W64) (s : State) : Result :=
  .next (regWrite p .rdxCensusSel v (fun s => s.num.sel.toNat) selectCensus s)

/-! ## PLE_BUOY_SEL (R380) -/

/-- PLE_BUOY_INFO.STATE. -/
def BuoyPhase.code : BuoyPhase → Nat
  | .free => 0
  | .moored => 1
  | .moving => 2
  | .repairing => 3
  | .lost => 4

/-- PLE_BUOY_INFO of an entry (Table 10.14). -/
def buoyInfo (b : BuoyState) : Nat :=
  at_ 32 b.lastEpoch + at_ 20 (min b.retained.length 15) + at_ 16 (tierOf b.auth.place) + at_ 15 (b01 b.auth.compressed)
    + BuoyPhase.code b.phase

/-- A deep-tier locator (R416). -/
def locator (area c0 num : Nat) : Nat := at_ 56 (area % 4) + at_ 36 (c0 % 16) + num % 2 ^ 36

/-- PLE_BUOY_MOOR of a place (Table 10.15). -/
def moorWord (s : State) : Place → Nat
  | .t0 store first count word =>
    match wordPlace s.nor store first count word with
    | some w => at_ 21 store + w
    | none => at_ 21 store
  | .t1 offset => hallAddress s.glb.moduleNumber.toNat offset
  | .owner m => at_ 45 m
  | .deep n =>
    match deepObj s.deep n with
    | some o => locator o.area o.c0 o.num
    | none => 0

/-- The selected entry is latched (R380): STATE FREE and zeros for a buoy that the live image does not declare. -/
def selectBuoy (x : Nat) (s : State) : State :=
  match liveBuoy s x with
  | some _ =>
    { s with ple := { s.ple with sel := w64 x, info := w64 (buoyInfo (buoyOf s x)), moor := w64 (moorWord s (buoyOf s x).auth.place) } }
  | none => { s with ple := { s.ple with sel := w64 x, info := 0, moor := 0 } }

/-- PLE_BUOY_SEL (R380). -/
def execPleBuoySel (p : Port) (v : W64) (s : State) : Result :=
  .next (regWrite p .pleBuoySel v (fun s => s.ple.sel.toNat) selectBuoy s)

/-! ## LPD_UNIT_SEL (R410) -/

/-- The selected unit's state is latched (R410). -/
def selectUnit (x : Nat) (s : State) : State := { s with lpd := { s.lpd with sel := w64 x, latch := w64 (unitWord s x) } }

/-- LPD_UNIT_SEL (R410). -/
def execLpdUnitSel (p : Port) (v : W64) (s : State) : Result :=
  .next (regWrite p .lpdUnitSel v (fun s => s.lpd.sel.toNat) selectUnit s)

/-! ## FAB_LINK_SEL and FAB_ROUTE_SEL (R480) -/

/-- The selected link's state and errors are latched (R480). -/
def selectLink (x : Nat) (s : State) : State :=
  { s with fab := { s.fab with linkSel := w64 x, linkInfo := w64 (linkInfo (linkOf s x)), linkErr := w64 (linkErr (linkOf s x)) } }

/-- FAB_LINK_SEL (R480); a reserved LINK leaves the selected link as it was (R7). -/
def execFabLinkSel (p : Port) (v : W64) (s : State) : Result :=
  .next (regWrite p .fabLinkSel v (fun s => s.fab.linkSel.toNat) selectLink s)

/-- The selected routing entry is latched (R480). -/
def selectRoute (x : Nat) (s : State) : State :=
  { s with fab := { s.fab with routeSel := w64 x, route := w64 (routeWord s x) } }

/-- FAB_ROUTE_SEL (R480). -/
def execFabRouteSel (p : Port) (v : W64) (s : State) : Result :=
  .next (regWrite p .fabRouteSel v (fun s => s.fab.routeSel.toNat) selectRoute s)

/-! ## GLB_EVENT_SEL (R631) -/

/-- The record with a SEQ is latched from the volatile ring; zeros where the ring does not hold it (R631). -/
def selectEvent (x : Nat) (s : State) : State :=
  { s with ev := { s.ev with sel := w64 x, latched := s.ev.ring.find? (fun r => r.seq.toNat == x) } }

/-- GLB_EVENT_SEL (R631). -/
def execGlbEventSel (p : Port) (v : W64) (s : State) : Result :=
  .next (regWrite p .evSel v (fun s => s.ev.sel.toNat) selectEvent s)

/-! ## Plain writes with rows of their own -/

/-- The aperture moves, and both read buffers empty (R555, Table 16.14). -/
def moveAperture (x : Nat) (s : State) : State :=
  { s with host := { s.host with aperture := w64 x, bufHost := [], bufPartner := [] } }

/-- APT_APERTURE (Table 16.14). -/
def execAptAperture (p : Port) (v : W64) (s : State) : Result :=
  .next (regWrite p .aptAperture v (fun s => s.host.aperture.toNat) moveAperture s)

/-- Host flags are set (W1S, Table 16.16). -/
def setHostFlags (x : Nat) (s : State) : State := { s with host := { s.host with flags := s.host.flags ||| w64 x } }

/-- APT_HOST_FLAGS (R569). -/
def execAptHostFlags (p : Port) (v : W64) (s : State) : Result :=
  .next (regWrite p .aptHostFlags v (fun _ => 0) setHostFlags s)

/-- A signed offset is added to LNT_RTC in one clock (Table 17.19); the tick estimate, which counts elapsed nanoseconds (R59), is
not moved by it (DEDUCED, log 14). -/
def adjustRtc (x : Nat) (s : State) : State :=
  { s with lnt := { s.lnt with rtc := s.lnt.rtc + w64 x, tickRtc := s.lnt.tickRtc + w64 x } }

/-- LNT_RTC_ADJUST (Table 17.19). -/
def execLntRtcAdjust (p : Port) (v : W64) (s : State) : Result :=
  .next (regWrite p .lntRtcAdjust v (fun _ => 0) adjustRtc s)

end Sys2Proof.Machine
end

