-- ==== Sys2Proof/Machine/Graph.lean ====
section
/-! DEFINITION. The domain's graph: distances, routes, tick trees, election, admission and numbering (R49, R52, R472 to R477). -/
namespace Sys2Proof.Machine

/-! ## Distances -/

/-- The neighbours of a module, by serial number, as LINK_STATE has told. -/
def neighbours (g : List LinkState) (serial : Nat) : List Nat :=
  match g.find? (fun x => x.serial == serial) with
  | some x => x.links.map (·.2.1)
  | none => []

/-- The modules of the next level: neighbours of a level that no level holds yet. -/
def nextLevel (nb : Nat → List Nat) (seen level : List Nat) : List Nat :=
  (level.flatMap nb).foldl (fun acc x => if seen.contains x || acc.contains x then acc else acc ++ [x]) []

/-- Distances from a level on: (module, distance), breadth first; the fuel bounds the distance. -/
def levels (nb : Nat → List Nat) : Nat → Nat → List Nat → List Nat → List (Nat × Nat)
  | 0, _, _, _ => []
  | n + 1, d, seen, level =>
    if level.isEmpty then [] else
    level.map (fun x => (x, d)) ++ levels nb n (d + 1) (seen ++ level) (nextLevel nb (seen ++ level) level)

/-- Distances from a module, over the modules that `keep` admits. -/
def distances (g : List LinkState) (keep : Nat → Bool) (src : Nat) : List (Nat × Nat) :=
  levels (fun x => (neighbours g x).filter keep) (g.length + 1) 0 [] [src]

/-- The distance listed for a module. -/
def distanceTo (ds : List (Nat × Nat)) (x : Nat) : Option Nat := (ds.find? (fun e => e.1 == x)).map (·.2)

/-! ## Routes (R477) -/

/-- The first link of a shortest path from this module to a target, and its hops: the lowest link that lies on one. -/
def firstLink (g : List LinkState) (keep : Nat → Bool) (own target : Nat) (links : List (Nat × Nat)) : Option (Nat × Nat) :=
  let ds := distances g keep target
  match distanceTo ds own with
  | none => none
  | some 0 => some (0, 0)
  | some d => ((links.find? (fun l => distanceTo ds l.2 == some (d - 1))).map (fun l => (l.1, d)))

/-- This module's links that are up, with their far ends' serial numbers, lowest link first. -/
def ownLinks (s : State) : List (Nat × Nat) := (upLinks s).map (fun l => (l, (linkOf s l).peerSerial))

/-- This module's LINK_STATE (Table 13.8), with one link reported down. -/
def ownLinkState (s : State) (without : Option Nat) : LinkState :=
  { serial := s.nor.serial,
    number := if s.glb.moduleValid then some s.glb.moduleNumber.toNat else none,
    prio := s.beam.prio.toNat % 256,
    location := if s.fab.location.getLsbD 16 then some (s.fab.location.toNat % 8192) else none,
    links := ((upLinks s).filter (fun l => some l != without)).map (fun l => (l, (linkOf s l).peerSerial, (linkOf s l).peerLink)) }

/-- The graph: what the others told, and this module's own links. -/
def domainGraph (s : State) : List LinkState := ownLinkState s none :: s.fab.graph.filter (fun x => x.serial != s.nor.serial)

/-- The members' serial numbers. -/
def memberSerials (s : State) : List Nat := s.fab.members.map (·.serial)

/-- The routing table over the members of the domain (R477). -/
def computeRoutes (s : State) : SMap (Nat × Nat) :=
  let g := domainGraph s
  let keep := fun x => (memberSerials s).contains x
  s.fab.members.foldl (fun m x =>
    match firstLink g keep s.nor.serial x.serial (ownLinks s) with
    | some r => SMap.insert m x.number r
    | none => m) []

/-- The link of the tick tree rooted at a module number (R49, R477); none at the root. -/
def treeLinkTo (s : State) (root : Nat) : Option Nat :=
  match routeTo s root with
  | some (l, h) => if h = 0 then none else some l
  | none => none

/-- Routes and tick trees are computed anew (R476). -/
def recomputeRoutes (s : State) : State :=
  let t : State := { s with fab := { s.fab with routes := computeRoutes s } }
  { t with beam := { t.beam with treeLink := treeLinkTo t t.beam.master, standbyLink := treeLinkTo t t.beam.standby, altLink := none } }

/-- The first link of a shortest path over member links to a member of the group (R469). -/
def groupLink (s : State) (m : Nat) : Option Nat :=
  match s.fab.members.find? (fun x => x.number == m) with
  | none => none
  | some x =>
    let group := (s.fab.members.filter (fun y => (groupOf s).contains y.number)).map (·.serial)
    ((firstLink (domainGraph s) (fun y => group.contains y) s.nor.serial x.serial
      ((ownLinks s).filter (fun l => isMember s l.1))).bind (fun r => if r.2 = 0 then none else some r.1))

/-! ## Election (R52) -/

/-- A candidate precedes another: lower PRIO, then lower serial number. -/
def electBefore (a b : Member) : Bool := decide (a.prio < b.prio) || (a.prio == b.prio && decide (a.serial < b.serial))

/-- The elected of some candidates: never one whose PRIO is 0xFF. -/
def elect (ms : List Member) : Option Member :=
  ms.foldl (fun best m =>
    if m.prio = 0xFF then best
    else match best with
      | none => some m
      | some b => if electBefore m b then some m else some b) none

/-! ## Admission and numbering (R472 to R474) -/

/-- The modules that a module reaches, in ascending distance, then ascending serial number. -/
def reached (g : List LinkState) (src : Nat) : List Nat :=
  let ds := distances g (fun _ => true) src
  (sortBy (fun a b => decide (a.2 < b.2) || (a.2 == b.2 && decide (a.1 ≤ b.1))) ds).map (·.1)

/-- A set of modules has a diameter of at most 15 hops. -/
def diameterOk (g : List LinkState) (ms : List Nat) : Bool :=
  ms.all (fun a =>
    let ds := distances g (fun x => ms.contains x) a
    ms.all (fun b => match distanceTo ds b with
      | some d => decide (d ≤ 15)
      | none => false))

/-- Modules admitted in order, and those refused. -/
def takeIn (g : List LinkState) : List Nat → List Nat → List Nat → List Nat × List Nat
  | [], yes, no => (yes, no)
  | x :: r, yes, no => if diameterOk g (yes ++ [x]) then takeIn g r (yes ++ [x]) no else takeIn g r yes (no ++ [x])

/-- What LINK_STATE told of a module. -/
def stateOf (g : List LinkState) (serial : Nat) : Option LinkState := g.find? (fun x => x.serial == serial)

/-- The configured number of a module (FAB_LOCATION), where no other admitted module holds it (R474). -/
def configuredNumber (g : List LinkState) (ms : List Nat) (serial : Nat) : Option Nat :=
  match (stateOf g serial).bind (·.location) with
  | none => none
  | some n => if (ms.filter (fun x => ((stateOf g x).bind (·.location)) == some n)).length = 1 then some n else none

/-- The lowest number not taken; the fuel bounds the search. -/
def lowestFree (taken : List Nat) : Nat → Nat → Nat
  | 0, n => n
  | k + 1, n => if taken.contains n then lowestFree taken k (n + 1) else n

/-- Numbers for the modules that have none configured, in ascending serial order. -/
def numberRest (taken : List Nat) : List Nat → List (Nat × Nat)
  | [] => []
  | x :: r =>
    let n := lowestFree taken 8192 0
    (x, n) :: numberRest (n :: taken) r

/-- The numbers of the admitted modules (R474). -/
def assignNumbers (g : List LinkState) (ms : List Nat) : List (Nat × Nat) :=
  let fixed := ms.filterMap (fun x => (configuredNumber g ms x).map (fun n => (x, n)))
  let rest := sortBy (fun a b => decide (a ≤ b)) (ms.filter (fun x => (configuredNumber g ms x).isNone))
  fixed ++ numberRest (fixed.map (·.2)) rest

/-- The members of a domain in the making. -/
def makeMembers (g : List LinkState) (ms : List Nat) : List Member :=
  (assignNumbers g ms).map (fun x => ⟨x.1, x.2, ((stateOf g x.1).map (·.prio)).getD 0xFF⟩)

/-- The candidates of an election among the modules of a list. -/
def candidates (g : List LinkState) (ms : List Nat) : List Member :=
  ms.map (fun x => ⟨x, 0, ((stateOf g x).map (·.prio)).getD 0xFF⟩)

end Sys2Proof.Machine
end

