-- ==== Sys2Proof/Machine/Ticks.lean ====
section
/-! DEFINITION. The base tick: emission, acceptance, comparison, holdover and takeover (R47 to R60, R435). -/
namespace Sys2Proof.Machine

/-- Clocks of a base tick (R47). -/
def tickClocks : Nat := 75000

/-- The count is n from a base tick on: the offset counts from the beam tick at or before it, and a beam whose tick has come is not
taken until BEAM_TICK takes it (R62, Table 2.10). -/
def setCount (n : Nat) (s : State) : State :=
  let per := beamTicks (jobRws s)
  { s with beam := { s.beam with
      count := w64 n, sinceTick := 0, offset := n % per * tickClocks,
      atTick := s.beam.atTick && s.beam.count.toNat / per == n / per } }

/-- A base tick of count n is at hand: the clocks up to it have passed, and it is no beam tick taken yet. -/
def arriveTick (n : Nat) (s : State) : State :=
  let d := n - s.beam.count.toNat
  let t := passClocks (d * tickClocks - s.beam.sinceTick) s
  setCount n { t with beam := { t.beam with arrivals := [] } }

/-- The tick is relayed on the given links (R47). -/
def relayTick (n : Nat) (ls : List Nat) (s : State) : State := updLinks ls (fun k => { k with tick := some n }) s

/-- Lantern counts on from an accepted tick (R59). -/
def noteTick (n : Nat) (s : State) : State := { s with lnt := { s.lnt with tickEst := w64 n, tickRtc := s.lnt.rtc } }

/-- TICK_EMIT (R47): the time master's clock counts a base tick. -/
def execTickEmit (s : State) : Result :=
  .next (
    if s.beam.role = .master && s.beam.countValid then
      let n := s.beam.count.toNat + 1
      noteTick n (relayTick n (upLinks s) (arriveTick n s))
    else s)

/-! ## Accepting a tick (R49, R50, R57, R435) -/

/-- The arrival of a tick less the link's delay, in picoseconds from the tick that the module's clock predicts, or from the tick it has
accepted: `ps` is the start of the receiving group (R49, R435). -/
def compensated (k : Link) (late : Nat) (ps : Int) : Int := ps - late - (k.delay * 2000 / 3 : Nat)

/-- The tick count of a TICK block: its upper 16 bits are those the module holds (R435). -/
def fullCount (s : State) (count : Nat) : Nat := s.beam.count.toNat / 2 ^ 48 * 2 ^ 48 + count % 2 ^ 48

/-- The link on which the module takes its ticks: its tree link, or another while that misses them (R49, R55). -/
def tickLink (b : Beam) : Option Nat := b.altLink.orElse (fun _ => b.treeLink)

/-- An arrival on another link disagrees with the accepted tick by more than 10 ns (R50). -/
def compareArrival (own : Int) (a : Nat × Int) (s : State) : State :=
  let d := (a.2 - own).natAbs
  if 10000 < d then record 0x4203 (detail [(1, a.1), (4, d)]) s else s

/-- The tick of count n is accepted on a link: holdover ends, earlier arrivals are compared, the tick goes on (R47, R50, R57). -/
def acceptTick (link n : Nat) (own : Int) (s : State) : State :=
  let seen := s.beam.arrivals.filter (fun a => a.1 != link)
  let t := arriveTick n s
  let u : State := { t with beam := { t.beam with holdover := false, holdTicks := 0, missed := 0 } }
  let v := seen.foldl (fun s a => compareArrival own a s) u
  noteTick n (relayTick n ((upLinks v).filter (· != link)) v)

/-- The count that a module adopts as it joins a domain; event 0x0202 carries its difference from Lantern's estimate (R59). -/
def adoptCount (n : Nat) (s : State) : State :=
  let est := tickEstimate s.lnt
  let t : State := setCount n { s with beam := { s.beam with countValid := true, holdover := false, holdTicks := 0, missed := 0 } }
  let u := if est = n then t else record 0x0202 (detail [(8, unsigned 64 ((n : Int) - est))]) t
  noteTick n u

/-- A tick within the window of R57. -/
def inWindow (d : Int) : Bool := decide (d.natAbs ≤ 100000)

/-- A TICK block on a link that is up. -/
def receiveTick (link n : Nat) (d : Int) (s : State) : State :=
  if s.beam.role = .master then s
  else if !s.beam.countValid then
    if tickLink s.beam = some link && s.glb.moduleValid then relayTick n ((upLinks s).filter (· != link)) (adoptCount n s) else s
  else if !inWindow d then s
  else if tickLink s.beam = some link then
    if s.beam.count.toNat < n then acceptTick link n d s
    else if s.beam.count.toNat = n && s.beam.holdover then
      { s with beam := { s.beam with holdover := false, holdTicks := 0, missed := 0 } }
    else s
  else if s.beam.count.toNat + 1 = n then
    { s with beam := { s.beam with arrivals := s.beam.arrivals ++ [(link, d)] } }
  else if s.beam.count.toNat = n && !s.beam.holdover then compareArrival 0 (link, d) s
  else s

/-- TICK (R435). -/
def execTick (link : Fin 48) (late count : Nat) (ps : Int) (s : State) : Result :=
  .next (
    if (linkOf s link.val).state = 2 then
      receiveTick link.val (fullCount s count) (compensated (linkOf s link.val) late ps) s
    else s)

/-! ## Missing ticks (R54 to R58) -/

/-- The lowest-numbered link on which the expected tick has arrived. -/
def lowestArrival (b : Beam) : Option (Nat × Int) :=
  b.arrivals.foldl (fun best a =>
    match best with
    | none => some a
    | some x => if a.1 < x.1 then some a else some x) none

/-- The tick is taken from another link: event 0x4206, and LINK_STATE with the tree link down (R55). -/
def takeFrom (a : Nat × Int) (s : State) : State :=
  let n := s.beam.count.toNat + 1
  let t := acceptTick a.1 n a.2 { s with beam := { s.beam with altLink := some a.1 } }
  let u := record 0x4206 (detail [(1, a.1)]) t
  flood 2 (.linkState (ownLinkState u u.beam.treeLink)) u

/-- The module's own clock generates the tick; on entry into holdover event 0x4204 is recorded (R57). -/
def holdTick (s : State) : State :=
  let t := arriveTick (s.beam.count.toNat + 1) s
  let u : State := { t with beam := { t.beam with holdover := true, holdTicks := t.beam.holdTicks + 1, missed := t.beam.missed + 1 } }
  if s.beam.holdover then u else record 0x4204 [] u

/-- TICK_WINDOW_EXPIRY (R55, R57). -/
def execTickWindowExpiry (s : State) : Result :=
  .next (
    if s.beam.role = .master || !s.beam.countValid then s
    else match lowestArrival s.beam with
      | some a => takeFrom a s
      | none => holdTick s)

/-- The next domain beam tick after a count (R475). -/
def nextDomainTick (n : Nat) : Nat := (n / 80 + 1) * 80

/-- The standby becomes time master; the membership change that names a new standby is due at the next domain beam tick (R54). -/
def takeOver (s : State) : State :=
  let c : Change := { tick := nextDomainTick s.beam.count.toNat, joining := [], leaving := [s.beam.master] }
  flood 2 (.membership c)
    { s with
      beam := { s.beam with role := .master, master := s.glb.moduleNumber.toNat, holdover := false, holdTicks := 0, missed := 0,
                            treeLink := none, altLink := none }
      fab := { s.fab with change := some c } }

/-- STANDBY_TAKEOVER (R54). -/
def execStandbyTakeover (s : State) : Result :=
  .next (if s.beam.role = .standby && decide (2 ≤ s.beam.missed) && s.glb.moduleValid then takeOver s else s)

/-- Holdover reaches 8 ms, 160 base ticks: the fault is raised once, as the limit is reached (R58). -/
def holdoverOver (s : State) : State :=
  if inJob s then (if s.beam.holdTicks = 160 then raiseFault 0x8202 [] s else s)
  else { s with beam := { s.beam with countValid := false }, fab := { s.fab with discovery := 0 } }

/-- HOLDOVER_LIMIT (R58). -/
def execHoldoverLimit (s : State) : Result :=
  .next (if s.beam.holdover && decide (160 ≤ s.beam.holdTicks) then holdoverOver s else s)

end Sys2Proof.Machine
end

