-- ==== Sys2Proof/Machine/Domain.lean ====
section
/-! DEFINITION. Discovery, membership and the messages that keep them (R472 to R478, R59, R60). -/
namespace Sys2Proof.Machine

/-! ## The domain formed (R472, R474) -/

/-- The role that the master's and standby's serial numbers give this module (Table 2.5). -/
def roleOf (own master standby : Nat) : Role := if own = master then .master else if own = standby then .standby else .follower

/-- The member with a serial number. -/
def memberOf (ms : List Member) (serial : Nat) : Option Member := ms.find? (fun m => m.serial == serial)

/-- The number of the member with a serial number; 0 where there is none. -/
def numberOf (ms : List Member) (serial : Nat) : Nat := ((memberOf ms serial).map (·.number)).getD 0

/-- The master and the standby of some members: the first elected, and the first of the rest (R52). -/
def electTwo (ms : List Member) : Option Member × Option Member :=
  let m := elect ms
  (m, elect (ms.filter (fun x => some x != m)))

/-- Two admitted modules hold this module's configured number (R474). -/
def numberClash (s : State) (ms : List Member) : Option Nat :=
  if s.fab.location.getLsbD 16 then
    let n := s.fab.location.toNat % 8192
    if (domainGraph s).any (fun x => x.serial != s.nor.serial && x.location == some n && (memberOf ms x.serial).isSome) then some n else none
  else none

/-- The module takes its place in a domain: its number, its role, the members, the routes (R27, R472, R474). -/
def joinDomain (domain : W64) (ms : List Member) (master standby : Nat) (s : State) : State :=
  recomputeRoutes { s with
    glb := { s.glb with moduleNumber := BitVec.ofNat 13 (numberOf ms s.nor.serial), moduleValid := true }
    beam := { s.beam with
      master := numberOf ms master, standby := numberOf ms standby,
      role := roleOf s.nor.serial master standby }
    fab := { s.fab with discovery := 2, domain := domain, members := ms, reserved := [], change := none, joinReqs := [], leaveReqs := [] } }

/-- Discovery is complete on this module: event 0x0D00, and 0x4D01 where its configured number was held twice. -/
def discoveryDone (s : State) : State :=
  let t := match numberClash s s.fab.members with
    | some n => record 0x4D01 (detail [(2, n)]) s
    | none => s
  record 0x0D00 (detail [(2, t.fab.members.length), (2, t.beam.master), (2, t.beam.standby)]) t

/-- The serial numbers of the elected master and standby among some members. -/
def electedSerials (ms : List Member) : Nat × Nat :=
  (((electTwo ms).1.map (·.serial)).getD 0, ((electTwo ms).2.map (·.serial)).getD 0)

/-- The domain identifier (Table 13.13). -/
def domainId (master count : Nat) : W64 := w64 (at_ 32 (master % 2 ^ 32) + count % 2 ^ 32)

/-- The starting tick count of a domain: Lantern's estimate or the last accepted count plus elapsed time, whichever is larger (R60). -/
def startingCount (s : State) : Nat := max (tickEstimate s.lnt) s.beam.count.toNat

/-- The master forms the domain: modules refused, numbers, ASSIGN (R472 steps 4 and 5). -/
def formDomain (yes no : List Nat) (s : State) : State :=
  let ms := makeMembers (domainGraph s) yes
  let e := electedSerials ms
  let n := startingCount s
  let id := domainId s.nor.serial n
  let t := no.foldl (fun s x => record 0x4D03 (detail [(8, x)]) s) s
  let u := joinDomain id ms e.1 e.2 (adoptCount n t)
  discoveryDone (flood 2 (.assign ⟨id, ms, w64 n⟩) u)

/-- Too few modules: no domain forms (R473). -/
def tooFew (s : State) : State :=
  record 0x4D02 [] { s with fab := { s.fab with discovery := 3 }, glb := { s.glb with moduleValid := false } }

/-- Step 1 of R472: HELLO on every link that is up or training. -/
def sendHello (s : State) : State :=
  (upLinks s).foldl (fun s l =>
    let h : Hello := { serial := s.nor.serial, number := if s.glb.moduleValid then some s.glb.moduleNumber.toNat else none,
                       location := s.fab.location, prio := s.beam.prio.toNat % 256, domain := s.fab.domain, link := l }
    sendFlit l (messageFlit ⟨ownHeader 0 0 s, .hello h⟩) (countMessage s)) s

/-- Steps 3 to 5 of R472 on the graph as it is known: the elected module admits and numbers; every other waits for ASSIGN. -/
def electAndAdmit (s : State) : State :=
  let g := domainGraph s
  match elect (candidates g (reached g s.nor.serial)) with
  | none => tooFew s
  | some m =>
    let a := takeIn g (reached g m.serial) [] []
    if a.1.length < 16 then tooFew s
    else if m.serial = s.nor.serial then formDomain a.1 a.2 s
    else s

/-- Discovery (R472). -/
def discover (s : State) : State :=
  let t := sendHello { s with fab := { s.fab with discovery := 1 } }
  electAndAdmit (flood 2 (.linkState (ownLinkState t none)) t)

/-- Discovery may run: at boot stage 0x07, or with no valid domain after the boot (R472). -/
def mayDiscover (s : State) : Bool :=
  match s.glb.state with
  | .off => false
  | .lantern => s.lnt.power && s.glb.bootStage == 7 && s.fab.discovery != 2
  | _ => s.glb.bootStage == 0 && (s.fab.discovery != 2)

/-- DISCOVERY (R472). -/
def execDiscovery (s : State) : Result := .next (if mayDiscover s then discover s else s)

/-- DISCOVERY_RETRY (R473): every 10 s after too few modules. -/
def execDiscoveryRetry (s : State) : Result := .next (if mayDiscover s && s.fab.discovery == 3 then discover s else s)

/-! ## Membership (R475, R476) -/

/-- The number that a joining module takes: its reserved one, or the lowest free (R474). -/
def joinNumber (f : Fab) (serial : Nat) (taken : List Nat) : Nat :=
  match f.reserved.find? (fun r => r.1 == serial) with
  | some r => r.2
  | none => lowestFree (taken ++ f.reserved.map (·.2)) 8192 0

/-- Numbers for the modules that join. -/
def numberJoiners (f : Fab) : List Nat → List Member → List Member
  | _, [] => []
  | taken, m :: r =>
    let n := joinNumber f m.serial taken
    { m with number := n } :: numberJoiners f (n :: taken) r

/-- The master announces the requests it holds as one change, unless one is pending (R475). -/
def scheduleChange (s : State) : State :=
  if s.beam.role != .master || s.fab.change.isSome || (s.fab.joinReqs.isEmpty && s.fab.leaveReqs.isEmpty) then s
  else
    let c : Change := { tick := nextDomainTick (s.beam.count.toNat + 1600 - 1),
                        joining := numberJoiners s.fab (s.fab.members.map (·.number)) s.fab.joinReqs, leaving := s.fab.leaveReqs }
    flood 2 (.membership c) { s with fab := { s.fab with change := some c, joinReqs := [], leaveReqs := [] } }

/-- The members after a change; those that leave keep their numbers reserved (R474). -/
def applyChange (c : Change) (f : Fab) : Fab :=
  let stay := f.members.filter (fun m => !c.leaving.contains m.number)
  let gone := f.members.filter (fun m => c.leaving.contains m.number)
  { f with
    members := stay ++ c.joining.filter (fun m => !stay.any (fun x => x.serial == m.serial)),
    reserved := f.reserved.filter (fun r => !c.joining.any (fun m => m.serial == r.1)) ++ gone.map (fun m => (m.serial, m.number)),
    change := none }

/-- The master and the standby after a change: who holds the place keeps it, the standby follows a master that left, and a new standby is
elected from the rest (R54, R476). -/
def newMasters (b : Beam) (ms : List Member) : Nat × Nat :=
  let isMem (n : Nat) : Bool := ms.any (fun m => m.number == n)
  let master := if isMem b.master then b.master else b.standby
  let standby :=
    if isMem b.standby && b.standby != master then b.standby
    else ((elect (ms.filter (fun m => m.number != master))).map (·.number)).getD 0
  (master, standby)

/-- The role of a module number. -/
def roleFor (own master standby : Nat) : Role := if own = master then .master else if own = standby then .standby else .follower

/-- The new time master or standby is taken, with event 0x0200 where one changed (R54). -/
def takeMasters (p : Nat × Nat) (s : State) : State :=
  let t : State := { s with beam := { s.beam with
    master := p.1, standby := p.2, role := roleFor s.glb.moduleNumber.toNat p.1 p.2 } }
  if p.1 = s.beam.master && p.2 = s.beam.standby then t else record 0x0200 (detail [(2, p.1), (2, p.2)]) t

/-- This module leaves the domain. -/
def leaveDomain (s : State) : State :=
  { s with
    glb := { s.glb with moduleValid := false }
    beam := { s.beam with role := .follower, treeLink := none, standbyLink := none, altLink := none }
    fab := { s.fab with members := [], change := none, routes := [] } }

/-- This module's own part in a change: it leaves, or takes the number it joins with. -/
def applyOwn (c : Change) (s : State) : State :=
  if s.glb.moduleValid && c.leaving.contains s.glb.moduleNumber.toNat then leaveDomain s
  else match c.joining.find? (fun m => m.serial == s.nor.serial) with
    | some m => { s with glb := { s.glb with moduleNumber := BitVec.ofNat 13 m.number, moduleValid := true }, fab := { s.fab with discovery := 2 } }
    | none => s

/-- The change takes effect: members, masters, routes and tick trees, event 0x0D01 (R476). -/
def applyMembership (c : Change) (s : State) : State :=
  let f := applyChange c s.fab
  let p := newMasters s.beam f.members
  let t := applyOwn c { s with fab := f }
  let u := if t.glb.moduleValid then recomputeRoutes (takeMasters p t)
    else { t with beam := { t.beam with master := p.1, standby := p.2 } }
  scheduleChange (record 0x0D01 (detail ((8, c.tick) :: (c.joining.map (fun m => (2, m.number)) ++ c.leaving.map (fun n => (2, n))))) u)

/-- MEMBERSHIP_APPLY (R476): at the change's effective tick. -/
def execMembershipApply (s : State) : Result :=
  .next (match s.fab.change with
    | some c => if s.beam.count.toNat = c.tick then applyMembership c s else s
    | none => s)

/-! ## Flit messages received (R464, R472, R475) -/

/-- A message is taken by this module where it concerns it, and goes on (R464). -/
def takeMessage (link : Nat) (m : Message) (act : State → State) (s : State) : State :=
  if messageForUs m.hdr s then act (forwardMessage link m s) else forwardMessage link m s

/-- What HELLO tells of a link's far end. -/
def noteHello (m : Hello) (k : Link) : Link :=
  { k with peerSerial := m.serial, peerLink := m.link, peerDomain := m.domain.toNat,
           peerValid := m.number.isSome, peerModule := m.number.getD 0 }

/-- HELLO (R472). -/
def execHello (link : Fin 48) (h : MsgHeader) (m : Hello) (s : State) : Result :=
  .next (takeMessage link.val ⟨h, .hello m⟩ (updLink link.val (noteHello m)) s)

/-- The members that the master no longer reaches over the graph: they have failed (R476). -/
def lostMembers (s : State) : List Nat :=
  let ds := distances (domainGraph s) (fun x => (memberSerials s).contains x) s.nor.serial
  (s.fab.members.filter (fun m => (distanceTo ds m.serial).isNone)).map (·.number)

/-- The master schedules the leaving of members it has lost. -/
def dropLost (s : State) : State :=
  if s.beam.role = .master && s.fab.discovery == 2 then
    let pending := s.fab.leaveReqs ++ (s.fab.change.map (·.leaving)).getD []
    let new := (lostMembers s).filter (fun n => !pending.contains n)
    scheduleChange { s with fab := { s.fab with leaveReqs := s.fab.leaveReqs ++ new } }
  else s

/-- LINK_STATE replaces what the graph held of its origin. -/
def noteLinkState (m : LinkState) (s : State) : State :=
  { s with fab := { s.fab with graph := s.fab.graph.filter (fun x => x.serial != m.serial) ++ [m] } }

/-- LINK_STATE (R472). -/
def execLinkState (link : Fin 48) (h : MsgHeader) (m : LinkState) (s : State) : Result :=
  .next (takeMessage link.val ⟨h, .linkState m⟩ (fun s => dropLost (noteLinkState m s)) s)

/-- ASSIGN at a module that it numbers: discovery completes, and the starting count is adopted (R59, R472). -/
def takeAssign (m : Assign) (s : State) : State :=
  if (memberOf m.members s.nor.serial).isSome && s.fab.discovery != 2 then
    let e := electedSerials m.members
    discoveryDone (joinDomain m.domain m.members e.1 e.2 (adoptCount m.count.toNat s))
  else s

/-- ASSIGN (R472). -/
def execAssign (link : Fin 48) (h : MsgHeader) (m : Assign) (s : State) : Result :=
  .next (takeMessage link.val ⟨h, .assign m⟩ (takeAssign m) s)

/-- A change received in time waits for its tick; after it, the module leaves the domain and starts discovery again (R475). -/
def takeMembership (c : Change) (s : State) : State :=
  if s.beam.count.toNat < c.tick || !s.beam.countValid then { s with fab := { s.fab with change := some c } }
  else discover (leaveDomain s)

/-- MEMBERSHIP (R475). -/
def execMembership (link : Fin 48) (h : MsgHeader) (m : Change) (s : State) : Result :=
  .next (takeMessage link.val ⟨h, .membership m⟩ (takeMembership m) s)

/-- A request to join at the time master (R475, R476). -/
def takeJoin (m : Member) (s : State) : State :=
  if s.beam.role = .master then scheduleChange { s with fab := { s.fab with joinReqs := s.fab.joinReqs ++ [m] } } else s

/-- JOIN (R476). -/
def execJoin (link : Fin 48) (h : MsgHeader) (m : Member) (s : State) : Result :=
  .next (takeMessage link.val ⟨h, .join m⟩ (takeJoin m) s)

/-- A request to leave at the time master (R475, R476). -/
def takeLeave (number : Nat) (s : State) : State :=
  if s.beam.role = .master then scheduleChange { s with fab := { s.fab with leaveReqs := s.fab.leaveReqs ++ [number] } } else s

/-- LEAVE (R476). -/
def execLeave (link : Fin 48) (h : MsgHeader) (number : Nat) (s : State) : Result :=
  .next (takeMessage link.val ⟨h, .leave number⟩ (takeLeave number) s)

/-- This module asks the time master to join again (R590): by a route where it has one, else on the first link that is up;
the master takes its own. -/
def sendJoin (s : State) : State :=
  let m : Member := ⟨s.nor.serial, s.glb.moduleNumber.toNat, s.beam.prio.toNat % 256⟩
  let h := ownHeader 1 s.beam.master s
  if s.beam.role = .master then takeJoin m s
  else match (treeLinkTo s s.beam.master).orElse (fun _ => (upLinks s).head?) with
    | some l => sendFlit l (messageFlit ⟨h, .join m⟩) (countMessage s)
    | none => s

/-! ## HOST_LOST (R588) -/

/-- The module sends LEAVE to the time master; the master takes its own as it takes another's (R475, R476). -/
def sendLeave (s : State) : State :=
  if !s.glb.moduleValid then s
  else if s.beam.role = .master then takeLeave s.glb.moduleNumber.toNat s
  else sendRouted s.beam.master (.leave s.glb.moduleNumber.toNat) s

/-- Root ports disabled, both aperture read buffers emptied (R588 steps 3 and 4). -/
def dropHostSide (s : State) : State :=
  { s with host := { s.host with bufHost := [], bufPartner := [], port0 := PortLink.down s.host.port0, port1 := PortLink.down s.host.port1 } }

/-- The module enters HOST_LOST: the steps of R588 in their order; back-invalidates hold no state of their own here; a checkpoint in writing
is abandoned (R541). -/
def enterHostLost (s : State) : State :=
  let t := sendLeave (dropHostSide (stopCopies (setState .hostLost s)))
  let u := flushBuffers (abandonMoves (discardArmed (abandonTasks (leaveJob t))))
  { u with
    lpd := { u.lpd with selfRefresh := true }
    orbit := { u.orbit with ckptWriting := false, writing := none } }

/-- HOST_LOST arises (R37, R588): event 0x5000; from ARMED or RUNNING the job group halts first, and the state changes at the halt
tick. -/
def loseHost (cause : Nat) (s : State) : State :=
  let t := record 0x5000 (detail [(1, cause)]) { s with host := { s.host with lostCause := cause } }
  if inJob t then raiseHalt { t with glb := { t.glb with hostLostAtHalt := some cause } }
  else enterHostLost t

end Sys2Proof.Machine
end

