-- ==== Sys2Proof/Machine/Power.lean ====
section
/-! DEFINITION. Power, the comparators of Lantern, ZEROIZE and the alarms of the physical environment (chapters 17 and 20). -/
namespace Sys2Proof.Machine

/-! ## ZEROIZE (R613, R614) -/

/-- Four fresh media keys (R614 step 6). -/
def freshKeys (n : Nat) : SMap Nat := (List.range 4).map (fun i => (i, (Config.fresh (n + 1 + i)).toNat))

/-- The vault seed and the media keys are destroyed, every deep-tier area is crypto-erased, and new ones are generated (R614 steps 3
and 6, R426). -/
def replaceKeys (s : State) : State :=
  { s with
    nor := { s.nor with vaultSeed := some (Config.fresh s.freeCount).toNat, mediaKeys := freshKeys s.freeCount }
    deep := { s.deep with objects := [], erasing := some 0xF#4 }
    kpr := { s.kpr with nonce := [], xfer := {} }
    freeCount := s.freeCount + 5 }

/-- A sequence ends: it is counted, PENDING clears, event 0x1102 carries the alarm that caused it (R614 steps 7 and 8). -/
def countZeroize (s : State) : State :=
  record 0x1102 (detail [(2, s.lnt.zeroizeAlarm)])
    { s with
      lnt := { s.lnt with zeroizeCount := s.lnt.zeroizeCount + 1, zeroizePending := false }
      kpr := { s.kpr with zeroizeBusy := false } }

/-- Steps 3 to 8 of ZEROIZE (R614). -/
def destroyAll (s : State) : State := countZeroize (zeroT1 (clearStores (replaceKeys s)))

/-- A module reset that leaves RECOVERY: the module is then in LANTERN at boot stage 0x01, as GLB_STATE's reset value says, and event
0x0100 carries the change (R34, R39; DEDUCED, log 6). -/
def resetFrom (old : ModState) (s : State) : State :=
  record 0x0100 (detail [(1, ModState.code old), (1, ModState.code .lantern)]) (moduleReset s)

/-- The module is in RECOVERY for a cause; it enters it unless it is there. -/
def ensureRecovery (c : RecoveryCause) (s : State) : State :=
  if s.glb.state = .recovery then { s with glb := { s.glb with recovery := c } } else enterRecoveryFor c s

/-- ZEROIZE outside ARMED and RUNNING: RECOVERY, the destruction, and a module reset (R614). In LANTERN, which Table 1.8 does not let
leave for RECOVERY so, the boot starts again at once (DEDUCED, log 7). -/
def runZeroize (s : State) : State :=
  if s.glb.state = .lantern then moduleReset (destroyAll s)
  else resetFrom .recovery (destroyAll (ensureRecovery .zeroize s))

/-- ZEROIZE (R614): asked for by an alarm, it waits for the halt tick where the module is ARMED or RUNNING. -/
def execZeroize (s : State) : Result :=
  .next (if s.kpr.zeroizeBusy && !inJob s then runZeroize s else s)

/-! ## Loss of 56 V (R34, R35, R644, R645) -/

/-- A link loses its lock: what it had to send or to retry is dropped, its counts stay (R439). -/
def Link.lost (k : Link) : Link :=
  { k with state := if k.state = 4 then 4 else 0, peerValid := false, badGroups := 0, sendSeq := 0, expectSeq := 0, nakSent := false,
           replay := [], waiting := [], ackOwed := false, nakOwed := false, prevAck := false, halts := [], tick := none, msgs := [],
           frags := [], echoes := [] }

/-- The host and partner sites and every Soern link lose their power. -/
def unplug (s : State) : State :=
  { s with
    host := { s.host with hostUp := false, partnerUp := false, port0 := PortLink.down s.host.port0, port1 := PortLink.down s.host.port1 }
    fab := { s.fab with links := SMap.mapAll s.fab.links {} Link.lost } }

/-- The module is in LANTERN with no boot under way. -/
def toLantern (s : State) : State :=
  let t := if s.glb.state = .lantern then s else setState .lantern s
  { t with glb := { t.glb with bootStage := 1, capValid := false } }

/-- The module is in OFF where 56 V is absent and no cell above its cut-off is fitted (Table 1.8). -/
def offWithoutCell (s : State) : State :=
  if !s.lnt.power && !s.lnt.cellFitted && s.glb.state == .lantern then setState .off s else s

/-- 56 V is out of its range: engines gated, the dies reset, T1 lost, the module in LANTERN; a ZEROIZE under way waits for the next
boot (R613, R644, Table 1.8). -/
def losePower (s : State) : State :=
  let t : State := { s with
    out := .diesReset :: s.out
    lnt := { s.lnt with power := false, zeroizePending := s.lnt.zeroizePending || s.kpr.zeroizeBusy }
    kpr := { s.kpr with zeroizeBusy := false } }
  offWithoutCell (loseT1 (toLantern (unplug (leaveJob (abandonTasks t)))))

/-! ## Comparators (R611, Table 17.8) -/

/-- Bit n of the comparators. -/
def compBit (n : Nat) : BitVec 6 := 1#6 <<< n

/-- A comparator's output is set, and latched (Table 17.21). -/
def tripComp (n : Nat) (s : State) : State :=
  { s with lnt := { s.lnt with now := s.lnt.now ||| compBit n, latched := s.lnt.latched ||| compBit n } }

/-- A comparator's condition is at its edge. -/
def compEdge (n : Nat) (s : State) : Bool := s.lnt.now &&& compBit n == 0

/-- Comparator n acts where 56 V is present: its alarm is raised at the edge (R611). -/
def tripPowered (n code : Nat) (s : State) : State :=
  if s.lnt.power && compEdge n s then raiseAlarm code [] (tripComp n s) else s

/-- Lantern keeps an alarm for the return of 56 V; its level ZEROIZE makes ZEROIZE pending (R611, R613). -/
def keepAlarm (code : Nat) (s : State) : State :=
  { s with lnt := { s.lnt with
      heldAlarms := s.lnt.heldAlarms ++ [code],
      zeroizePending := s.lnt.zeroizePending || alarmLevel s.nor code == 3,
      zeroizeAlarm := if alarmLevel s.nor code = 3 then code else s.lnt.zeroizeAlarm } }

/-- Comparator n acts with 56 V or without it: the backup-cell and tamper comparators (R611). -/
def tripAlways (n code : Nat) (s : State) : State :=
  if s.glb.state = .off || !compEdge n s then s
  else if s.lnt.power then raiseAlarm code [] (tripComp n s)
  else keepAlarm code (tripComp n s)

/-- The input comparators: the alarm, then the change of state to LANTERN whatever its level (R611, R644). -/
def tripInput (n code : Nat) (s : State) : State :=
  if s.lnt.power then
    losePower (record code [] (if alarmLevel s.nor code = 3 then
        let t := tripComp n s
        { t with lnt := { t.lnt with zeroizePending := true, zeroizeAlarm := code } }
      else tripComp n s))
  else s

/-- The input voltage as sensed. -/
def senseInput (tens : BitVec 16) (s : State) : State := { s with lnt := { s.lnt with input := tens } }

/-- INPUT_UNDER_VOLTAGE (R644). -/
def execInputUnderVoltage (tens : BitVec 16) (s : State) : Result :=
  .next (if s.lnt.power then tripInput 0 0xD100 (senseInput tens s) else s)

/-- INPUT_OVER_VOLTAGE (R644). -/
def execInputOverVoltage (tens : BitVec 16) (s : State) : Result :=
  .next (if s.lnt.power then tripInput 1 0xD101 (senseInput tens s) else s)

/-- INPUT_OVERCURRENT (R639): the input protection opens, and the under-voltage comparator reports that the internal input falls. -/
def execInputOvercurrent (s : State) : Result := .next (tripInput 0 0xD100 s)

/-- BACKUP_CELL_LOW (R611). -/
def execBackupCellLow (mv : BitVec 16) (s : State) : Result :=
  .next (if s.glb.state = .off then s else tripAlways 2 0xD102 { s with lnt := { s.lnt with cell := mv } })

/-- The hub junction's temperature as sensed. -/
def senseHub (tenths : BitVec 16) (s : State) : State := { s with lnt := { s.lnt with hubTemp := tenths } }

/-- HUB_OVER_TEMPERATURE (R611). -/
def execHubOverTemperature (tenths : BitVec 16) (s : State) : Result :=
  .next (if s.lnt.power then tripPowered 3 0xD103 (senseHub tenths s) else s)

/-- CLOCK_FAILURE (R611). -/
def execClockFailure (s : State) : Result := .next (tripPowered 4 0xD104 s)

/-- TAMPER_MESH (R611). -/
def execTamperMesh (s : State) : Result := .next (tripAlways 5 0xD105 s)

/-- What a sensed hub temperature does to event 0x5401 (R647): it is raised above 95 °C, once until the junction has been below 90 °C. -/
def noteHubTemp (tenths : BitVec 16) (s : State) : State :=
  let c := tenths.toInt
  let t := senseHub tenths s
  let t := if c ≤ 1100 then { t with lnt := { t.lnt with now := t.lnt.now &&& ~~~ (compBit 3) } } else t
  if 950 < c && t.kpr.tempArmed then
    record 0x5401 (detail [(2, tenths.toNat)]) { t with kpr := { t.kpr with tempArmed := false } }
  else if c < 900 then { t with kpr := { t.kpr with tempArmed := true } }
  else t

/-- HUB_TEMPERATURE_HIGH (R647). -/
def execHubTemperatureHigh (tenths : BitVec 16) (s : State) : Result :=
  .next (if s.lnt.power then noteHubTemp tenths s else s)

/-- DRAW_MEASUREMENT (R642). -/
def execDrawMeasurement (watts : Nat) (s : State) : Result :=
  .next (if s.lnt.power && decide (1750 < watts) then record 0x5400 (detail [(2, watts)]) s else s)

/-! ## The input and the backup cell (R34, R40, R597, R611) -/

/-- Lantern after its reset (R40), with its supplies as they stand. -/
def freshLantern (power cell : Bool) : Lantern := { power := power, cellFitted := cell }

/-- The alarms that Lantern kept are recorded (R611): their HALT level finds no job, and their ZEROIZE level is pending already. -/
def applyAlarms (s : State) : State :=
  s.lnt.heldAlarms.foldl (fun s c => record c [] s) { s with lnt := { s.lnt with heldAlarms := [] } }

/-- Boot starts: the alarms Lantern kept, and ZEROIZE where it is pending, before a slot is verified (R597, R611). -/
def startBoot (s : State) : State :=
  let t := applyAlarms (moduleReset s)
  if t.lnt.zeroizePending then destroyAll t else t

/-- INPUT_POWER_PRESENT (R34): 56 V appears, and boot starts with a module reset (R39). -/
def execInputPowerPresent (s : State) : Result :=
  .next (
    if s.glb.state = .off then
      record 0x0100 (detail [(1, ModState.code .off), (1, ModState.code .lantern)])
        (moduleReset { s with lnt := freshLantern true s.lnt.cellFitted })
    else if s.lnt.power then s
    else startBoot { s with lnt := { s.lnt with power := true, now := s.lnt.now &&& ~~~ (compBit 0 ||| compBit 1) } })

/-- BACKUP_CELL_FITTED (R34): from OFF the module enters LANTERN and Lantern is reset. -/
def execBackupCellFitted (s : State) : Result :=
  .next (
    if s.glb.state = .off then setState .lantern { s with lnt := freshLantern false true }
    else { s with lnt := { s.lnt with cellFitted := true, now := s.lnt.now &&& ~~~ (compBit 2) } })

/-- BACKUP_CELL_CUTOFF (R34): with 56 V absent the module enters OFF. -/
def execBackupCellCutoff (s : State) : Result :=
  .next (offWithoutCell { s with lnt := { s.lnt with cellFitted := false } })

end Sys2Proof.Machine
end

