-- ==== Sys2Proof/Machine/LinkCmds.lean ====
section
/-! DEFINITION. Soern links: training, failure, disabling, retry and control messages (R436 to R446, R466). -/
namespace Sys2Proof.Machine

/-! ## Training (R436 to R440) -/

/-- The link rails are on: from boot stage 0x07, that is once stage 0x06 is complete (Table 20.3). -/
def linksPowered (s : State) : Bool :=
  match s.glb.state with
  | .off => false
  | .lantern => s.lnt.power && decide (6 ≤ s.glb.bootStage)
  | _ => s.glb.bootStage == 0 || decide (6 ≤ s.glb.bootStage)

/-- R438 permits training of a link: it is no member link of a group that is ARMED or RUNNING. -/
def mayTrain (s : State) (l : Nat) : Bool := linksPowered s && !(inJob s && isMember s l)

/-- A link is taken down by FAB_LINK_DISABLE: event 0x4D00 with cause 5. -/
def disableLink (l : Nat) (s : State) : State :=
  record 0x4D00 (detail [(1, l), (1, 5)]) (updLink l (fun k => { Link.lost k with state := 4 }) s)

/-- A training starts. -/
def Link.training (k : Link) : Link := { Link.lost k with state := 1, trainings := satAdd 16 k.trainings 1 }

/-- LINK_TRAINING (R438): a disabled link is taken down instead. -/
def execLinkTraining (link : Fin 48) (s : State) : Result :=
  .next (
    let k := linkOf s link.val
    if !mayTrain s link.val then s
    else if s.fab.disable.getLsbD link.val then (if k.state = 4 then s else disableLink link.val s)
    else if k.state = 1 then s
    else updLink link.val Link.training s)

/-- The middle of 64 round trips: the mean of the two middle ones. -/
def medianEcho (es : List Nat) : Nat :=
  let xs := sortBy (fun a b => decide (a ≤ b)) es
  (xs.getD 31 0 + xs.getD 32 0) / 2

/-- D in clocks: half the median round trip of 64 ECHO exchanges (R436), else as measured. -/
def delayOf (k : Link) (r : LinkReport) : Nat :=
  if k.echoes.length = 64 then ceilDiv (medianEcho k.echoes * 3) 4000 else r.delay

/-- The lane pairs that may become active: those that passed, but for those that a training is to replace (R440). -/
def goodLanes (k : Link) (r : LinkReport) : List Nat :=
  let pass := (List.range 5).filter (fun i => r.lanes.getLsbD i)
  let keep := pass.filter (fun i => !k.worn.contains i)
  if 4 ≤ keep.length then keep else pass

/-- Why a training does not bring its link up (R436, Table 18.15). -/
def refuseCause (k : Link) (r : LinkReport) (s : State) : Option Nat :=
  if (goodLanes k r).length < 4 then some 2
  else if 150 < delayOf k r then some 3
  else if k.peerDomain ≠ 0 && s.fab.domain ≠ 0 && k.peerDomain ≠ s.fab.domain.toNat then some 4
  else none

/-- The lane pair that the spare replaces: the one of 0 to 3 that is not active. -/
def replacedLane (active : List Nat) : Nat := ((List.range 4).find? (fun i => !active.contains i)).getD 15

/-- A mask of lane pairs. -/
def laneMask (ls : List Nat) : Nat := ls.foldl (fun m i => m + 2 ^ i) 0

/-- A link is admitted: it is up, its lane map is recorded, and LINK_STATE tells of it (R436, R472). -/
def admitLink (l : Nat) (r : LinkReport) (s : State) : State :=
  let k := linkOf s l
  let active := (goodLanes k r).take 4
  let spare := active.contains 4
  let t : State := { updLink l (fun k => { k with state := 2, delay := delayOf k r, worn := [], echoes := [],
                                                  spareFor := if spare then replacedLane active else 15 }) s with
                     nor := { s.nor with soernMaps := SMap.insert s.nor.soernMaps l (laneMask active) } }
  let u := if spare then record 0x0D02 (detail [(1, l), (1, replacedLane active)]) t else t
  flood 2 (.linkState (ownLinkState u none)) u

/-- LINK_TRAINING_COMPLETE (R436). -/
def execLinkTrainingComplete (link : Fin 48) (r : LinkReport) (s : State) : Result :=
  .next (
    let k := linkOf s link.val
    if k.state ≠ 1 then s
    else match refuseCause k r s with
      | some c => record 0x4D00 (detail [(1, link.val), (1, c)]) (updLink link.val (fun k => { k with state := 3, delay := delayOf k r }) s)
      | none => admitLink link.val r s)

/-- ECHO (R436): a request is answered with its timestamp; a reply gives one round trip. -/
def execEcho (link : Fin 48) (time : Nat) (reply : Bool) (now : Nat) (s : State) : Result :=
  .next (
    if (linkOf s link.val).state ≠ 1 then s
    else if reply then updLink link.val (fun k => { k with echoes := (k.echoes ++ [now - time]).take 64 }) s
    else { s with out := .block link.val (.echo time true) :: s.out })

/-- A link goes down (R439): a fault on a member link of an armed or running group, event 0x4D00 elsewhere. -/
def linkFails (l : Nat) (s : State) : State :=
  let member := inJob s && isMember s l
  let t := updLink l Link.lost s
  let u := if member then raiseFault 0x8D01 (detail [(1, l)]) t else record 0x4D00 (detail [(1, l), (1, 1)]) t
  dropLost (flood 2 (.linkState (ownLinkState u none)) u)

/-- LINK_DOWN (R439). -/
def execLinkDown (link : Fin 48) (s : State) : Result :=
  .next (if (linkOf s link.val).state = 2 then linkFails link.val s else s)

/-- ACK_TIMEOUT (R439): 4 096 clocks with flits unacknowledged. -/
def execAckTimeout (link : Fin 48) (s : State) : Result :=
  .next (
    let k := linkOf s link.val
    if k.state = 2 && !k.replay.isEmpty then linkFails link.val s else s)

/-- LANE_ERROR_RATE (R440): event 0x4D05, and the spare takes the lane's place at the next training. -/
def execLaneErrorRate (link : Fin 48) (lane : Fin 5) (s : State) : Result :=
  .next (
    if (linkOf s link.val).state = 2 then
      record 0x4D05 (detail [(1, link.val), (1, lane.val)])
        (updLink link.val (fun k => { k with
            worn := if k.worn.contains lane.val then k.worn else k.worn ++ [lane.val],
            corrected := satAdd 32 k.corrected (2 ^ 20 + 1 + (Config.symbols (s.freeCount + 1)).toNat) })
          { s with freeCount := s.freeCount + 1 })
    else s)

/-- Links whose DISABLE bit stands and that training permits are taken down; those whose bit has been cleared are down until they train
(R438, Table 13.16). -/
def applyDisable (s : State) : State :=
  (List.range 48).foldl (fun s l =>
    let k := linkOf s l
    if s.fab.disable.getLsbD l then
      if k.state ≠ 4 && mayTrain s l then disableLink l s else s
    else if k.state = 4 then updLink l (fun k => { k with state := 0 }) s
    else s) s

/-- FAB_LINK_DISABLE holds a value, kept in the serial NOR. -/
def setDisable (x : Nat) (s : State) : State :=
  applyDisable { s with fab := { s.fab with disable := w64 x }, nor := { s.nor with disable := w64 x } }

/-- FAB_LINK_DISABLE (R438). -/
def execFabLinkDisable (p : Port) (v : W64) (s : State) : Result :=
  .next (regWrite p .fabLinkDisable v (fun s => s.fab.disable.toNat) setDisable s)

/-! ## Acknowledgements (R443, R446) -/

/-- ACK (R443). -/
def execAck (link : Fin 48) (seq : Nat) (s : State) : Result :=
  .next (if (linkOf s link.val).state = 2 then acknowledge link.val seq s else s)

/-- The flits not acknowledged are sent again; none are where there is none. -/
def resendAny (l : Nat) (s : State) : State := if (linkOf s l).replay.isEmpty then s else resend l s

/-- NAK (R443): every flit before its SEQ is acknowledged, the rest are sent again. -/
def execNak (link : Fin 48) (seq : Nat) (s : State) : Result :=
  .next (if (linkOf s link.val).state = 2 then resendAny link.val (acknowledge link.val seq s) else s)

/-- RETRY_TIMEOUT (R443). -/
def execRetryTimeout (link : Fin 48) (s : State) : Result :=
  .next (if (linkOf s link.val).state = 2 then resendAny link.val s else s)

/-- A flit with a SEQ awaits its acknowledgement, or its sending. -/
def unacked (k : Link) (seq : Nat) : Bool :=
  decide ((seq + 65536 - (k.sendSeq + 65536 - k.replay.length) % 65536) % 65536 < k.replay.length + k.waiting.length)

/-- RUN_ACK_TIMEOUT (R446): a run's last flit is not acknowledged 480 clocks after the run's end. -/
def execRunAckTimeout (link : Fin 48) (flow : Nat) (s : State) : Result :=
  .next (
    match s.fab.sent.find? (fun r => r.link == link.val && r.flow == flow && unacked (linkOf s link.val) r.lastSeq) with
    | some r =>
      raiseFault 0x8D00 (detail [(1, link.val), (2, flow), (4, r.planBeam)])
        { s with fab := { s.fab with sent := s.fab.sent.filter (· != r) } }
    | none => s)

/-! ## Control messages (R466, Table 13.9) -/

/-- Fragments of a control message of a type. -/
def fragmentCount (ty : Nat) : Nat := if ty = 1 || ty = 3 then 2 else if ty = 2 || ty = 4 then 4 else 0

/-- The type code of a control message. -/
def CtlMsg.code : CtlMsg → Nat
  | .holdVote _ _ _ _ => 1
  | .armVote _ _ _ _ _ => 2
  | .collect _ _ _ _ _ => 3
  | .releaseVote _ _ _ _ _ => 4

/-- The content of a control message, its fields in the order of Table 13.9 and packed (DESIGN CHOICE, log 19). -/
def CtlMsg.bytes : CtlMsg → Bytes
  | .holdVote job pb ok up => leBytes 3 job.toNat ++ leBytes 4 pb.toNat ++ leBytes 1 (b01 ok) ++ leBytes 1 (b01 up)
  | .armVote job g b ok up => leBytes 8 job.toNat ++ leBytes 8 g.toNat ++ leBytes 8 b.toNat ++ leBytes 1 (b01 ok) ++ leBytes 1 (b01 up)
  | .collect job n op up v => leBytes 3 job.toNat ++ leBytes 2 n ++ leBytes 1 op ++ leBytes 1 (b01 up) ++ [0] ++ leBytes 8 v.toNat
  | .releaseVote job g b ok up => leBytes 8 job.toNat ++ leBytes 8 g.toNat ++ leBytes 8 b.toNat ++ leBytes 1 (b01 ok) ++ leBytes 1 (b01 up)

/-- The fragments of a control message, in order. -/
def CtlMsg.fragments (m : CtlMsg) : List Ctl :=
  (List.range (fragmentCount (CtlMsg.code m))).map (fun i => .msg i (CtlMsg.code m) (bytesAt (CtlMsg.bytes m) (8 * i) 8))

/-- A control message is queued on a link. -/
def queueCtl (l : Nat) (m : CtlMsg) (s : State) : State := updLink l (fun k => { k with msgs := k.msgs ++ CtlMsg.fragments m }) s

/-- A control message goes to a member of the group, on the first link of its shortest path (R469). -/
def sendCtl (to_ : Nat) (m : CtlMsg) (s : State) : State :=
  match groupLink s to_ with
  | some l => queueCtl l m s
  | none => s

/-- MSG (R466): the fragment is kept until its message is whole, and forwarded on receipt where this module relays it. -/
def execMsg (link : Fin 48) (frag ty : Nat) (content : Bytes) (s : State) : Result :=
  .next (
    if (linkOf s link.val).state ≠ 2 || fragmentCount ty ≤ frag then s
    else
      let t := updLink link.val (fun k => { k with
        frags := if frag + 1 = fragmentCount ty then [] else k.frags ++ [(frag, content)] }) { s with freeCount := s.freeCount + 1 }
      match Config.relay (s.freeCount + 1) with
      | some l => if isMember t l.val then updLink l.val (fun k => { k with msgs := k.msgs ++ [.msg frag ty content] }) t else t
      | none => t)

end Sys2Proof.Machine
end

