-- ==== Sys2Proof/Machine/Tree.lean ====
section
/-! DEFINITION. The reduction trees and the messages that travel tree 0 (R469 to R471, R484, R485). -/
namespace Sys2Proof.Machine

/-! ## Positions (R485) -/

/-- MEMBER_COUNT. -/
def memberCount (i : Image) : Nat := i.group.length

/-- The position of a rank in a bucket whose root is `root`. -/
def posOfRank (n root rank : Nat) : Nat := (rank + n - root % n) % n

/-- The rank at a position of a bucket whose root is `root`. -/
def rankAt (n root pos : Nat) : Nat := (pos + root) % n

/-- The parent of a position of a tree; none at position 0. -/
def parentPos (x : Exchange) (tree pos : Nat) : Option Nat :=
  match x.nodes.find? (fun e => e.tree == tree && e.pos == pos) with
  | some e => if e.parent = 0xFFFFFFFF then none else some e.parent
  | none => none

/-- The children of a position of a tree, in ascending position. -/
def childPositions (x : Exchange) (tree pos : Nat) : List Nat :=
  sortBy (fun a b => decide (a ≤ b)) ((x.nodes.filter (fun e => e.tree == tree && e.parent == pos)).map (·.pos))

/-- The module number of a rank. -/
def moduleAt (i : Image) (rank : Nat) : Nat := i.group.getD rank 0

/-- This member's parent on tree 0, where position and rank coincide. -/
def treeParent (i : Image) : Option Nat := parentPos i.exchange 0 i.memberRank

/-- This member's children on tree 0, in ascending rank. -/
def treeChildren (i : Image) : List Nat := childPositions i.exchange 0 i.memberRank

/-! ## Messages along tree 0 (R469, R470) -/

/-- A message goes to each child. -/
def sendDown (i : Image) (m : CtlMsg) (s : State) : State :=
  (treeChildren i).foldl (fun s c => sendCtl (moduleAt i c) m s) s

/-- A message goes to the parent. -/
def sendUp (i : Image) (m : CtlMsg) (s : State) : State :=
  match treeParent i with
  | some p => sendCtl (moduleAt i p) m s
  | none => s

/-- The child whose message arrives on a link: the lowest of those reached through the link that has not been heard yet. No field of
the message names its sender (DESIGN CHOICE, log 20). -/
def childOn (s : State) (i : Image) (link : Nat) (heard : List Nat) : Option Nat :=
  (treeChildren i).find? (fun c => groupLink s (moduleAt i c) == some link && !heard.contains c)

/-- The job tag of an image (Table 13.1). -/
def jobTag (i : Image) : BitVec 24 := BitVec.ofNat 24 i.jobId.toNat

/-- A collective's operation on two values: 1 AND, 2 OR, 3 UMAX, 4 FSUM (R470). -/
def collectOp (op : Nat) (a b : W64) : W64 :=
  if op = 1 then a &&& b
  else if op = 2 then a ||| b
  else if op = 3 then (if a.toNat < b.toNat then b else a)
  else w64 (Pair.word (Pair.merge (Pair.ofWord a.toNat) (Pair.ofWord b.toNat)))

/-- A node's own value and its children's, in ascending rank, combined. -/
def collectAll (op : Nat) (own : W64) (children : List (Nat × W64)) : W64 :=
  (sortBy (fun a b => decide (a.1 ≤ b.1)) children).foldl (fun v c => collectOp op v c.2) own

/-- A collective under combination. -/
def collectOf (f : Fab) (num : Nat) : Option Collect := f.collects.find? (fun c => c.num == num)

/-- A collective replaced. -/
def putCollect (c : Collect) (s : State) : State :=
  { s with fab := { s.fab with collects := s.fab.collects.filter (fun x => x.num != c.num) ++ [c] } }

/-- A collective is over at this node. -/
def dropCollect (num : Nat) (s : State) : State :=
  { s with fab := { s.fab with collects := s.fab.collects.filter (fun x => x.num != num) } }

end Sys2Proof.Machine
end

