-- ==== Sys2Proof/Machine/Exchange.lean ====
section
/-! DEFINITION. The reduction engine: combining buckets along their trees, reduced tiles, clip factors and latches (R482 to R520). -/
namespace Sys2Proof.Machine

/-! ## Flows that start here (R453, R492) -/

/-- Bytes cut into the flits of a flow. -/
def dataFlits (kind flow : Nat) (bs : Bytes) : List Flit :=
  (pieces240 (bs.length / 240 + 1) bs).map (fun d =>
    { seq := 0, kind := kind, flow := flow, dest := 0, hops := 0, first := false, last := false, poison := false, data := d, msg := none })

/-- Bytes packed back to back behind the flits of a flow. -/
def packFlow (kind flow : Nat) (old : List Flit) (bs : Bytes) : List Flit :=
  match old.getLast? with
  | some f => if f.data.length < 240 then old.dropLast ++ dataFlits kind flow (f.data ++ bs) else old ++ dataFlits kind flow bs
  | none => dataFlits kind flow bs

/-- Bytes are queued for the runs of a STREAM or ENGINE flow that starts here. -/
def queueBytes (kind flow : Nat) (bs : Bytes) (s : State) : State :=
  { s with fab := { s.fab with outgoing := SMap.modify s.fab.outgoing (2 * flow) [] (fun old => packFlow kind flow old bs) } }

/-! ## Buckets (R485 to R490) -/

/-- This member's position in a bucket. -/
def bucketPos (i : Image) (b : Bucket) : Nat := posOfRank (memberCount i) b.root i.memberRank

/-- The children of this member in a bucket, in ascending position. -/
def bucketChildren (i : Image) (b : Bucket) : List Nat := childPositions i.exchange b.tree (bucketPos i b)

/-- The rank at a position of a bucket. -/
def bucketRank (i : Image) (b : Bucket) (pos : Nat) : Nat := rankAt (memberCount i) b.root pos

/-- The upward flow of a position other than 0 (Table 14.7). -/
def upFlow (b : Bucket) (pos : Nat) : Nat := b.flowBase + pos - 1

/-- The downward flow to a position (Table 14.7). -/
def downFlow (i : Image) (b : Bucket) (pos : Nat) : Nat := b.flowBase + memberCount i + pos - 2

/-- The steps a bucket takes: one for each tile, and one for an empty bucket. -/
def bucketSteps (b : Bucket) : Nat := max 1 b.count

/-- Steps of a bucket taken in this training step. -/
def stepsTaken (s : State) (k : Nat) : Nat := SMap.get s.rdx.combined k 0

/-- The buckets before this one in its plan beam are done: the RDE takes them in EXCHANGE entry order (R490). -/
def earlierDone (s : State) (i : Image) (k beam : Nat) : Bool :=
  (List.range k).all (fun j =>
    match i.exchange.buckets[j]? with
    | some b => b.beam != beam || decide (bucketSteps b ≤ stepsTaken s j)
    | none => true)

/-- The tile of a child that has arrived. -/
def childTile (s : State) (k rank tile : Nat) : Option RedTile :=
  s.rdx.tiles.find? (fun t => t.bucket == k && t.sender == rank && !t.down && t.tile == tile)

/-- The children's tiles, none while one is missing. -/
def childTiles (s : State) (i : Image) (k : Nat) (b : Bucket) (tile : Nat) : Option (List RedTile) :=
  (bucketChildren i b).mapM (fun p => childTile s k (bucketRank i b p) tile)

/-- The code of the RDE (R617). -/
def rdeCode : Nat := engineCode 8 0

/-- The RDE's logical engine, 0xFFFF where the image names none. -/
def rdeLe (i : Image) : Nat := ((List.range i.engines.length).find? (fun k => (i.engines[k]?).elim false (fun e => e.kind == 8))).getD 0xFFFF

/-- One element of the children added to the own one (R490). -/
def combineElem (arith : Nat) (own : Nat) (cs : List Nat) : Nat :=
  if arith = 0 then Pair.fold (cs.foldl Pair.add ⟨own, 0⟩)
  else add32 (cs.foldl add32 own) 0

/-- The elements at the heads of several lists, and the lists' rests; the fuel bounds their length. -/
def combineElems (arith : Nat) : List Nat → List (List Nat) → List Nat
  | [], _ => []
  | x :: xs, cs => combineElem arith x (cs.map (fun c => c.headD 0)) :: combineElems arith xs (cs.map List.tail)

/-! ## A reduced tile (R491, R493, R494, R164) -/

/-- A tile's pair of squares is added to its layer's (R494). -/
def addSquares (layer : Nat) (r : List Nat) (s : State) : State :=
  let p := SMap.get s.rdx.pairs layer (0, 0)
  let q := Pair.merge ⟨p.1.toNat, p.2.toNat⟩ (sumPairs (r.map (fun x => some (square32 x))))
  { s with rdx := { s.rdx with pairs := SMap.set s.rdx.pairs layer (BitVec.ofNat 32 q.s, BitVec.ofNat 32 q.c) (0, 0) } }

/-- A tile of a layer has been reduced here, silent or not (R164). -/
def noteReduced (layer : Nat) (silent : Bool) (s : State) : State :=
  { s with num := { s.num with reduced := SMap.modify s.num.reduced layer none (fun x => some (silent && x.getD true)) } }

/-- A non-finite result: the indication, and the bucket's count once (R491, Table 14.19). -/
def noteNonfinite (k : Nat) (r : List Nat) (s : State) : State :=
  if r.any nonfinite32 then
    let seen := s.rdx.nonfin.contains k
    { s with
      num := { s.num with nonFinite := true }
      rdx := { s.rdx with nonfin := if seen then s.rdx.nonfin else k :: s.rdx.nonfin,
                          nonfinBuckets := if seen then s.rdx.nonfinBuckets else satAdd 32 s.rdx.nonfinBuckets 1 } }
  else s

/-- A reduced tile is written into the reduction buffer, with its share of the norm and of the layer's silence (R493, R494, R164). -/
def writeReduced (i : Image) (e : BuoyEntry) (b : Bucket) (tile : Nat) (r : List Nat) (s : State) : State :=
  let w := narrowFor s i e tile (jobStep s) 0 0xFFFF false r
  let t := noteReduced b.layer (amaxOf r == 0 || w.notes.allZero) (addSquares b.layer r s)
  (writeTile rdeCode (some (rdeLe i)) e tile w.tile { t with num := NumState.note t.num i e w }).2

/-- The tile that travels up from a position (R492). -/
def wireTile (s : State) (i : Image) (b : Bucket) (tile pos : Nat) (r : List Nat) : Bytes :=
  match elemOf b.wire with
  | none => []
  | some el =>
    let key : SrKey := { seed := i.numeric.seed.toNat, tile := tile, buoy := b.buoy, step := jobStep s, purpose := 1, ordinal := pos % 65536 }
    let n := narrowTile el false 127 0 (.sr key) r
    makeTile (workHeader b.wire b.buoy tile (jobStep s) 127 0 (tileFlags false n.nonfinite n.saturated)) n.payload

/-- The tile that travels down: r in FP32, so that every member's halves stay bit-identical (R493, R499; DEDUCED, log 21). -/
def downTile (s : State) (b : Bucket) (tile : Nat) (r : List Nat) : Bytes :=
  makeTile (workHeader 0x01 b.buoy tile (jobStep s) 127 0 (tileFlags false (r.any nonfinite32) false)) (packElems 32 r)

/-- A tile goes to the children of this member, in a replicated exchange (R493). -/
def sendChildren (i : Image) (b : Bucket) (bytes : Bytes) (s : State) : State :=
  (bucketChildren i b).foldl (fun s p => queueBytes 4 (downFlow i b p) bytes s) s

/-- What the RDE does with its result: it sends it up, or writes it and sends it down (R492, R493). -/
def placeResult (i : Image) (e : BuoyEntry) (b : Bucket) (tile : Nat) (r : List Nat) (s : State) : State :=
  let pos := bucketPos i b
  if pos = 0 then
    let t := writeReduced i e b tile r s
    if i.exchange.mode = 2 then sendChildren i b (downTile s b tile r) t else t
  else queueBytes 4 (upFlow b pos) (wireTile s i b tile pos r) s

/-- A received tile passes its CRC-32C (R491). -/
def receivedOk (b : Bytes) : Bool := tileCrcOk b

/-- Fault 0x8E03. -/
def badReceived (k tile rank : Nat) (s : State) : State := raiseFault 0x8E03 (detail [(4, k), (4, tile), (4, rank)]) s

/-- The checks of a received tile in a format (R491): its elements, or the fault. -/
def checkReceived (k : Nat) (b : Bucket) (code tile rank : Nat) (bytes : Bytes) (s : State) : Option (List Nat) × State :=
  let h := Header.parse bytes
  if !(tileCrcOk bytes && bytes.length == tilePitch code) then (none, badReceived k tile rank s)
  else if numericBad h code false then (none, raiseFault 0x8400 (detail [(2, rdeCode), (4, b.buoy), (4, tile)]) s)
  else if identityBad h b.buoy tile then (none, badReceived k tile rank s)
  else (some (tileElems bytes), s)

/-- The checks of several received tiles in order. -/
def checkAllReceived (k : Nat) (b : Bucket) (code tile : Nat) : List RedTile → State → Option (List (List Nat)) × State
  | [], s => (some [], s)
  | t :: ts, s =>
    match checkReceived k b code tile t.sender t.bytes s with
    | (some xs, u) =>
      match checkAllReceived k b code tile ts u with
      | (some r, v) => (some (xs :: r), v)
      | (none, v) => (none, v)
    | (none, u) => (none, u)

/-- A step of a bucket is taken; the bucket counts once it is whole (Table 14.19). -/
def stepBucket (k : Nat) (b : Bucket) (s : State) : State :=
  let n := stepsTaken s k + 1
  { s with rdx := { s.rdx with
      combined := SMap.set s.rdx.combined k n 0,
      buckets := if n = bucketSteps b then satAdd 32 s.rdx.buckets 1 else s.rdx.buckets } }

/-- The tiles of a bucket's step are used up. -/
def dropTiles (k tile : Nat) (s : State) : State :=
  { s with rdx := { s.rdx with tiles := s.rdx.tiles.filter (fun t => t.down || t.bucket != k || t.tile != tile), held := none } }

/-- The RDE combines one tile (R490 to R494). -/
def combineTile (i : Image) (e : BuoyEntry) (k : Nat) (b : Bucket) (tile : Nat) (kids : List RedTile) (s : State) : State :=
  match useTile rdeCode (rdeLe i) 0x4500 0x8501 e tile 0 s with
  | (.good _ own, s1) =>
    match checkAllReceived k b b.wire tile kids s1 with
    | (some cs, s2) =>
      let r := combineElems i.exchange.arith (tileElems own) cs
      stepBucket k b (dropTiles k tile (placeResult i e b tile r (noteNonfinite k r s2)))
    | (none, s2) => s2
  | (.held, s1) => { s1 with rdx := { s1.rdx with held := some (e.id, tile) } }
  | (.waiting, s1) => s1
  | (.stop, s1) => s1

/-- The last run of an empty bucket's flows on this module has ended, 158 clocks ago (R488). -/
def emptyBucketEnd (s : State) (i : Image) (b : Bucket) : Nat :=
  ((slotsOf i b.beam).filter (fun x => decide (b.flowBase ≤ x.flow) && decide (x.flow < b.flowBase + 2 * (memberCount i - 1)))).foldl
    (fun m x => max m ((x.first + x.count) * slotLen s.live + 158)) 0

/-- The bucket is in the RDE's turn: its plan beam runs, the ones before it are done, and it has tiles left (R490). -/
def bucketTurn (s : State) (i : Image) (k : Nat) (b : Bucket) : Bool :=
  planRuns s && b.beam == s.beam.planBeam && earlierDone s i k b.beam && decide (stepsTaken s k < bucketSteps b)

/-- BUCKET_COMBINE: the next tile of a bucket, by its place among the BUCKET entries (DEDUCED, log 22). -/
def combineNext (i : Image) (k : Nat) (b : Bucket) (s : State) : State :=
  if !bucketTurn s i k b then s
  else if b.count = 0 then (if emptyBucketEnd s i b ≤ s.beam.offset then stepBucket k b s else s)
  else
    let tile := b.first + stepsTaken s k
    match buoyEntry i b.buoy, childTiles s i k b tile with
    | some e, some kids => if tileWritten s i b.buoy tile then combineTile i e k b tile kids s else s
    | _, _ => s

/-- BUCKET_COMBINE (R490). -/
def execBucketCombine (bucket : Nat) (s : State) : Result :=
  .next (match s.img.live with
    | some i =>
      match i.exchange.buckets[bucket]? with
      | some b => combineNext i bucket b s
      | none => s
    | none => s)

/-- A tile that came down: written as at the root, and passed on unchanged (R493). -/
def takeDown (i : Image) (k : Nat) (b : Bucket) (tile : Nat) (bytes : Bytes) (s : State) : State :=
  match buoyEntry i b.buoy with
  | none => s
  | some e =>
    match checkReceived k b 0x01 tile (bucketRank i b ((parentPos i.exchange b.tree (bucketPos i b)).getD 0)) bytes s with
    | (some r, t) => sendChildren i b bytes (writeReduced i e b tile r t)
    | (none, t) => t

/-! ## Clipping (R505 to R508) -/

/-- The layers of this exchange, in ascending order. -/
def layersOf (x : Exchange) : List Nat :=
  sortBy (fun a b => decide (a ≤ b)) (x.buckets.foldl (fun acc b => if acc.contains b.layer then acc else acc ++ [b.layer]) [])

/-- A layer's pair on this member. -/
def layerPair (s : State) (l : Nat) : Pair :=
  let p := SMap.get s.rdx.pairs l (0, 0)
  ⟨p.1.toNat, p.2.toNat⟩

/-- The sum of the layer pairs, in ascending layer order (R506). -/
def allPairs (s : State) (i : Image) : Pair :=
  (layersOf i.exchange).foldl (fun p l => Pair.merge p (layerPair s l)) {}

/-- A clip factor and its norm. -/
def clipPair (p : Pair) (tau : Nat) : LayerClip :=
  ⟨BitVec.ofNat 32 (clipOf p tau).1, BitVec.ofNat 32 (clipOf p tau).2⟩

/-- The global clip factor is known (R506). -/
def setGlobalClip (i : Image) (p : Pair) (s : State) : State :=
  { s with rdx := { s.rdx with globalClip := some (clipPair p i.exchange.globalTau.toNat) } }

/-- A layer's clip factor is known (R505). -/
def setLayerClip (i : Image) (l : Nat) (p : Pair) (s : State) : State :=
  { s with rdx := { s.rdx with clips := SMap.set s.rdx.clips l (some (clipPair p (layerEntry i.exchange l).tau.toNat)) none } }

/-! ## The latches (R520) -/

/-- The epoch word of a shard as RDX_EPOCH shows it (Table 14.15). -/
def epochWord (s : State) (shard : Nat) : W64 :=
  match epochOf s shard with
  | some v => w64 v
  | none => BitVec.allOnes 64

/-- RDX_EPOCH_SEL selects a shard. -/
def selectEpoch (x : Nat) (s : State) : State :=
  { s with rdx := { s.rdx with epochSel := w64 x, epochLatch := epochWord s x } }

/-- RDX_EPOCH_SEL (R520). -/
def execRdxEpochSel (p : Port) (v : W64) (s : State) : Result :=
  .next (regWrite p .rdxEpochSel v (fun s => s.rdx.epochSel.toNat) selectEpoch s)

/-- RDX_LAYER_NORM of a layer (Table 14.17). -/
def layerNorm (s : State) (l : Nat) : Nat :=
  let c := SMap.get s.rdx.lastClips l {}
  at_ 32 c.clip.toNat + c.norm.toNat

/-- RDX_LAYER_LR of a layer (Table 14.18). -/
def layerLr (s : State) (l : Nat) : Nat :=
  match s.img.live with
  | some i => at_ 32 (layerDecay i l) + layerRate s i l
  | none => 0

/-- RDX_LAYER_SEL selects a layer. -/
def selectLayer (x : Nat) (s : State) : State :=
  { s with rdx := { s.rdx with layerSel := w64 x, normLatch := w64 (layerNorm s x), lrLatch := w64 (layerLr s x) } }

/-- RDX_LAYER_SEL (R520). -/
def execRdxLayerSel (p : Port) (v : W64) (s : State) : Result :=
  .next (regWrite p .rdxLayerSel v (fun s => s.rdx.layerSel.toNat) selectLayer s)

end Sys2Proof.Machine
end

