-- ==== Sys2Proof/Machine/Layout.lean ====
section
/-! DEFINITION. The bank layout of a plan beam, T0 residences and windows, and which spaces overlap (R312 to R320, R342 to R347). -/
namespace Sys2Proof.Machine

/-! ## Banks (R312 to R317) -/

/-- The tile store of a logical die: its physical die, or 8 for the hub. -/
def storeOf (binding : List Nat) (ldie : Nat) : Nat := physDie binding ldie

/-- An entry covers a logical bank. -/
def covers (e : BankEntry) (l : Nat) : Bool := decide (e.first ≤ l) && decide (l < e.first + e.count)

/-- The later of two entries in force. -/
def laterEntry (best : Option BankEntry) (e : BankEntry) : Option BankEntry :=
  match best with
  | none => some e
  | some b => if b.fromBeam < e.fromBeam then some e else some b

/-- The entry that governs a logical bank in plan beam p (R315). -/
def entryAt (i : Image) (ldie l p : Nat) : Option BankEntry :=
  (i.banks.filter (fun e => e.ldie == ldie && covers e l && decide (e.fromBeam ≤ p))).foldl laterEntry none

/-- What TST_OWNER holds for a logical bank in plan beam p; a bank that no entry covers is a partition of its own (R315). -/
def ownerAt (i : Image) (ldie l p : Nat) : BankOwner :=
  match entryAt i ldie l p with
  | some e => { power := e.power, words := e.words, count := e.count, first := e.first, mask := e.mask }
  | none => { power := 0, words := 0, count := 1, first := l, mask := 0 }

/-- The logical dies of an image, the hub among them. -/
def logicalDies (i : Image) : List Nat := List.range i.logicalDies ++ [0xFF]

/-- The owner words of a tile store in plan beam p, by physical bank; physical banks that no logical bank binds keep theirs. -/
def ownersAt (n : Nor) (i : Image) (ldie store p : Nat) (old : SMap BankOwner) : SMap BankOwner :=
  (List.range (liveBanks n store).length).foldl (fun m l =>
    match physBank n store l with
    | some b => SMap.set m b (ownerAt i ldie l p) {}
    | none => m) old

/-- The partition that starts at a logical bank in plan beam p: its bank count. -/
def partitionCount (i : Image) (ldie first p : Nat) : Nat := (ownerAt i ldie first p).count

/-! ## Residences (R342, R343) -/

/-- A residence window of a buoy. -/
structure Window where
  from_ : Nat
  to_ : Nat
  fill : Bool
  wb : Bool
  deriving DecidableEq, Repr

/-- T0_LDIE. -/
def resLdie (e : BuoyEntry) : Nat := natAt e.residence 0 1
/-- T0_BANK. -/
def resBank (e : BuoyEntry) : Nat := natAt e.residence 1 1
/-- T0_WORD. -/
def resWord (e : BuoyEntry) : Nat := natAt e.residence 2 4
/-- WIN_CTRL. -/
def winCtrl (e : BuoyEntry) : Nat := natAt e.residence 22 1
/-- FILL_TIER. -/
def fillTier (e : BuoyEntry) : Nat := natAt e.residence 23 1

/-- The windows of a buoy. -/
def windowsOf (e : BuoyEntry) : List Window :=
  (List.range (winCtrl e % 4)).map (fun k =>
    { from_ := natAt e.residence (6 + 8 * k) 4, to_ := natAt e.residence (10 + 8 * k) 4,
      fill := (winCtrl e).testBit (2 + k), wb := (winCtrl e).testBit (4 + k) })

/-- PIN_T0. -/
def pinnedT0 (e : BuoyEntry) : Bool := hasFlag e 7

/-- The residence of a buoy under the layout of plan beam p. -/
def residenceAt (binding : List Nat) (i : Image) (e : BuoyEntry) (p : Nat) : Place :=
  .t0 (storeOf binding (resLdie e)) (resBank e) (partitionCount i (resLdie e) (resBank e) p) (resWord e)

/-- The plan beam from whose tick a window occupies its place, and the first plan beam from which it no longer does (R343). -/
def occupation (w : Window) : Nat × Nat := (w.from_ - b01 w.fill, w.to_ + 1 + b01 w.wb)

/-- A window occupies its place in plan beam p. -/
def occupies (w : Window) (p : Nat) : Bool := decide ((occupation w).1 ≤ p) && decide (p < (occupation w).2)

/-- A buoy's residence is occupied in plan beam p. -/
def resident (e : BuoyEntry) (p : Nat) : Bool := pinnedT0 e || (windowsOf e).any (fun w => occupies w p)

/-- A window holds the buoy's authoritative mooring in plan beam p: from FROM to TO (R344, R345). -/
def inWindow0 (e : BuoyEntry) (p : Nat) : Bool := (windowsOf e).any (fun w => decide (w.from_ ≤ p) && decide (p ≤ w.to_))

/-! ## Overlap of spaces -/

/-- The rows of logical bank l that words w to w + n − 1 of a partition of k banks from `first` take: first row and end (R312). -/
def bankRows (first k w n l : Nat) : Nat × Nat :=
  let i := l - first
  if k = 0 || n = 0 || l < first || first + k ≤ l || w + n ≤ i then (0, 0) else (ceilDiv (w - i) k, (w + n - 1 - i) / k + 1)

/-- Two half-open intervals meet. -/
def meets (a b : Nat × Nat) : Bool := decide (a.1 < b.2) && decide (b.1 < a.2)

/-- The words of a buoy in a T0 space. -/
def buoyWords (e : BuoyEntry) : Nat := homeBytes e / 64

/-- Two places of given lengths in bytes share space. -/
def overlaps (a : Place) (n : Nat) (b : Place) (m : Nat) : Bool :=
  match a, b with
  | .t0 s f k w, .t0 t g j v => s == t && (List.range 32).any (fun l => meets (bankRows f k w (n / 64) l) (bankRows g j v (m / 64) l))
  | .t1 x, .t1 y => meets (x, x + n) (y, y + m)
  | _, _ => false

/-! ## Lookahead (R354) -/

/-- The n-th plan beam after p, wrapping to plan beam 0. -/
def beamAfter (i : Image) (p n : Nat) : Nat := if planBeams i = 0 then 0 else (p + n) % planBeams i

/-- The plan beams of the lookahead, in order. -/
def lookahead (s : State) (i : Image) : List Nat :=
  (List.range 8).map (fun k => beamAfter i s.beam.planBeam (if s.beam.idle then k else k + 1))

/-- The accesses of a plan beam with their tasks, aliases resolved. -/
def accessesAt (s : State) (i : Image) (p : Nat) : List (TaskEntry × Access) :=
  (tasksOf i p).flatMap (fun t => (accsOf i t).map (fun a => (t, resolveAccess s i a)))

/-- A plan beam accesses a buoy. -/
def accessedAt (s : State) (i : Image) (id p : Nat) : Bool := (accessesAt s i p).any (fun x => x.2.buoy == id)

/-- The plan beams from now to the next access of a buoy, none where there is none. -/
def nextAccess (s : State) (i : Image) (id : Nat) : Option Nat :=
  (List.range (planBeams i)).find? (fun k => accessedAt s i id (beamAfter i s.beam.planBeam k))

/-- A buoy has an access left in the current step. -/
def accessLeft (s : State) (i : Image) (id : Nat) : Bool :=
  (List.range (planBeams i)).any (fun p => decide (s.beam.planBeam ≤ p) && accessedAt s i id p)

/-- A buoy serves an access of the current plan beam or the lookahead (R362). -/
def inUse (s : State) (i : Image) (id : Nat) : Bool :=
  (s.beam.planBeam :: lookahead s i).any (fun p => accessedAt s i id p)

end Sys2Proof.Machine
end

