-- ==== Sys2Proof/Machine/Votes.lean ====
section
/-! DEFINITION. Halts, votes and collectives as they travel the job group (R73, R74, R75, R79, R84, R118, R123, R466 to R470). -/
namespace Sys2Proof.Machine

/-! ## Halts (R467) -/

/-- A count out of its lower 32 bits: the one nearest above the present count's half range (Table 13.1). -/
def countFrom32 (s : State) (t : Nat) : Nat :=
  let n := s.beam.count.toNat / 2 ^ 32 * 2 ^ 32 + t % 2 ^ 32
  if n + 2 ^ 31 < s.beam.count.toNat then n + 2 ^ 32 else n

/-- A halt of the group is learnt: the earliest halt tick holds, and a tick heard of for the first time is relayed (R467). -/
def takeHalt (link origin t : Nat) (s : State) : State :=
  let u : State := { s with beam := { s.beam with halt := some (earliestHalt s.beam.halt ⟨t, origin⟩) } }
  if s.fab.haltSeen.contains t then u
  else
    let v := sendHalt ((memberLinks s).filter (· != link)) origin t u
    { v with fab := { v.fab with haltSeen := t :: v.fab.haltSeen, halts := satAdd 16 v.fab.halts 1 } }

/-- HALT (R467): a HALT block of the module's own group. -/
def execHalt (link : Fin 48) (job : BitVec 24) (origin tick : Nat) (s : State) : Result :=
  .next (
    match groupImage s with
    | some i => if inJob s && isMember s link.val && job == jobTag i then takeHalt link.val origin (countFrom32 s tick) s else s
    | none => s)

/-! ## Ballots -/

/-- A vote's kind and the fields on which the members must agree (R118, R123, R470). -/
structure Ballot where
  kind : VoteKind
  jobId : W64
  group : W64
  beam : W64
  deriving DecidableEq, Repr

/-- The plan beam that the next beam runs, where its hold admits it (R76). -/
def nextPlan (s : State) (i : Image) : Nat := if s.beam.idle then s.beam.planBeam else beamAfter i s.beam.planBeam 1

/-- The count of the next beam tick. -/
def nextTick (s : State) : Nat := (jobBeam s + 1) * beamTicks (jobRws s)

/-- The low 64 bits of the group digest. -/
def groupWord (i : Image) : W64 := w64 (natAt i.groupDigest 0 8)

/-- The hold ballot of the next beam. -/
def holdBallot (s : State) (i : Image) : Ballot := ⟨.hold, w64 (jobTag i).toNat, 0, w64 (nextPlan s i % 2 ^ 32)⟩

/-- The armed ballot. -/
def armBallot (s : State) (i : Image) : Ballot := ⟨.arm, i.jobId, groupWord i, w64 s.img.armedBeam⟩

/-- The release ballot of a release beam. -/
def releaseBallot (i : Image) (b : Nat) : Ballot := ⟨.release, i.jobId, groupWord i, w64 b⟩

/-- This member's own vote of a kind, once it has been sent. -/
def ownVote (s : State) (i : Image) : VoteKind → Option (Ballot × Bool)
  | .hold => (SMap.find? s.beam.ownVotes (nextTick s)).map (fun ok => (holdBallot s i, ok))
  | .arm => if s.img.voteSent then s.img.ownArm.map (fun ok => (armBallot s i, ok)) else none
  | .release =>
    match s.img.release with
    | some b => if b ≤ jobBeam s + 1 then s.img.ownRelease.map (fun ok => (releaseBallot i b, ok)) else none
    | none => none

/-- A ballot as a control message. -/
def voteMsg (b : Ballot) (ok up : Bool) : CtlMsg :=
  match b.kind with
  | .hold => .holdVote (BitVec.ofNat 24 b.jobId.toNat) (BitVec.ofNat 32 b.beam.toNat) ok up
  | .arm => .armVote b.jobId b.group b.beam ok up
  | .release => .releaseVote b.jobId b.group b.beam ok up

/-- The votes of a kind that children have sent. -/
def votesOf (s : State) (k : VoteKind) : List Vote := s.beam.votes.filter (fun v => v.kind == k)

/-- A child's vote counts as true: it is true, and its fields are the node's own (R470). -/
def agrees (b : Ballot) (v : Vote) : Bool := v.ok && v.jobId == b.jobId && v.group == b.group && v.beam == b.beam

/-- Every child has voted. -/
def allHeard (s : State) (i : Image) (k : VoteKind) : Bool :=
  (treeChildren i).all (fun c => (votesOf s k).any (fun v => v.sender == c))

/-- A node's own vote and its children's, combined as AND (R470). -/
def combineVotes (s : State) (b : Ballot) (ok : Bool) : Bool := ok && (votesOf s b.kind).all (agrees b)

/-- The group's result of a vote is known here. -/
def setResult (k : VoteKind) (ok : Bool) (s : State) : State :=
  match k with
  | .hold => { s with beam := { s.beam with holdResults := SMap.insert s.beam.holdResults (nextTick s) ok } }
  | .arm => { s with img := { s.img with voteResult := some ok } }
  | .release => { s with img := { s.img with releaseResult := some ok } }

/-- The result is kept and goes down to the children. -/
def announceVote (i : Image) (b : Ballot) (ok : Bool) (s : State) : State := sendDown i (voteMsg b ok false) (setResult b.kind ok s)

/-- A node's combined value goes up; at the root it is the result (R470). -/
def passVote (i : Image) (b : Ballot) (ok : Bool) (s : State) : State :=
  match treeParent i with
  | some _ => sendUp i (voteMsg b ok true) s
  | none => announceVote i b ok s

/-- A vote of a kind is passed on once this member's own value and every child's are there. -/
def settleVote (i : Image) (k : VoteKind) (s : State) : State :=
  match ownVote s i k with
  | some (b, ok) => if allHeard s i k then passVote i b (combineVotes s b ok) s else s
  | none => s

/-- A child's vote; a member without a pending release votes false in its turn (R123). -/
def takeVote (i : Image) (link : Nat) (b : Ballot) (ok : Bool) (s : State) : State :=
  match childOn s i link ((votesOf s b.kind).map (·.sender)) with
  | none => s
  | some c =>
    let t : State := { s with beam := { s.beam with votes := ⟨b.kind, c, b.jobId, b.group, b.beam, ok⟩ :: s.beam.votes } }
    if b.kind = .release && t.img.release.isNone then (if allHeard t i .release then passVote i b false t else t)
    else settleVote i b.kind t

/-- The result as it comes down: false where its fields are not the node's own. -/
def takeResult (i : Image) (b : Ballot) (ok : Bool) (s : State) : State :=
  match treeParent i, ownVote s i b.kind with
  | some _, some (own, _) => announceVote i b (ok && own == b) s
  | some _, none => sendDown i (voteMsg b ok false) s
  | none, _ => s

/-- A vote arrives on a member link. -/
def onVote (link : Nat) (b : Ballot) (ok up : Bool) (s : State) : State :=
  match groupImage s with
  | some i =>
    if inJob s && isMember s link then (if up then takeVote i link b ok s else takeResult i b ok s) else s
  | none => s

/-- HOLD_VOTE (R75, R470). -/
def execHoldVote (link : Fin 48) (v : CtlMsg) (s : State) : Result :=
  .next (
    match v with
    | .holdVote job pb ok up => onVote link.val ⟨.hold, w64 job.toNat, 0, w64 pb.toNat⟩ ok up s
    | _ => s)

/-- ARM_VOTE (R118, R470). -/
def execArmVote (link : Fin 48) (v : CtlMsg) (s : State) : Result :=
  .next (
    match v with
    | .armVote job g b ok up => onVote link.val ⟨.arm, job, g, b⟩ ok up s
    | _ => s)

/-- RELEASE_VOTE (R123, R470). -/
def execReleaseVote (link : Fin 48) (v : CtlMsg) (s : State) : Result :=
  .next (
    match v with
    | .releaseVote job g b ok up => onVote link.val ⟨.release, job, g, b⟩ ok up s
    | _ => s)

/-! ## A missing hold vote (R79) -/

/-- The hold vote of the next beam tick has been sent and its result is not known. -/
def holdMissing (s : State) : Bool :=
  (SMap.find? s.beam.ownVotes (nextTick s)).isSome && (SMap.find? s.beam.holdResults (nextTick s)).isNone

/-- HOLD_VOTE_MISSING (R79): the tick that needs the vote is at hand. -/
def execHoldVoteMissing (s : State) : Result :=
  .next (if inJob s && s.beam.atTick && holdMissing s then raiseFault 0x8203 [] (advanceTo (periodOf (jobRws s)) s) else s)

/-! ## Collectives (R470, R505, R506, R513) -/

/-- What a collective's final value decides: 0 the gate, 1 the global clip factor, 2 + l layer l's (R505, R506, R513). -/
def applyCollect (i : Image) (num : Nat) (v : W64) (s : State) : State :=
  match num with
  | 0 => { s with rdx := { s.rdx with gate := some (v != 0) } }
  | 1 => setGlobalClip i (Pair.ofWord v.toNat) s
  | l + 2 => setLayerClip i l (Pair.ofWord v.toNat) s

/-- A collective's message. -/
def collectMsg (i : Image) (num op : Nat) (up : Bool) (v : W64) : CtlMsg := .collect (jobTag i) num op up v

/-- The final value acts here and goes down to the children. -/
def finishCollect (i : Image) (num op : Nat) (v : W64) (s : State) : State :=
  sendDown i (collectMsg i num op false v) (applyCollect i num v (dropCollect num s))

/-- A collective goes on once the own value and every child's are there. -/
def settleCollect (i : Image) (c : Collect) (s : State) : State :=
  match c.own with
  | some v =>
    if (treeChildren i).all (fun r => c.children.any (fun x => x.1 == r)) then
      let r := collectAll c.op v c.children
      match treeParent i with
      | some _ => sendUp i (collectMsg i c.num c.op true r) (dropCollect c.num s)
      | none => finishCollect i c.num c.op r s
    else putCollect c s
  | none => putCollect c s

/-- This member's own value of a collective, at the start of slot 0. -/
def startCollect (i : Image) (num op : Nat) (v : W64) (s : State) : State :=
  match collectOf s.fab num with
  | some c => settleCollect i { c with own := some v, op := op } s
  | none => settleCollect i ⟨num, op, some v, []⟩ s

/-- A child's value of a collective. -/
def takeCollect (i : Image) (link num op : Nat) (v : W64) (s : State) : State :=
  let c := (collectOf s.fab num).getD ⟨num, op, none, []⟩
  match childOn s i link (c.children.map (·.1)) with
  | some r => settleCollect i { c with children := c.children ++ [(r, v)] } s
  | none => s

/-- COLLECT (R470): the operations 1 AND, 2 OR, 3 UMAX, 4 FSUM; the others are reserved. -/
def execCollect (link : Fin 48) (v : CtlMsg) (s : State) : Result :=
  .next (
    match v, groupImage s with
    | .collect job num op up val, some i =>
      if inJob s && isMember s link.val && job == jobTag i && decide (1 ≤ op) && decide (op ≤ 4) then
        if up then takeCollect i link.val num op val s else finishCollect i num op val s
      else s
    | _, _ => s)

end Sys2Proof.Machine
end

