-- ==== Sys2Proof/Machine/Holds.lean ====
section
/-! DEFINITION. Hold points: their inputs, the landing windows they lock, and the orbits that are due (R75, R78, R523, R530, R533,
R565 to R569, R660). -/
namespace Sys2Proof.Machine

/-! ## Orbits that are due (R523) -/

/-- ORBIT_OUT is due in a step that starts with A applied steps: the orbit that has closed and not been formed yet. -/
def orbitOutDue (o : OrbitSec) (last a : Nat) : Option Nat :=
  if o.h ≠ 0 ∧ a ≠ 0 ∧ a % o.h = 0 ∧ last < a / o.h then some (a / o.h) else none

/-- UNPACK and ORBIT_IN are due in every step that starts with A = kH + D. -/
def orbitInDue (o : OrbitSec) (a : Nat) : Option Nat :=
  if o.h ≠ 0 ∧ o.h + o.d ≤ a ∧ (a - o.d) % o.h = 0 then some ((a - o.d) / o.h) else none

/-- Plan beam p, one or two beams ahead, belongs to a step that has not begun. -/
def inNewStep (s : State) (p : Nat) : Bool :=
  if s.beam.idle then s.beam.planBeam == 0 || decide (p < s.beam.planBeam) else decide (p ≤ s.beam.planBeam)

/-- A at the start of the next step: as though the step applies, until the gate is known to skip it (R502). -/
def nextApplied (s : State) : Nat :=
  if s.beam.idle && s.beam.planBeam == 0 then s.rdx.applied
  else s.rdx.applied + (if s.rdx.gate = some true then 0 else 1)

/-- The orbits due in the step of plan beam p: for ORBIT_OUT, and for UNPACK. -/
def dueAt (s : State) (i : Image) (p : Nat) : Option Nat × Option Nat :=
  if inNewStep s p then
    match i.orbit with
    | some o => (orbitOutDue o (max s.orbit.lastOut (s.orbit.dueOut.getD 0)) (nextApplied s), orbitInDue o (nextApplied s))
    | none => (none, none)
  else (s.orbit.dueOut, s.orbit.dueIn)

/-- The first plan beam that carries a flag. -/
def firstFlagged (i : Image) (p bitNo : Nat) : Bool :=
  beamFlag i p bitNo && (List.range p).all (fun q => !beamFlag i q bitNo)

/-- The implicit inputs of the first ORBIT_OUT beam: the anchors of the orbit before are written, and its packets taken (R530). -/
def outReady (o : Orbit) (k : Nat) : Bool := k == 1 || (!o.anchorBusy && decide (k ≤ o.taken + 1))

/-- The implicit hold inputs of a plan beam (R524, R530, R533). -/
def implicitReady (s : State) (i : Image) (p : Nat) : Bool :=
  (!firstFlagged i p 1 || ((dueAt s i p).1.elim true (outReady s.orbit)))
    && (!firstFlagged i p 3 || (dueAt s i p).2.isNone || s.orbit.inReady)

/-! ## Landing windows (R565, R566, R660) -/

/-- A window locks, with its range as it stands. -/
def lockWindow (n : Nat) (s : State) : State :=
  let w : LockedWin :=
    { gen := fillGen s (winBase s.live n) (winSize s.live n), base := winBase s.live n, size := winSize s.live n,
      producer := winProducer s.live n, release := winRelease s.live n, admitted := none, dropped := false }
  { s with host := { s.host with locked := SMap.insert s.host.locked n w } }

/-- An out-of-sequence FILL_GEN is reported once for each value (R565). -/
def noteBadGen (n : Nat) (s : State) : State :=
  let g := fillGen s (winBase s.live n) (winSize s.live n)
  let seen := SMap.get s.host.badGen n []
  if winEnabled s.live n && g != consumedGen s n && g != consumedGen s n + 1 && !seen.contains g then
    record 0x5004 (detail [(1, n), (8, g.toNat)]) { s with host := { s.host with badGen := SMap.set s.host.badGen n (g :: seen) [] } }
  else s

/-- A window as a hold input: a locked one is ready, and one that is ready locks (R565, R566). -/
def windowInput (n : Nat) (s : State) : Bool × State :=
  if (SMap.find? s.host.locked n).isSome then (true, s)
  else if winReady s n then (true, lockWindow n s)
  else (false, noteBadGen n s)

/-! ## Evaluating and admitting a hold (R75, R569) -/

/-- The input references of a plan beam's hold point. -/
def holdRefs (i : Image) (p : Nat) : List Nat :=
  match planRec i p with
  | some r => if r.hold = 0xFFFF then [] else i.plans.holds.getD r.hold []
  | none => []

/-- One input: none, a landing window or a host flag (Table 16.5). -/
def holdInput (ref : Nat) (s : State) : Bool × State :=
  match bits ref 31 28 with
  | 0 => (true, s)
  | 1 => windowInput (bits ref 7 0) s
  | 2 => (s.host.flags.getLsbD (bits ref 7 0), s)
  | _ => (false, s)

/-- Every input is evaluated, so that each ready window locks. -/
def holdInputs (refs : List Nat) (s : State) : Bool × State :=
  refs.foldl (fun r ref => let x := holdInput ref r.2; (r.1 && x.1, x.2)) (true, s)

/-- The hold condition of a plan beam (R75). -/
def evalHold (i : Image) (p : Nat) (s : State) : Bool × State :=
  let r := holdInputs (holdRefs i p) s
  (r.1 && implicitReady s i p, r.2)

/-- The host flags that references name. -/
def flagMask (refs : List Nat) : W64 :=
  refs.foldl (fun m r => if bits r 31 28 = 2 then m ||| (1#64 <<< bits r 7 0) else m) 0

/-- A window that a hold admits keeps its lock, range and release as they stand now (R660). -/
def admitWindow (n : Nat) (s : State) : State :=
  let t := if (SMap.find? s.host.locked n).isNone && winReady s n then lockWindow n s else s
  match SMap.find? t.host.locked n with
  | some w =>
    let u : LockedWin := { w with
      base := winBase t.live n, size := winSize t.live n, producer := winProducer t.live n, release := winRelease t.live n,
      admitted := some (jobStep t) }
    { t with host := { t.host with locked := SMap.insert t.host.locked n u } }
  | none => t

/-- At the tick of a plan beam its hold point admits: host flags clear, windows are admitted (R569, R660). -/
def admitHold (i : Image) (p : Nat) (s : State) : State :=
  let refs := holdRefs i p
  let t : State := { s with host := { s.host with flags := s.host.flags &&& ~~~ (flagMask refs) } }
  (refs.filter (fun r => bits r 31 28 == 1)).foldl (fun s r => admitWindow (bits r 7 0) s) t

/-- CONSUMED_GEN takes FILL_GEN, goes into the record line, and the window unlocks (R567). -/
def consumeWindow (n : Nat) (w : LockedWin) (s : State) : State :=
  let g := fillGen s w.base w.size
  t1Write (recordLine w.base w.size + 8) (leBytes 8 g.toNat) none
    { s with host := { s.host with lwGen := SMap.set s.host.lwGen n g 0, locked := SMap.erase s.host.locked n } }

/-- Windows released at the tick of plan beam p (R567). -/
def releaseWindows (p : Nat) (s : State) : State :=
  (s.host.locked.filter (fun e => e.2.release == p && e.2.admitted == some (jobStep s))).foldl
    (fun s e => consumeWindow e.1 e.2 s) s

end Sys2Proof.Machine
end

