-- ==== Sys2Proof/Machine/Captures.lean ====
section
/-! DEFINITION. Captures: their sets, what they record, and when they are due (R536 to R539, Table 15.5). -/
namespace Sys2Proof.Machine

/-- The layers of which numerics are kept: those of BUCKET entries and of delta buoys, ascending. -/
def numericLayers (i : Image) : List Nat :=
  sortBy (fun a b => decide (a ≤ b))
    ((i.exchange.buckets.map (·.layer)) ++ ((i.buoys.filter (fun e => scalingOf i e == 2)).map (·.layer))).eraseDups

/-- A buoy with SCALING 1 and a scaled format keeps an amax history (R144, R150). -/
def tracksAmax (i : Image) (e : BuoyEntry) : Bool := scalingOf i e == 1

/-- A history as 16 FP32 entries. -/
def historyBytes (h : List W32) : Bytes := (List.range 16).flatMap (fun k => leBytes 4 (h.getD k 0).toNat)

/-- The 72-byte record of a scaled buoy (R539). -/
def buoyNumerics (n : NumState) (e : BuoyEntry) : Bytes := leBytes 4 e.id ++ leBytes 4 (warmupLeft n e.id) ++ historyBytes (amaxHistory n e.id)

/-- The 136-byte record of a layer (R539). -/
def layerNumerics (n : NumState) (l : Nat) : Bytes :=
  leBytes 2 l ++ [0, 0] ++ leBytes 4 (SMap.get n.silent l 0) ++ historyBytes (SMap.get n.delta (2 * l) [])
    ++ historyBytes (SMap.get n.delta (2 * l + 1) [])

/-- The numerics section of a checkpoint (R539). -/
def numericsSection (n : NumState) (i : Image) : Bytes :=
  (i.buoys.filter (tracksAmax i)).flatMap (buoyNumerics n) ++ (numericLayers i).flatMap (layerNumerics n)

/-- A captured object: a buoy by its identifier, or the current half of a shard's pair. -/
structure Captured where
  id : Nat
  shard : Bool
  entry : BuoyEntry
  deriving DecidableEq, Repr

/-- The current half of a pair, under the epoch words of a capture. -/
def currentHalf (i : Image) (epochs : List (Nat × Nat)) (p : EpochPair) : Option BuoyEntry :=
  buoyEntry i (halfOf p (((epochs.find? (fun x => x.1 == p.shard)).map (·.2)).getD 0) true)

/-- The current halves of the pairs this member owns. -/
def ownHalves (i : Image) (epochs : List (Nat × Nat)) : List Captured :=
  i.exchange.pairs.filterMap (fun p =>
    match currentHalf i epochs p with
    | some e => if ownedHere i e then some ⟨p.shard, true, e⟩ else none
    | none => none)

/-- A buoy is a half of a pair. -/
def isHalf (i : Image) (id : Nat) : Bool := i.exchange.pairs.any (fun p => p.half0 == id || p.half1 == id)

/-- The snapshot set: owned buoys with SNAPSHOT_OK outside every pair, then current halves of pairs that carry it (R536). -/
def snapshotSet (i : Image) (epochs : List (Nat × Nat)) : List Captured :=
  (i.buoys.filter (fun e => hasFlag e 11 && ownedHere i e && !isHalf i e.id)).map (fun e => ⟨e.id, false, e⟩)
    ++ (ownHalves i epochs).filter (fun c => hasFlag c.entry 11)

/-- The set of a capture (R536). -/
def captureSet (i : Image) (c : Capture) : List Captured := if c.checkpoint then ownHalves i c.epochs else snapshotSet i c.epochs

/-- The bytes of a set's tiles at pitch L + 64. -/
def setBytes (cs : List Captured) : Nat := (cs.map (fun c => homeBytes c.entry)).foldl (· + ·) 0

/-- The length of a capture in the layout of Table 15.5. -/
def captureBytes (i : Image) (c : Capture) : Nat :=
  256 + 24 * (captureSet i c).length + 16 * c.epochs.length + c.numerics.length + setBytes (captureSet i c)

/-- A capture as the tick of plan beam 0 finds the machine (R539). -/
def newCapture (s : State) (i : Image) (checkpoint : Bool) : Capture :=
  { checkpoint := checkpoint, jobStep := jobStep s, applied := s.rdx.applied, orbitOut := s.orbit.lastOut, orbitApplied := s.orbit.applied,
    anchorEpoch := s.orbit.anchorEpoch,
    epochs := s.rdx.epochs.filterMap (fun e => e.2.map (fun v => (e.1, v))),
    numerics := if checkpoint then numericsSection s.num i else [] }

/-- Bytes that a deep object takes: a home at full size, a snapshot or checkpoint at its content's size. -/
def objBytes (o : DeepObj) : Nat := if o.area < 2 then o.tileCount * tilePitch o.format else o.size

/-- Bytes of the deep tier that no object takes. -/
def deepRoom (d : Deep) : Nat := t3Gib d * 2 ^ 30 - (d.objects.map objBytes).foldl (· + ·) 0

/-- A capture is due in a step by its interval: the first step that starts with an A that is a non-zero multiple of it (R537). -/
def intervalDue (every a : Nat) (skipped : Bool) : Bool := every != 0 && a != 0 && a % every == 0 && !skipped

/-- A snapshot due in this step (R537, R538). -/
def takeSnapshot (i : Image) (o : OrbitSec) (s : State) : State :=
  let due := intervalDue o.snapEvery s.rdx.applied s.rdx.lastSkipped || s.orbit.snapReq
  let t : State := { s with orbit := { s.orbit with snapReq := false } }
  if !due || o.snapBytes = 0 then t
  else if t.orbit.snapHeld then record 0x4F01 [] t
  else { t with orbit := { t.orbit with due := t.orbit.due ++ [newCapture t i false] } }

/-- A checkpoint due in this step (R537, R538). -/
def takeCheckpoint (i : Image) (o : OrbitSec) (s : State) : State :=
  let due := intervalDue o.ckptEvery s.rdx.applied s.rdx.lastSkipped || s.orbit.ckptReq
  let t : State := { s with orbit := { s.orbit with ckptReq := false } }
  if !due || o.ckptMib = 0 then t
  else if t.orbit.ckptWriting || deepRoom t.deep < captureBytes i (newCapture t i true) then record 0x4F02 [] t
  else { t with orbit := { t.orbit with due := t.orbit.due ++ [newCapture t i true] } }

/-- The tick of plan beam 0: which orbits and captures this step serves (R523, R528, R537). -/
def startStep (i : Image) (s : State) : State :=
  match i.orbit with
  | none => { s with orbit := { s.orbit with due := [], dueOut := none, dueIn := none, workDone := 0 } }
  | some o =>
    takeCheckpoint i o (takeSnapshot i o { s with orbit := { s.orbit with
      due := [], workDone := 0, dueOut := orbitOutDue o s.orbit.lastOut s.rdx.applied, dueIn := orbitInDue o s.rdx.applied,
      closeStep := jobStep s - 1 } })

end Sys2Proof.Machine
end

