-- ==== Sys2Proof/Machine/Gate.lean ====
section
/-! DEFINITION. The tick that ends the step-gate beam: epoch words, skips, histories, silent layers, telemetry (R151, R153, R158, R164
to R167, R512 to R518, R535, R622). -/
namespace Sys2Proof.Machine

/-! ## Epoch words (R514, R515, R518) -/

/-- The step applies: the gate's OR is known to be false (R514). -/
def gateApplies (s : State) : Bool := s.rdx.gate == some false

/-- The owned shards whose complete bit is clear (R515). -/
def incomplete (s : State) (i : Image) : List Nat := (ownShards i).filter (fun x => !SMap.get s.rdx.complete x false)

/-- Every epoch word takes its value + 1, but for shards that are not complete (R514, R515). -/
def flipEpochs (bad : List Nat) (m : SMap (Option Nat)) : SMap (Option Nat) :=
  m.map (fun e => (e.1, if bad.contains e.1 then e.2 else e.2.map (· + 1)))

/-- An applying gate: epoch words flip, and the run of skips that it ends is reported (R514, R518). -/
def applyStep (i : Image) (s : State) : State :=
  let run := s.rdx.run
  let t : State := { s with rdx := { s.rdx with
    epochs := flipEpochs (incomplete s i) s.rdx.epochs, applied := s.rdx.applied + 1, run := 0, lastSkipped := false } }
  if run = 0 then t else record 0x0E00 (detail [(4, run)]) t

/-- A skipping gate (R514, R518). -/
def skipStep (s : State) : State :=
  record 0x4E00 (detail [(8, jobStep s), (8, s.rdx.applied)])
    { s with rdx := { s.rdx with skipped := satAdd 32 s.rdx.skipped 1, run := satAdd 32 s.rdx.run 1, lastSkipped := true } }

/-- SKIP_LIMIT. -/
def skipLimit (s : State) : Nat := bits s.live.gatePolicy.toNat 31 0

/-- The faults of a gate: shards not complete where it applied, and the run that reached its limit where it skipped (R515, R518). -/
def gateFaults (applied : Bool) (bad : List Nat) (s : State) : State :=
  if applied then bad.foldl (fun s x => raiseFault 0x8E02 (detail [(2, x)]) s) s
  else if skipLimit s ≠ 0 && s.rdx.run == skipLimit s then raiseFault 0x8E01 [] s
  else s

/-! ## Clip factors of the completed step (Table 14.17) -/

/-- The clip factor and norm of a layer in the step that ends; the norm is +0 where no collective ran. -/
def clipNow (s : State) (i : Image) (l : Nat) : LayerClip :=
  let norm := if i.exchange.clip = 1 then (s.rdx.globalClip.map (·.norm)).getD 0 else ((SMap.get s.rdx.clips l none).map (·.norm)).getD 0
  ⟨BitVec.ofNat 32 (layerClip s i l), norm⟩

/-- The layers with a clip factor. -/
def clipLayers (i : Image) : List Nat := (i.exchange.layers.map (·.layer) ++ layersOf i.exchange).eraseDups

/-- The values that RDX_LAYER_NORM shows from now on. -/
def keepClips (i : Image) (s : State) : State :=
  { s with rdx := { s.rdx with lastClips := (clipLayers i).foldl (fun m l => SMap.set m l (clipNow s i l) {}) s.rdx.lastClips } }

/-! ## Histories and warm-up (R151, R153, R158) -/

/-- A history with one more step's value in front. -/
def pushHistory (x : W32) (h : List W32) : List W32 := (x :: h).take 16

/-- The amax histories shift; a step without a narrowing records 0 (R150, R151). -/
def shiftAmax (i : Image) (n : NumState) : SMap (List W32) :=
  (i.buoys.filter (tracksAmax i)).foldl
    (fun m e => SMap.set m e.id (pushHistory (SMap.get n.stepAmax e.id 0) (SMap.get m e.id [])) []) n.amax

/-- The layers whose delta history of a class shifts: those with a history or a delta of the step. -/
def deltaKeys (n : NumState) (orbit : Bool) : List Nat :=
  ((n.delta.map (·.1) ++ n.deltaNow.map (·.1)).eraseDups).filter (fun k => k % 2 == 0 || orbit)

/-- The delta histories shift: UPDATE_DELTA at every gate, ORBIT_DELTA at the gate of a step that ran ORBIT_OUT (R158). -/
def shiftDelta (orbit : Bool) (n : NumState) : SMap (List W32) :=
  (deltaKeys n orbit).foldl (fun m k => SMap.set m k (pushHistory (SMap.get n.deltaNow k 0) (SMap.get m k [])) []) n.delta

/-- Some buoy is in warm-up. -/
def inWarmup (n : NumState) : Bool := n.warmup.any (fun e => e.2 != 0)

/-- A change of the warm-up counts; event 0x0401 as the last buoy leaves warm-up (R153). -/
def changeWarmup (f : SMap Nat → SMap Nat) (s : State) : State :=
  let t : State := { s with num := { s.num with warmup := f s.num.warmup } }
  if inWarmup s.num && !inWarmup t.num then record 0x0401 [] t else t

/-! ## Silent layers (R164 to R166) -/

/-- The layers that this member counts (R164). -/
def countedLayers (i : Image) : List Nat :=
  if i.exchange.mode = 2 then layersOf i.exchange
  else (layersOf i.exchange).filter (fun l => i.exchange.buckets.any (fun b => b.layer == l && b.root == i.memberRank))

/-- One layer's counter at an applying gate, with its event (R165, R166). -/
def countSilent (s : State) (l : Nat) : State :=
  let old := SMap.get s.num.silent l 0
  let new := if SMap.get s.num.reduced l none = some true then satAdd 32 old 1 else 0
  let t : State := { s with num := { s.num with silent := SMap.set s.num.silent l new 0 } }
  let th := silentThreshold s
  if th ≠ 0 && new != old && new != 0 && new % th == 0 then record 0x4401 (detail [(2, l), (4, new)]) t else t

/-! ## Telemetry (R622, Table 18.2) -/

/-- A telemetry entry out of its first two words' values and its 8-byte fields. -/
def telemEntry (kind step word : Nat) (fields : List Nat) : Bytes :=
  let b := leBytes 1 kind ++ [0, 0, 0] ++ leBytes 4 (step % 2 ^ 32) ++ leBytes 4 word ++ leBytes 4 0 ++ fields.flatMap (leBytes 8)
  b ++ List.replicate (64 - b.length) 0

/-- Overflow replays on the module. -/
def moduleReplays (s : State) : Nat := (s.me.map (fun e => e.2.replayCount)).foldl (· + ·) 0

/-- The entry of KIND 1. -/
def stepEntry (step : Nat) (applied : Bool) (s : State) : Bytes :=
  telemEntry 1 step (b01 applied) [s.rdx.applied, s.beam.idleStep, s.ple.counts.maxBeam, moduleReplays s]

/-- The entry of KIND 2 of a buoy: the increases of its census in the step. -/
def censusEntry (step : Nat) (n : NumState) (id : Nat) : Bytes :=
  let a := SMap.get n.census id {}
  let b := SMap.get n.covered id {}
  telemEntry 2 step id [a.conv - b.conv, a.flush - b.flush, a.subn - b.subn, a.sat - b.sat, a.nonfin - b.nonfin]

/-- The buoys narrowed into during the step, ascending. -/
def narrowedInto (n : NumState) : List Nat := (n.census.filter (fun e => e.2.conv != (SMap.get n.covered e.1 {}).conv)).map (·.1)

/-- The entry of KIND 3 of a layer. -/
def layerTelem (step : Nat) (s : State) (l : Nat) : Bytes := telemEntry 3 step l [layerNorm s l, SMap.get s.num.silent l 0]

/-- The entries of a completed step wait for Keeper (R622). -/
def queueTelemetry (step : Nat) (applied : Bool) (i : Image) (s : State) : State :=
  { s with ev := { s.ev with
    telemStep := step % 2 ^ 32
    telemQueue := s.ev.telemQueue ++ [stepEntry step applied s] ++ (narrowedInto s.num).map (censusEntry step s.num)
                  ++ (countedLayers i).map (layerTelem step s) } }

/-! ## Orbits at the gate (R535, R539) -/

/-- ORBIT_OUT has run; an applying gate of an ORBIT_IN step applies the outer update and begins the anchor rewrite (R535). -/
def gateOrbit (applied : Bool) (s : State) : State :=
  let t : State := { s with orbit := { s.orbit with lastOut := s.orbit.dueOut.getD s.orbit.lastOut } }
  match applied, s.orbit.dueIn with
  | true, some k =>
    record 0x0F01 (detail [(4, k)]) { t with orbit := { t.orbit with
      applied := k, inReady := false, anchorBusy := true, anchorEpoch := jobStep s % 2 ^ 32 } }
  | _, _ => t

/-! ## The gate tick -/

/-- Numerics at the gate: histories, warm-up, the covered census (R151, R153, R158, R167). -/
def gateNumerics (i : Image) (s : State) : State :=
  let orbit := s.orbit.dueOut.isSome
  let t := changeWarmup (fun w => SMap.mapAll w 0 (· - 1)) s
  { t with num := { t.num with
    amax := shiftAmax i t.num, stepAmax := [], delta := shiftDelta orbit t.num, deltaNow := [], stepNow := [],
    covered := t.num.census, coveredStep := some (jobStep s) } }

/-- What the step leaves behind is cleared: step flag, complete bits, combined tiles, pairs, clip factors, the gate's result, the runs of
its flows (R504, R512). -/
def clearStep (s : State) : State :=
  { s with
    num := { s.num with reduced := [], nonFinite := false }
    rdx := { s.rdx with complete := [], combined := [], pairs := [], clips := [], globalClip := none, gate := none, nonfin := [] }
    fab := { s.fab with runs := [], landed := [] }
    beam := { s.beam with idleStep := 0, step := s.beam.step + 1 } }

/-- The tick that ends the step-gate beam (R514). -/
def gateTick (i : Image) (s : State) : State :=
  let applied := gateApplies s
  let bad := incomplete s i
  let step := jobStep s
  let t := keepClips i (if applied then applyStep i s else skipStep s)
  let u := if applied then (countedLayers i).foldl countSilent t else t
  let v := gateOrbit applied (gateNumerics i (queueTelemetry step applied i u))
  gateFaults applied bad (clearStep v)

/-- WARMUP_END (R153): a buoy's last warm-up step ends with the gate of the step-gate beam, once its result is known. -/
def execWarmupEnd (buoy : Nat) (s : State) : Result :=
  .next (
    match s.img.live with
    | some i =>
      if planRuns s && isGate i s.beam.planBeam && s.rdx.gate.isSome && warmupLeft s.num buoy == 1 then
        changeWarmup (fun w => SMap.erase w buoy) s
      else s
    | none => s)

end Sys2Proof.Machine
end

