-- ==== Sys2Proof/Machine/Residence.lean ====
section
/-! DEFINITION. Placement at a beam tick and at a commit: handover, lookahead, residences, replicas, the buoy table (R317, R330, R337,
R343 to R347, R354, R359, R366, R418). -/
namespace Sys2Proof.Machine

/-! ## Handover (R317) -/

/-- The owner words of one logical die take the layout of plan beam p. -/
def ownersOf (i : Image) (p ldie : Nat) (s : State) : State :=
  let t := storeOf s.img.binding ldie
  updTst t (fun x => { x with owner := ownersAt s.nor i ldie t p x.owner }) s

/-- Power of a bank of a tile store. -/
def bankPower (x : TileStore) (b : Nat) : Nat := (ownerOf x b).power

/-- Banks that lose their contents as they go OFF (R329): OFF after the handover and not before. -/
def turnedOff (old : SMap TileStore) (s : State) : List (Nat × Nat) :=
  (List.range 9).flatMap (fun t => ((List.range (bankCount t)).filter (fun b =>
    bankPower (tstOf s t) b == 2 && bankPower (SMap.get old t {}) b != 2)).map (fun b => (t, b)))

/-- The banks of a die that no logical die is bound to take the layout of banks that no entry covers (R315, R317; DEDUCED, log 52). -/
def unboundOwners (i : Image) (p : Nat) (s : State) : State :=
  let bound := (logicalDies i).map (storeOf s.img.binding)
  ((List.range 8).filter (fun d => !bound.contains d)).foldl (fun s d =>
    updTst d (fun x => { x with owner := ownersAt s.nor i 0x100 d p x.owner }) s) s

/-- At the tick at which plan beam p runs, every bank takes its layout in one clock; a bank that goes OFF loses its contents (R317, R329). -/
def handover (i : Image) (p : Nat) (s : State) : State :=
  let t := unboundOwners i p ((logicalDies i).foldl (fun s d => ownersOf i p d s) s)
  (turnedOff s.tst t).foldl (fun s x => loseBank x.1 x.2 s) t

/-! ## Lookahead (R354) -/

/-- PLE_LOOKAHEAD at a tick. -/
def setLookahead (i : Image) (s : State) : State :=
  let l := lookahead s i
  { s with ple := { s.ple with lookFirst := l.headD 0, lookLast := l.getLastD 0 } }

/-! ## Windows (R343 to R345) -/

/-- At the tick of FROM the residence is authoritative; after a fill the mooring before it stays as a retained one, and without one
the residence holds nothing defined (R344, R345). -/
def enterWindow (i : Image) (e : BuoyEntry) (w : Window) (p : Nat) (s : State) : State :=
  let place := residenceAt s.img.binding i e p
  let t := updBuoy e.id (fun b => { b with auth := ⟨place, false⟩, retained := b.auth :: (if w.fill then b.retained else []) }) s
  if w.fill then t
  else match place with
    | .t0 store first count word =>
      loseWords store ((List.range (buoyWords e)).filterMap (fun j => wordPlace s.nor store first count (word + j))) t
    | _ => t

/-- Without a write-back the mooring that the fill left is authoritative again at the tick of TO + 1 (R345). -/
def leaveWindow (e : BuoyEntry) (s : State) : State :=
  updBuoy e.id (fun b =>
    match b.retained.find? (fun m => tierOf m.place != 0) with
    | some m => { b with auth := m, retained := b.retained.erase m }
    | none => { b with auth := ⟨b.home, false⟩, retained := [] }) s

/-- What the tick of plan beam p does for one window of a buoy: it is entered, left, or its fill or write-back becomes due. -/
def windowTick (i : Image) (p : Nat) (e : BuoyEntry) (w : Window) (s : State) : State :=
  let s := if p = w.from_ then enterWindow i e w p s else s
  let s := if p = w.to_ + 1 && !w.wb then leaveWindow e s else s
  let job (fill : Bool) (s : State) : State :=
    { s with ple := { s.ple with windows := s.ple.windows ++ [⟨e.id, fill, p, buoyTiles e⟩] } }
  let s := if w.fill && p + 1 = w.from_ then job true s else s
  if w.wb && p = w.to_ + 1 then job false s else s

/-- Windows at the tick of plan beam p. -/
def windowsTick (i : Image) (p : Nat) (s : State) : State :=
  i.buoys.foldl (fun s e => (windowsOf e).foldl (fun s w => windowTick i p e w s) s)
    { s with ple := { s.ple with windows := [] } }

/-! ## Replicas of shared buoys (R366) -/

/-- The invalidation of what this owner wrote in the plan beam that ended goes to every member. -/
def sendInvalidate (p : Nat) (s : State) : State :=
  if s.ple.sharedWritten.isEmpty then s
  else flood 3 (.invalidate p s.ple.sharedWritten) { s with ple := { s.ple with sharedWritten := [] } }

/-- A replica is discarded: the owner's mooring is authoritative again (R366). -/
def dropReplica (i : Image) (id : Nat) (s : State) : State :=
  match buoyEntry i id with
  | some e =>
    if ownedHere i e then s
    else updBuoy id (fun b => { b with auth := ⟨.owner (ownerModule i e), false⟩, retained := [], move := none,
                                       phase := if b.phase = .moving then .moored else b.phase }) s
  | none => s

/-- Replicas named by the invalidations received since the last tick are discarded (R366). -/
def dropInvalid (i : Image) (s : State) : State :=
  s.ple.invalid.foldl (fun s id => dropReplica i id s) { s with ple := { s.ple with invalid := [] } }

/-- What placement does at every beam tick of the job: freed spaces, replicas, invalidations, the repair clocks of the beam (R359,
R366, R375). -/
def placementTick (i : Image) (ended : Nat) (s : State) : State :=
  sendInvalidate ended (dropInvalid i { s with ple := { s.ple with toFree := [], repairBeam := 0 } })

/-! ## Homes (R337, R418) -/

/-- The area of a deep home (R417). -/
def homeArea (e : BuoyEntry) : Nat := if hasFlag e 13 then 1 else 0

/-- A home object matches a declaration (R418). -/
def adopts (i : Image) (e : BuoyEntry) (o : DeepObj) : Bool :=
  o.valid && o.area == homeArea e && o.jobId == i.jobId && o.buoy == e.id && o.format == e.format && o.size == e.size

/-- The object that a declared buoy adopts: the newest version that matches; `anchor` names the version in force after a restart (R543). -/
def adopted (s : State) (i : Image) (e : BuoyEntry) (anchor : Option Nat) : Option DeepObj :=
  let os := s.deep.objects.filter (fun o => adopts i e o &&
    (match anchor with
     | some ep => homeArea e != 1 || o.epoch == ep
     | none => true))
  os.foldl (fun best o =>
    match best with
    | none => some o
    | some b => if b.created ≤ o.created then some o else some b) none

/-- An empty home of a buoy: every tile of it fails its CRC-32C (R418). -/
def emptyHome (s : State) (i : Image) (e : BuoyEntry) : DeepObj :=
  { num := s.deep.nextObj, area := homeArea e, c0 := s.deep.channels.headD 0, format := e.format, jobId := i.jobId, buoy := e.id,
    epoch := 0, size := e.size, tileCount := buoyTiles e, tiles := [], content := [], created := s.beam.count.toNat, valid := true }

/-- The deep home of a buoy: adopted, or allocated empty. -/
def deepHome (i : Image) (anchor : Option Nat) (e : BuoyEntry) (s : State) : Nat × State :=
  match adopted s i e anchor with
  | some o => (o.num, s)
  | none =>
    let o := emptyHome s i e
    (o.num, { s with deep := { s.deep with objects := s.deep.objects ++ [o], nextObj := o.num + 1 } })

/-- The home of a buoy on this member (R337). -/
def homeOf (i : Image) (anchor : Option Nat) (e : BuoyEntry) (s : State) : Place × State :=
  if !ownedHere i e then (.owner (ownerModule i e), s)
  else if e.initTier = 3 then
    let r := deepHome i anchor e s
    (.deep r.1, r.2)
  else (.t1 e.initOffset, s)

/-- A buoy as a commit declares it: moored in its home, or in its pinned place, whose contents are undefined (R337, R347). -/
def moorBuoy (i : Image) (anchor : Option Nat) (s : State) (e : BuoyEntry) : State :=
  let r := homeOf i anchor e s
  let place := if pinnedT0 e then residenceAt r.2.img.binding i e 0 else r.1
  let t := setBuoy e.id { phase := .moored, auth := ⟨place, false⟩, home := r.1 } r.2
  match pinnedT0 e, place with
  | true, .t0 store first count word =>
    loseWords store ((List.range (buoyWords e)).filterMap (fun j => wordPlace t.nor store first count (word + j))) t
  | _, _ => t

/-- Home objects of areas 0 and 1 that no buoy's home names are freed (R418). -/
def freeHomes (s : State) : State :=
  let kept := s.ple.table.filterMap (fun e => match e.2.home with | .deep n => some n | _ => none)
  { s with deep := { s.deep with objects := s.deep.objects.filter (fun o => decide (2 ≤ o.area) || kept.contains o.num) } }

/-- The buoy table of a full image (R337, R339, R418). -/
def moorAll (i : Image) (anchor : Option Nat) (s : State) : State :=
  freeHomes (i.buoys.foldl (moorBuoy i anchor) { s with ple := { s.ple with
    table := [], repairs := [], toFree := [], sharedWritten := [], invalid := [], windows := [], repairBeam := 0 } })

/-- The deep homes of buoys that are no longer declared are freed (R337). -/
def freeGone (jobId : W64) (gone : List Nat) (d : Deep) : Deep :=
  { d with objects := d.objects.filter (fun o => !(decide (o.area < 2) && o.jobId == jobId && gone.contains o.buoy)) }

/-- The buoy table of a delta image: buoys that it no longer declares lose their homes, and new ones are moored (R337). -/
def moorDelta (old new : Image) (s : State) : State :=
  let gone := (old.buoys.filter (fun e => (buoyEntry new e.id).isNone)).map (·.id)
  let fresh := new.buoys.filter (fun e => (buoyEntry old e.id).isNone)
  fresh.foldl (moorBuoy new none)
    { s with
      ple := { s.ple with table := s.ple.table.filter (fun x => !gone.contains x.1) }
      deep := freeGone old.jobId gone s.deep }

end Sys2Proof.Machine
end

