-- ==== Sys2Proof/Machine/Commit.lean ====
section
/-! DEFINITION. The commit tick and the release tick (R80, R84, R85, R93, R115, R120 to R123, R153, R156, R177, R317, R500, R541, R543). -/
namespace Sys2Proof.Machine

/-! ## Numerics at a commit (R153, R156) -/

/-- WARMUP_STEPS of the live set. -/
def warmupSteps (s : State) : Nat := bits s.live.numPolicy.toNat 47 32

/-- Buoys enter warm-up for a cause; event 0x0400 where there are any (R153). -/
def enterWarmup (cause : Nat) (ids : List Nat) (s : State) : State :=
  let t : State := { s with num := { s.num with warmup := ids.foldl (fun m id => SMap.set m id (warmupSteps s) 0) s.num.warmup } }
  if ids.isEmpty then t else record 0x0400 (detail [(1, cause), (4, ids.length)]) t

/-- The tracked buoys of an image. -/
def trackedIds (i : Image) : List Nat := (i.buoys.filter (tracksAmax i)).map (·.id)

/-- 16 FP32 entries of a section; a history of zeros is an empty one. -/
def readHistory (b : Bytes) (o : Nat) : List W32 :=
  let h := (List.range 16).map (fun k => BitVec.ofNat 32 (natAt b (o + 4 * k) 4))
  if h.all (· == 0) then [] else h

/-- The numerics section has the length that the image's buoys and layers give it. -/
def sectionFits (i : Image) (b : Bytes) : Bool := b.length == 72 * (trackedIds i).length + 136 * (numericLayers i).length

/-- A buoy's record taken from a section. -/
def loadBuoyNumerics (b : Bytes) (n : NumState) (k : Nat) : NumState :=
  let id := natAt b (72 * k) 4
  { n with amax := SMap.set n.amax id (readHistory b (72 * k + 8)) [], warmup := SMap.set n.warmup id (natAt b (72 * k + 4) 4) 0 }

/-- A layer's record taken from a section, after m buoy records. -/
def loadLayerNumerics (b : Bytes) (m : Nat) (n : NumState) (k : Nat) : NumState :=
  let o := 72 * m + 136 * k
  let l := natAt b o 2
  { n with
    silent := SMap.set n.silent l (natAt b (o + 4) 4) 0
    delta := SMap.set (SMap.set n.delta (2 * l) (readHistory b (o + 8)) []) (2 * l + 1) (readHistory b (o + 72)) [] }

/-- The records of a section (R539). -/
def loadNumerics (i : Image) (b : Bytes) (n : NumState) : NumState :=
  let m := (trackedIds i).length
  (List.range (numericLayers i).length).foldl (loadLayerNumerics b m) ((List.range m).foldl (loadBuoyNumerics b) n)

/-- The buoys of which a section holds a record. -/
def recordedIds (i : Image) (b : Bytes) : List Nat := (List.range (trackedIds i).length).map (fun k => natAt b (72 * k) 4)

/-- Numerics as a full image finds them: empty, but for what RDX_CENSUS_SEL and RDX_SILENT hold (R150, R162, R500). -/
def freshNumerics (n : NumState) : NumState := { latch := n.latch, sel := n.sel, silentSel := n.silentSel }

/-- Numerics at a restart: the section where it is valid, warm-up for every buoy without a history; 0x4400 without one (R153, R156). -/
def restartNumerics (i : Image) (r : Restored) (s : State) : State :=
  let base : State := { s with num := { s.num with stepBase := r.jobStep } }
  match r.numerics with
  | some b =>
    if sectionFits i b then
      enterWarmup 3 ((trackedIds i).filter (fun x => !(recordedIds i b).contains x)) { base with num := loadNumerics i b base.num }
    else enterWarmup 3 (trackedIds i) (record 0x4400 [] base)
  | none => enterWarmup 3 (trackedIds i) (record 0x4400 [] base)

/-- Numerics at the commit of a full image. -/
def commitNumerics (i : Image) (r : Option Restored) (s : State) : State :=
  let t : State := { s with num := freshNumerics s.num }
  match r with
  | some r => restartNumerics i r t
  | none => enterWarmup 1 (trackedIds i) t

/-! ## Exchange and orbits at a commit (R500, R541, R543) -/

/-- The shards of which this member holds an epoch word: it owns their halves, or its plans name an alias (R500). -/
def heldShards (i : Image) : List Nat :=
  (i.exchange.pairs.filter (fun p =>
    (ownShards i).contains p.shard || i.plans.accs.any (fun a => a.buoy == p.cur || a.buoy == p.next))).map (·.shard)

/-- The epoch words at a commit: 0, or as the checkpoint recorded them. -/
def commitEpochs (i : Image) (r : Option Restored) : SMap (Option Nat) :=
  (heldShards i).foldl (fun m x =>
    SMap.set m x (some ((r.bind (fun r => (r.epochs.find? (fun e => e.1 == x)).map (·.2))).getD 0)) none) []

/-- The exchange state at the commit of a full image: its latches stay. -/
def commitRdx (i : Image) (r : Option Restored) (x : Rdx) : Rdx :=
  { applied := (r.map (·.applied)).getD 0, epochs := commitEpochs i r, epochSel := x.epochSel, epochLatch := x.epochLatch,
    layerSel := x.layerSel, normLatch := x.normLatch, lrLatch := x.lrLatch }

/-- Orbits at the commit of a full image: a checkpoint in writing is abandoned, the hold buffer and the requests stay (R541, R543). -/
def commitOrbit (r : Option Restored) (o : Orbit) : Orbit :=
  { out := (r.map (·.orbitOut)).getD 0, lastOut := (r.map (·.orbitOut)).getD 0, applied := (r.map (·.orbitApplied)).getD 0,
    anchorEpoch := (r.map (·.anchorEpoch)).getD 0, taken := if r.isSome then o.taken else 0,
    snapHeld := o.snapHeld, snapRelease := o.snapRelease, ckptReq := o.ckptReq, snapReq := o.snapReq, ckptLast := o.ckptLast,
    restoreStep := o.restoreStep }

/-! ## Engines at a commit (R177, R286; counters of each block) -/

/-- The accumulator slots of every matrix engine are undefined, and its counters zero (R177). -/
def commitMe (gen : Nat) (m : SMap MeUnit) : SMap MeUnit :=
  (List.range 16).foldl (fun m u => SMap.modify m u {} (fun x => { MeUnit.cleared x with slots := [], undefined := gen })) m

/-- A sequence engine's counters zero; an attention engine's contexts are undefined and closed (R286). -/
def SeqUnit.committed (u : SeqUnit) : SeqUnit := { SeqUnit.cleared u with ctx := [] }

/-- Every engine block and every tile store at the commit of a full image. -/
def commitEngines (s : State) : State :=
  { s with
    freeCount := s.freeCount + 1
    me := commitMe (s.freeCount + 1) s.me
    ve := SMap.mapAll s.ve {} VeUnit.cleared
    ae := SMap.mapAll s.ae {} SeqUnit.committed
    gse := SMap.mapAll s.gse {} SeqUnit.committed
    lye := SMap.mapAll s.lye {} SeqUnit.committed
    tst := SMap.mapAll s.tst {} TileStore.cleared
    ple := { s.ple with counts := {} }
    host := { s.host with crcFail := 0, records := 0, fromHost := 0, toHost := 0 } }

/-! ## The commit tick (R85, R121) -/

/-- The shadows become live, the areas swap, the digest and the commit tick are recorded; the staged set is gone (R93, R115, R121). -/
def takeStaged (i : Image) (s : State) : State :=
  let digest :=
    match s.img.kind with
    | .full => s.img.checkedDigest
    | .delta => sha512 (s.img.liveDigest ++ s.img.checkedDigest)
    | _ => s.img.liveDigest
  emptyStage { s with
    live := s.shadow
    img := { s.img with
      live := some i, liveBytes := if s.img.kind = .regs then s.img.liveBytes else s.img.staging, liveDigest := digest,
      binding := if s.img.kind = .full then s.img.checkedBinding else s.img.binding, committed := s.beam.count.toNat } }

/-- Event 0x0302. -/
def noteCommit (s : State) : State := recordImg 0x0302 (detail [(8, s.img.committed), (8, natAt s.img.liveDigest 0 8)]) s

/-- The fabric's traffic of an earlier job is gone. -/
def commitFab (f : Fab) : Fab :=
  { f with ownerAt := [], requests := [], inbox := [], relay := [], landing := [], landed := [], received := [], arrived := [], outgoing := [],
           runs := [], sent := [], haltSeen := [], collects := [], assembling := [] }

/-- The position of the first beam of a job (R85). -/
def firstBeam (b : Beam) : Beam :=
  { b with step := 0, planBeam := 0, idle := false, idleTotal := 0, idleRun := 0, idleStep := 0, halt := none, stopped := false, ownFault := 0,
           ownVotes := [], holdResults := [], votes := [], started := [], done := [] }

/-- The commit of a full image (R85, R120, R121): the module enters RUNNING. -/
def commitFull (i : Image) (s : State) : State :=
  let r := s.orbit.restored
  let t := setState .running (noteCommit (takeStaged i s))
  let u := commitEngines { t with
    beam := firstBeam t.beam, fab := commitFab t.fab, rdx := commitRdx i r t.rdx, orbit := commitOrbit r t.orbit }
  let v := moorAll i (r.map (·.anchorEpoch)) u
  commitNumerics i r v

/-- The buoys that a delta gives SCALING 1, or declares anew (R153). -/
def newlyScaled (old new : Image) : List Nat :=
  (trackedIds new).filter (fun id => !(trackedIds old).contains id)

/-- The commit of a delta image or a register delta (R120, R121): the plan's position stays. -/
def commitDelta (i : Image) (s : State) : State :=
  let old := s.img.live.getD i
  let fresh := newlyScaled old i
  let t := noteCommit (takeStaged i s)
  let u : State := { t with num := { t.num with amax := fresh.foldl SMap.erase t.num.amax } }
  enterWarmup 2 fresh (moorDelta old i u)

/-- A plan-changing delta: it carries PLANS, SLOTS, BUOYS, NUMERIC, UPDATE or EXCHANGE (R120). -/
def planChanging (s : State) (i : Image) : Bool :=
  s.img.kind == .delta && i.carried.any (fun t => decide (5 ≤ t) && decide (t ≤ 10))

/-- The commit tick of the armed set has come (R82, R120). -/
def commitDue (s : State) : Bool :=
  s.img.stage == .armed && decide (s.img.armedBeam * beamTicks (jobRws s) ≤ s.beam.count.toNat)

/-- Every member was armed at the vote (R84). -/
def commitAgreed (s : State) : Bool := s.img.voteResult == some true

/-- An armed set returns to CHECKED, a full image's arm to READY (R84, R119). -/
def disarm (s : State) : State :=
  let t : State := { s with
    img := { s.img with stage := .checked, ownArm := none, voteSent := false, voteResult := none }
    beam := { s.beam with votes := s.beam.votes.filter (fun v => v.kind != .arm) } }
  if s.glb.state = .armed then enterReady (leaveJob t) else t

/-- A withheld commit (R84). -/
def withholdCommit (s : State) : State := disarm (record 0x4202 [] s)

/-! ## Release (R123) -/

/-- The release tick or a later one has come. -/
def releaseDue (s : State) : Bool :=
  match s.img.release with
  | some b => decide (b * beamTicks s.live ≤ s.beam.count.toNat)
  | none => false

/-- A withheld release (R123). -/
def withholdRelease (s : State) : State :=
  recordImg 0x4308 [] { s with
    img := { s.img with release := none, ownRelease := none, releaseResult := none }
    beam := { s.beam with votes := s.beam.votes.filter (fun v => v.kind != .release) } }

/-- The release takes effect: the module enters READY, and the live image stays (R123). -/
def releaseJob (s : State) : State := recordImg 0x0304 (detail [(8, s.beam.count.toNat)]) (enterReady (leaveJob s))

end Sys2Proof.Machine
end

