-- ==== Sys2Proof/Machine/LocalMem.lean ====
section
/-! DEFINITION. The LPDDR5X controllers: eclipse work, refresh, failures, write-combining (R388, R390, R399, R401 to R406). -/
namespace Sys2Proof.Machine

/-! ## Data groups (R383, R390) -/

/-- The data group of a unit within its package. -/
def groupOfUnit (u : Nat) : Nat := u % 4

/-- The units of U that lie in a data group. -/
def dataGroup (l : Lpd) (p g : Nat) : List Nat := l.units.filter (fun u => packageOf u == p && groupOfUnit u == g)

/-- A data group fails: its units become failed; while ARMED or RUNNING that is a fault (R390). -/
def failGroup (p g : Nat) (s : State) : State :=
  let us := dataGroup s.lpd p g
  if us.isEmpty then s
  else
    let t : State := { s with lpd := failUnits us s.lpd }
    if inJob s then raiseFault 0x8B01 (detail [(1, p), (1, g)]) t else t

/-- DATA_GROUP_FAILURE (R390). -/
def execDataGroupFailure (package : Fin 16) (group : Fin 4) (s : State) : Result := .next (failGroup package.val group.val s)

/-! ## Refresh (R403) -/

/-- The units of U in a package. -/
def packageUnits (l : Lpd) (p : Nat) : List Nat := l.units.filter (fun u => packageOf u == p)

/-- A unit's information changed. -/
def updInfo (us : List Nat) (f : UnitInfo → UnitInfo) (l : Lpd) : Lpd :=
  { l with info := us.foldl (fun m u => SMap.modify m u {} f) l.info }

/-- A package reports a refresh rate, in quarters of the base rate, or its temperature limit (R403). -/
def reportRefresh (p rate : Nat) (hot : Bool) (s : State) : State :=
  let t : State := { s with lpd := updInfo (packageUnits s.lpd p) (fun i => { i with refresh := rate % 256 }) s.lpd }
  if (decide (16 < rate) || hot) && inJob s then raiseFault 0x8B02 (detail [(1, p)]) t
  else if decide (16 ≤ rate) || hot then record 0x4B01 (detail [(1, p), (1, rate)]) t
  else t

/-- REFRESH_RATE_REPORT (R403). -/
def execRefreshRateReport (package : Fin 16) (rate : Nat) (overLimit : Bool) (s : State) : Result :=
  .next (reportRefresh package.val rate overLimit s)

/-- PER_BANK_REFRESH (R403): a refresh keeps the contents of its bank, and no register counts it. -/
def execPerBankRefresh (_package : Fin 16) (s : State) : Result := .next s

/-! ## Write-combining buffers (R399) -/

/-- WCB_WRITE_OUT (R399). -/
def execWcbWriteOut (package : Fin 16) (s : State) : Result := .next { s with lpd := writeOutOldest s.lpd package.val }

/-! ## Eclipse work (R401, R404, R405) -/

/-- The packages whose controllers work: not those of a fully fenced compute die (R406). -/
def workingPackages (s : State) : List Nat :=
  (List.range 16).filter (fun p => !s.glb.fullFenced.getLsbD (dieOfPackage p))

/-- One package's recalibration unit: the data group whose turn it is, or a miss; event 0x4B00 at the 32nd in a row (R405). -/
def recalibrate (missed : List (Nat × Nat)) (s : State) (p : Nat) : State :=
  let g := SMap.get s.lpd.turn p 0
  let k := 4 * p + g
  if missed.any (fun x => x.1 == p) then
    let n := satAdd 16 (SMap.get s.lpd.missed k 0) 1
    let t : State := { s with lpd := { s.lpd with missed := SMap.set s.lpd.missed k n 0, maxMissed := max s.lpd.maxMissed n } }
    if n = 32 then record 0x4B00 (detail [(1, p), (1, g)]) t else t
  else { s with lpd := { s.lpd with missed := SMap.erase s.lpd.missed k, turn := SMap.set s.lpd.turn p ((g + 1) % 4) 0 } }

/-- The eye widths that recalibration measured. -/
def noteEyes (eyes : List (Nat × Nat × Nat)) (l : Lpd) : Lpd :=
  eyes.foldl (fun l e => updInfo ([e.1].filter l.units.contains) (fun i => { i with readEye := e.2.1 % 256, writeEye := e.2.2 % 256 }) l) l

/-- The flush and its time, and the time of the whole work (Table 11.11). -/
def flushEclipse (r : EclipseReport) (l : Lpd) : Lpd :=
  { flushAll l with maxFlush := max l.maxFlush (min r.flush 0xFFFF), maxWork := max l.maxWork (min r.work 0xFFFF) }

/-- The states in which the controllers do eclipse work (R404, R406). -/
def refreshing (m : ModState) : Bool := m == .ready || m == .armed || m == .running || m == .halted || m == .recovery

/-- The eclipse work of every controller (R404). -/
def eclipseWork (r : EclipseReport) (s : State) : State :=
  if refreshing s.glb.state then
    (workingPackages s).foldl (recalibrate r.missed) { s with lpd := noteEyes r.eyes (flushEclipse r s.lpd) }
  else s

end Sys2Proof.Machine
end

