-- ==== Sys2Proof/Machine/Beams.lean ====
section
/-! DEFINITION. The beam tick, the eclipse start and the beam overrun (R62, R67, R72, R75 to R80, R84, R118, R123, R401, R404, R525). -/
namespace Sys2Proof.Machine

/-! ## Overruns (R72) -/

/-- A logical engine's unit runs a task. -/
def unitRun (s : State) (e : EngineEntry) : Option RunTask :=
  let d := engineDie s e
  match e.kind with
  | 1 => (SMap.get s.me (2 * d + e.unit) {}).run
  | 2 => (SMap.get s.ve (2 * d + e.unit) {}).run
  | 3 => (SMap.get s.ae d {}).run
  | 4 => (SMap.get s.gse d {}).run
  | 5 => (SMap.get s.lye d {}).run
  | 9 => (SMap.get s.host.ce e.unit {}).run
  | _ => none

/-- A logical engine's unit abandons its task. -/
def abandonUnit (e : EngineEntry) (s : State) : State :=
  let d := engineDie s e
  match e.kind with
  | 1 => updMeUnit (2 * d + e.unit) MeUnit.abandoned s
  | 2 => updVeUnit (2 * d + e.unit) VeUnit.abandoned s
  | 3 => updAe d SeqUnit.abandoned s
  | 4 => updGse d SeqUnit.abandoned s
  | 5 => updLye d SeqUnit.abandoned s
  | 9 => stopCopy e.unit s
  | _ => s

/-- A task that still runs at the tick is aborted, with fault 0x8200 (R72). -/
def overrun (i : Image) (le : Nat) (s : State) : State :=
  match i.engines[le]? with
  | none => s
  | some e =>
    match unitRun s e with
    | none => s
    | some r => raiseFault 0x8200 (detail [(2, codeOfLe s le), (2, r.task.idx), (4, r.planBeam)]) (abandonUnit e s)

/-- Engines overrun only while no halt has stopped them, or at the tick of another overrun (R73). -/
def mayOverrun (s : State) : Bool := s.glb.state == .running && (!s.beam.stopped || s.beam.ownFault == 0x8200)

/-- Every task that still runs at the tick. -/
def overrunAll (i : Image) (s : State) : State :=
  if mayOverrun s then (List.range i.engines.length).foldl (fun s le => overrun i le s) s else s

/-- BEAM_OVERRUN (R72): the next beam tick is at hand. -/
def execBeamOverrun (le : Nat) (s : State) : Result :=
  .next (
    match s.img.live with
    | some i => if mayOverrun s then overrun i le (if s.beam.atTick then advanceTo (periodOf s.live) s else s) else s
    | none => s)

/-! ## The halt tick (R35 to R37, R74, R624) -/

/-- The halt tick has come. -/
def haltDue (s : State) : Option PendingHalt := s.beam.halt.filter (fun h => decide (h.tick ≤ s.beam.count.toNat))

/-- The module leaves its job at the halt tick: for HOST_LOST where the host was lost, else for HALTED, and on to RECOVERY where
that was asked for (R36, R37, R74). -/
def haltNow (h : PendingHalt) (s : State) : State :=
  match s.glb.hostLostAtHalt with
  | some _ => enterHostLost { s with glb := { s.glb with hostLostAtHalt := none, recoveryAtHalt := false } }
  | none =>
    let t := enterHalted h { s with glb := { s.glb with recoveryAtHalt := false } }
    if s.glb.recoveryAtHalt then enterRecoveryFor .service t else t

/-! ## Selecting the beam (R76 to R78, R80) -/

/-- The plan beam in hand runs at this tick: its hold result is true, or no vote was due for it (R76). -/
def holdAllows (s : State) : Bool :=
  match SMap.find? s.beam.holdResults s.beam.count.toNat with
  | some ok => ok
  | none => (SMap.find? s.beam.ownVotes s.beam.count.toNat).isNone

/-- Votes and results of ticks up to this one are spent. -/
def spendVotes (b : Beam) (now : Nat) : Beam :=
  { b with ownVotes := b.ownVotes.filter (fun e => decide (now < e.1)), holdResults := b.holdResults.filter (fun e => decide (now < e.1)),
           votes := b.votes.filter (fun v => v.kind != .hold) }

/-- LIMIT of BEAM_HOLD_LIMIT. -/
def holdLimit (s : State) : Nat := bits s.live.holdLimit.toNat 31 0

/-- The hold point of a plan beam. -/
def holdPoint (i : Image) (p : Nat) : Nat := ((planRec i p).map (·.hold)).getD 0xFFFF

/-- An idle beam that waits for plan beam p (R77, R78). -/
def idleBeam (i : Image) (p : Nat) (s : State) : State :=
  let run := satAdd 32 s.beam.idleRun 1
  let t : State := { s with beam := { s.beam with
    planBeam := p, idle := true, idleRun := run, idleTotal := satAdd 32 s.beam.idleTotal 1, idleStep := s.beam.idleStep + 1 } }
  let u := if run = 1 then record 0x0201 (detail [(4, p), (2, holdPoint i p)]) t else t
  if holdLimit s ≠ 0 && run % holdLimit s == 0 then record 0x4201 [] u else u

/-- The collectives whose plan beam this is, at the start of slot 0 (R505, R506, R513). -/
def startCollectives (i : Image) (p : Nat) (s : State) : State :=
  let x := i.exchange
  let s := if isGate i p then startCollect i 0 2 (if s.num.nonFinite then 1 else 0) s else s
  let s :=
    if x.clip = 1 && x.normBeam == p then
      if x.mode = 2 then setGlobalClip i (allPairs s i) s else startCollect i 1 4 (w64 (Pair.word (allPairs s i))) s
    else s
  if x.clip = 0 then
    (x.layers.filter (fun l => l.clipBeam == p && !zero32 l.tau.toNat)).foldl (fun s l =>
      if x.mode = 2 then setLayerClip i l.layer (layerPair s l.layer) s
      else startCollect i (2 + l.layer) 4 (w64 (Pair.word (layerPair s l.layer))) s) s
  else s

/-- A beam that runs plan beam p: its hold is admitted, windows and banks change hands, a new step finds what is due, and its
collectives start (R317, R344, R523, R567, R569). -/
def runBeam (i : Image) (p : Nat) (s : State) : State :=
  let s : State := { s with beam := { s.beam with planBeam := p, idle := false, idleRun := 0 } }
  let s := if p = 0 then startStep i s else s
  let s := releaseWindows p (admitHold i p s)
  startCollectives i p (windowsTick i p (handover i p s))

/-- This member's votes are sent at the start of slot 0 (R75, R84, R119, R123). -/
def sendVotes (i : Image) (s : State) : State :=
  let s := settleVote i .hold s
  let s := if s.img.stage = .armed && s.img.ownArm.isSome && !s.img.voteSent then
      settleVote i .arm { s with img := { s.img with voteSent := true } }
    else s
  match s.img.release with
  | some b => if b = jobBeam s + 1 then settleVote i .release s else s
  | none => s

/-- What belongs to one beam is empty at its tick: its tasks, the runs received, the die-to-die replays (R19, R65, R99). -/
def clearBeam (s : State) : State :=
  { s with
    beam := { s.beam with started := [], done := [], inEclipse := false, atTick := true }
    fab := { s.fab with received := [], arrived := [] }
    glb := { s.glb with replays := [] } }

/-! ## The tick of a job's beam (R62) -/

/-- The beam that ends at this tick ran the step gate (R514). -/
def gateEnds (s : State) (i : Image) : Bool := !s.beam.idle && isGate i s.beam.planBeam

/-- The next beam starts: it runs its plan beam or idles; a plan-changing delta commits where plan beam 0 runs, another set at its
tick, and a commit discards the pending hold result (R76, R80, R120). -/
def nextBeam (i : Image) (s : State) : State :=
  let p := nextPlan s i
  let due := commitDue s && commitAgreed s
  let change := planChanging s ((s.img.checked).getD i)
  let commits := due && (!change || (p == 0 && holdAllows s))
  let runs := holdAllows s || commits
  let t := if commits then (match s.img.checked with | some c => commitDelta c s | none => s) else s
  let j := t.img.live.getD i
  let u : State := { t with beam := spendVotes t.beam t.beam.count.toNat }
  let v := if runs then runBeam j p u else idleBeam j p u
  sendVotes j (setLookahead j v)

/-- A tick of a RUNNING module that does not halt: overruns, the gate, a release or a withheld one, a withheld commit, and the next
beam (R72, R123, R514). -/
def jobTick (i : Image) (s : State) : State :=
  let ended := s.beam.planBeam
  let gate := gateEnds s i
  let s := overrunAll i s
  let s := if gate then gateTick i s else s
  if releaseDue s && s.img.releaseResult == some true && gate then releaseJob s
  else
    let s := if releaseDue s && s.img.releaseResult != some true then withholdRelease s else s
    let s := if commitDue s && !commitAgreed s then withholdCommit s else s
    nextBeam i (placementTick i ended (clearBeam s))

/-- The first beam of a job, at the commit tick of a full image (R80, R85). -/
def firstTick (i : Image) (s : State) : State :=
  let t := commitFull i s
  setLookahead i (runBeam i 0 (clearBeam t))

/-- A tick of an ARMED module that does not halt (R84, R85). -/
def armedTick (i : Image) (s : State) : State :=
  if commitDue s then (if commitAgreed s then firstTick i s else withholdCommit s)
  else sendVotes i (clearBeam s)

/-- BEAM_TICK (R62): the base tick at hand is a multiple of N, and its beam has not begun. -/
def takeBeamTick (s : State) : State :=
  match haltDue s with
  | some h => if inJob s then haltNow h s else clearBeam s
  | none =>
    match s.glb.state, s.img.live, s.img.checked with
    | .running, some i, _ => jobTick i s
    | .armed, _, some i => armedTick i s
    | _, _, _ => clearBeam s

/-- BEAM_TICK (R62). -/
def execBeamTick (s : State) : Result :=
  .next (
    if s.beam.countValid && s.beam.count.toNat % beamTicks (jobRws s) == 0 && !s.beam.atTick then takeBeamTick s else s)

/-! ## The eclipse (R67, R75, R84, R118, R346, R525) -/

/-- The first task of the plan beam that has not started, in plan order (R67); a beam whose flag is not due has none (R524). -/
def unstarted (s : State) (i : Image) : Option TaskEntry :=
  if beamDue s i s.beam.planBeam then
    (tasksOf i s.beam.planBeam).find? (fun t => !s.beam.started.contains (t.le, t.idx))
  else none

/-- An unstarted task at offset P − E is a fault (R67). -/
def checkUnstarted (i : Image) (s : State) : State :=
  match unstarted s i with
  | some t => raiseFault 0x8201 (detail [(2, codeOfLe s t.le), (2, t.idx)]) s
  | none => s

/-- Tasks of a flagged beam that is not due have completed by now (R524). -/
def passUndue (i : Image) (s : State) : State :=
  if beamDue s i s.beam.planBeam then s
  else ((tasksOf i s.beam.planBeam).filter (fun t => !s.beam.started.contains (t.le, t.idx))).foldl (fun s t => passTask t s) s

/-- A fill or write-back that is not complete is a fault (R346). -/
def checkWindows (s : State) : State :=
  (s.ple.windows.filter (fun j => j.planBeam == s.beam.planBeam && decide (0 < j.left))).foldl
    (fun s j => raiseFault 0x8A02 (detail [(4, j.buoy), (4, j.planBeam), (4, j.left)]) s) s

/-- The flag bits of PACK, UNPACK and CAPTURE beams. -/
def workFlags : List Nat := [2, 3, 5]

/-- The last beam of a flag ends with its work undone: fault 0x8F00 (R525). -/
def workLate (s : State) (i : Image) (b : Nat) : Bool :=
  beamFlag i s.beam.planBeam b && beamDue s i s.beam.planBeam && !s.orbit.workDone.testBit b
    && (List.range (planBeams i)).all (fun q => decide (q ≤ s.beam.planBeam) || !beamFlag i q b)

/-- Work that is late at this eclipse. -/
def checkWork (i : Image) (s : State) : State :=
  (workFlags.filter (workLate s i)).foldl (fun s b => raiseFault 0x8F00 (detail [(1, b), (4, s.beam.planBeam)]) s) s

/-- The checks of a beam that runs a plan beam. -/
def eclipseChecks (i : Image) (s : State) : State :=
  if planRuns s then checkWork i (checkWindows (checkUnstarted i (passUndue i s))) else s

/-- The plan beam that would run two beams on (R75, R76). -/
def planAhead (s : State) (i : Image) : Nat :=
  let p := nextPlan s i
  let runs :=
    match SMap.find? s.beam.holdResults (nextTick s) with
    | some ok => ok
    | none => (SMap.find? s.beam.ownVotes (nextTick s)).isNone
  if runs then beamAfter i p 1 else p

/-- The hold vote of the beam two beams on is sampled (R75). -/
def sampleHold (i : Image) (s : State) : State :=
  let r := evalHold i (planAhead s i) s
  { r.2 with beam := { r.2.beam with ownVotes := SMap.insert r.2.beam.ownVotes (nextTick r.2 + beamTicks (jobRws r.2)) r.1 } }

/-- The staged image's digest as it is now; a register delta has no image bytes to change. -/
def stagedDigest (s : State) : Bytes :=
  if s.img.kind = .regs then s.img.checkedDigest else sha512 (s.img.staging.take (s.img.staging.length - 4096))

/-- The armed vote is sampled in beam B_c − 2: false, with event 0x4305, where the staged image has changed (R84, R118). -/
def sampleArm (s : State) : State :=
  if s.img.stage = .armed && s.img.ownArm.isNone && s.img.armedBeam == jobBeam s + 2 then
    let ok := stagedDigest s == s.img.checkedDigest
    let t := if ok then s else recordImg 0x4305 [] s
    { t with img := { t.img with ownArm := some ok } }
  else s

/-- The release vote is sampled in beam B_r − 2 (R123). -/
def sampleRelease (s : State) : State :=
  if s.img.release = some (jobBeam s + 2) then { s with img := { s.img with ownRelease := some true } } else s

/-- The votes of offset P − E. -/
def sampleVotes (s : State) : State :=
  let s := sampleRelease (sampleArm s)
  match s.glb.state, s.img.live with
  | .running, some i => sampleHold i s
  | _, _ => s

/-- What happens at offset P − E of every beam. -/
def takeEclipse (r : EclipseReport) (s : State) : State :=
  let t : State := { s with beam := { s.beam with inEclipse := true } }
  let u := match t.img.live with
    | some i => eclipseChecks i t
    | none => t
  eclipseWork r (sampleVotes u)

/-- ECLIPSE_START (R67): the clock reaches offset P − E of the beam. -/
def execEclipseStart (r : EclipseReport) (s : State) : Result :=
  .next (
    if s.beam.inEclipse || s.glb.state = .off then s
    else takeEclipse r (advanceTo (eclipseStart (jobRws s)) s))

/-! ## The live area (R124) -/

/-- LIVE_AREA_ERROR (R124). -/
def execLiveAreaError (s : State) : Result := .next (if s.img.live.isSome then raiseFault 0x8300 [] s else s)

end Sys2Proof.Machine
end

