-- ==== Sys2Proof/Machine/Boot.lean ====
section
/-! DEFINITION. Boot: firmware slots, die discovery, training, the host region and the end of boot (R42, R387 to R389, R548, R586,
R593 to R596); die-to-die ports (R19, R20). -/
namespace Sys2Proof.Machine

/-! ## Signed records and firmware slots (R91, R593, R594) -/

/-- A signature block of Table 3.4 verifies the bytes before it, for a signer of the given modulus. -/
def blockVerifies (magic : Bytes) (modulus : Nat) (signed block : Bytes) : Bool :=
  block.take 8 == magic && natAt block 8 4 == 1 && natAt block 12 4 == 0
    && bytesAt block 16 32 == (sha512 (beBytes 512 modulus)).take 32
    && (block.drop 0x230).all (· == 0) && block.length == 4096
    && pssVerify modulus (sha512 signed) (bytesAt block 0x30 512)

/-- The magic of a firmware slot. -/
def kprMagic : Bytes := ascii "KPRSIGN" ++ [0]

/-- The bytes of a slot: false A, true B. -/
def slotBytes (n : Nor) (b : Bool) : Bytes := if b then n.slotB else n.slotA

/-- The body length of a slot. -/
def slotLength (b : Bytes) : Nat := natAt b 0x10 8

/-- The header of a slot is well formed (Table 17.2). -/
def slotHeaderOk (b : Bytes) : Bool :=
  b.take 8 == ascii "KEEPFW" ++ [0, 0] && natAt b 0x0C 1 ≤ 63 && natAt b 0x0D 3 == 0 && slotLength b ≤ 16 * 2 ^ 20 - 12 * 2 ^ 10
    && (bytesAt b 0x58 4008).all (· == 0) && b.length == 0x2000 + slotLength b

/-- A slot's contents are valid (R594). -/
def slotOk (e : Env) (b : Bytes) : Bool :=
  let signed := b.take (0x1000 + slotLength b)
  slotHeaderOk b && bytesAt b 0x18 64 == sha512 (signed.drop 0x1000)
    && sha512 (beBytes 512 e.firmwareModulus) == e.firmwareKey
    && blockVerifies kprMagic e.firmwareModulus signed (b.drop (0x1000 + slotLength b))
    && decide (e.rollback ≤ natAt b 0x0C 1)

/-- A slot is valid (R594). -/
def slotValid (s : State) (b : Bool) : Bool := slotOk s.env (slotBytes s.nor b)

/-! ## The stages (R42, Table 20.3) -/

/-- The boot stops in RECOVERY at its present stage (Table 1.8, R42). -/
def bootFails (s : State) : State := enterRecoveryFor .bootFailed s

/-- The boot has reached a stage. -/
def reachStage (n : Nat) (s : State) : State := { s with glb := { s.glb with bootStage := n } }

/-- The valid bits of the slots as found (Table 17.10). -/
def noteSlots (s : State) : State := { s with kpr := { s.kpr with aValid := slotValid s false, bValid := slotValid s true } }

/-- A firmware slot has been verified; Keeper starts, and the keys are unwrapped. -/
def keeperStarts (s : State) : State :=
  reachStage 2 { s with
    glb := { s.glb with serial := BitVec.ofNat 32 s.nor.serial }
    kpr := { s.kpr with vaultReady := s.nor.vaultSeed.isSome } }

/-- Stage 0x01: the boot ROM tries the active slot, then the other (R595). -/
def bootSlots (r : BootReport) (s : State) : State :=
  let t := noteSlots s
  if !r.hubOk then bootFails t
  else if slotValid s s.nor.active then keeperStarts t
  else if slotValid s (!s.nor.active) then
    keeperStarts (record 0x5100 [] { t with nor := { t.nor with active := !t.nor.active } })
  else bootFails { t with kpr := { t.kpr with romService := true } }

/-- The dies of a mask, in ascending order. -/
def diesOf (m : BitVec 8) : List (Fin 8) := (List.finRange 8).filter (fun n => m.getLsbD n)

/-- Every die of a mask fully fenced. -/
def fenceFullAll (m : BitVec 8) (s : State) : State := (diesOf m).foldl (fun s n => fenceFullNow n s) s

/-- Every die of a mask engine-fenced. -/
def fenceEngineAll (m : BitVec 8) (s : State) : State := (diesOf m).foldl (fun s n => fenceEngineNow n s) s

/-- Stage 0x02: the dies are found and tested, the die-to-die ports trained; the fences of the serial NOR stand (R18, R30, R31, R43,
R596). -/
def bootDies (r : BootReport) (s : State) : State :=
  let t : State := { s with
    glb := { s.glb with present := r.dies }
    nor := { s.nor with laneMaps := s.nor.laneMaps ++ r.repairs } }
  reachStage 3 (fenceEngineAll (r.badEngines ||| s.nor.engineFences)
    (fenceFullAll (~~~ r.dies ||| r.badPorts ||| s.nor.fullFences) t))

/-- A unit that failed its training is recorded as retired (R388). -/
def retireUnit (x : Nat × Nat) (s : State) : State :=
  record 0x0B01 (detail [(1, x.1), (1, x.2)]) { s with nor := { s.nor with retiredUnits := s.nor.retiredUnits ++ [x.1] } }

/-- A package has no unit outside the retired ones (R389). -/
def packageDead (s : State) (p : Nat) : Bool :=
  ((List.range 256).filter (fun u => packageOf u == p)).all (fun u => s.nor.retiredUnits.contains u)

/-- The dies of which a package has no unit in service (R389). -/
def deadDies (s : State) : BitVec 8 :=
  (List.range 16).foldl (fun m p => if packageDead s p then m ||| (1#8 <<< dieOfPackage p) else m) 0

/-- The units in service: neither retired nor of a fully fenced die (R29, R384, R390). -/
def unitsInService (s : State) : List Nat :=
  (List.range 256).filter (fun u =>
    !s.nor.retiredUnits.contains u && !s.glb.fullFenced.getLsbD (dieOfPackage (packageOf u)))

/-- Units out of service because their die is fully fenced. -/
def unitsFenced (s : State) : List Nat :=
  (List.range 256).filter (fun u =>
    !s.nor.retiredUnits.contains u && s.glb.fullFenced.getLsbD (dieOfPackage (packageOf u)))

/-- What training reports of the units (Table 11.8): eye widths, 1× refresh, link ECC. -/
def trainedInfo (r : BootReport) (us : List Nat) : SMap UnitInfo :=
  us.map (fun u =>
    let eye := (r.eyes.find? (fun e => e.1 == u)).getD (u, 0, 0)
    (u, { readEye := eye.2.1, writeEye := eye.2.2, refresh := 4, retries := 0, eccWrite := true,
          eccRead := !r.noEcc.contains (packageOf u) }))

/-- Stage 0x03: the LPDDR5X packages are trained and the address map fixed (R384, R387 to R390, R394). -/
def bootMemory (r : BootReport) (s : State) : State :=
  let t := (r.badUnits.filter (fun x => !s.nor.retiredUnits.contains x.1)).foldl (fun s x => retireUnit x s) s
  let t := fenceFullAll (deadDies t) t
  let us := unitsInService t
  let t : State := { t with
    lpd := { t.lpd with units := us, fenced := unitsFenced t, noEcc := r.noEcc, info := trainedInfo r us }
    nor := { t.nor with trained := us } }
  let t := record 0x0B00 (detail [(2, us.length)]) t
  reachStage 4 (r.noEcc.foldl (fun s p => record 0x4B02 (detail [(1, p)]) s) t)

/-- Channels that did not attach and are not yet recorded as retired. -/
def newlyRetired (r : BootReport) (s : State) : List Nat :=
  (List.range 16).filter (fun c => !r.channels.getLsbD c && !s.nor.retiredChannels.contains c)

/-- Areas that hold a media key (R425). -/
def keyedAreas (n : Nor) : BitVec 4 :=
  (List.range 4).foldl (fun m a => if (SMap.find? n.mediaKeys a).isSome then m ||| (1#4 <<< a) else m) 0

/-- Stage 0x04: the NAND channels are attached, the write credit and the media keys taken from the serial NOR (R413, R414, R423,
R425). -/
def bootDeep (r : BootReport) (s : State) : State :=
  let new := newlyRetired r s
  let t : State := { s with nor := { s.nor with retiredChannels := s.nor.retiredChannels ++ new } }
  let v := (List.range 16).filter (fun c => r.channels.getLsbD c && !t.nor.retiredChannels.contains c)
  let t : State := { t with deep := { t.deep with channels := v, credit := t.deep.creditNor, keyValid := keyedAreas t.nor } }
  reachStage 5 (if new.isEmpty then t else record 0x0C01 (detail [(2, t3Gib t.deep)]) t)

/-- The host-region size that the serial NOR holds is one that R548 allows. -/
def regionSizeOk (n : Nor) : Bool :=
  n.regionBytes % 2 ^ 30 == 0 && decide (16 ≤ n.regionBytes / 2 ^ 30) && decide (n.regionBytes / 2 ^ 30 ≤ 256)

/-- The host region is placed below the image store (R548). -/
def placeRegion (s : State) : State :=
  let gib := if regionSizeOk s.nor then s.nor.regionBytes / 2 ^ 30 else 64
  let t : State := { s with host := { s.host with regionGib := gib, regionBase := imageStoreBase s.lpd - gib * 2 ^ 30 } }
  if regionSizeOk s.nor then t else record 0x5009 [] t

/-- FWL_WINi_RANGE of a run of local offsets. -/
def windowRange (a n : Nat) : W64 := w64 (at_ 32 ((a + n) / 65536 - 1) + a / 65536)

/-- The default windows of R586: window 0 READ and WRITE on the host region, window 1 READ on backed T1 below it. -/
def defaultWindows (h : HostSite) : SMap (W64 × W64) :=
  [(0, (windowRange h.regionBase (regionSize h), 7)), (1, (windowRange 0 h.regionBase, 5))]

/-- The firewall windows are loaded (R586), live and shadow alike. -/
def loadWindows (s : State) : State :=
  let ws := s.nor.firewall.getD (defaultWindows s.host)
  let f (r : Rws) : Rws :=
    { r with fwlRange := ws.foldl (fun m w => SMap.set m w.1 w.2.1 0) [], fwlPerm := ws.foldl (fun m w => SMap.set m w.1 w.2.2 0) [] }
  { s with live := f s.live, shadow := f s.shadow }

/-- Stage 0x05: the host region and its windows are set, and the sites and root ports train; the recorded FAB_LOCATION and
FAB_LINK_DISABLE stand before the Soern links train (R438, R548, R586). -/
def bootSites (r : BootReport) (s : State) : State :=
  let t := loadWindows (placeRegion s)
  reachStage 6 { t with
    glb := { t.glb with hostPresent := r.hostUp, partnerPresent := r.partnerUp }
    host := { t.host with hostUp := r.hostUp, partnerUp := r.partnerUp, port0 := r.ports.1, port1 := r.ports.2 }
    fab := { t.fab with
      location := t.nor.location, disable := t.nor.disable,
      links := (List.range 48).foldl (fun m l => if t.nor.disable.getLsbD l then SMap.set m l { state := 4 } {} else m) t.fab.links } }

/-- Stage 0x07 ends where discovery has: the capacities are valid and the module is READY (R44, R472, Table 1.8). -/
def bootEnds (s : State) : State :=
  if s.fab.discovery = 2 then enterReady (reachStage 0 { s with glb := { s.glb with capValid := true } }) else s

/-- The work that ends a stage, and the stage that follows (Table 1.10). -/
def bootStep (r : BootReport) (s : State) : State :=
  match s.glb.bootStage with
  | 1 => bootSlots r s
  | 2 => bootDies r s
  | 3 => bootMemory r s
  | 4 => bootDeep r s
  | 5 => bootSites r s
  | 6 => reachStage 7 s
  | 7 => bootEnds s
  | _ => s

/-- BOOT_STAGE_COMPLETE (R42). -/
def execBootStageComplete (r : BootReport) (s : State) : Result :=
  .next (if s.glb.state = .lantern && s.lnt.power then bootStep r s else s)

/-! ## Die-to-die ports (R18 to R20) -/

/-- The dies that a port serves. -/
def portDies : DiePort → List (Fin 8)
  | .hub n => [n]
  | .ring n => [n, n + 1]

/-- A port is in service: its dies are powered (R29), after the ports have trained. -/
def portInService (s : State) (p : DiePort) : Bool :=
  (portDies p).all (fun n => !s.glb.fullFenced.getLsbD n) &&
  match s.glb.state with
  | .off => false
  | .lantern => decide (3 ≤ s.glb.bootStage)
  | _ => s.glb.bootStage == 0 || decide (3 ≤ s.glb.bootStage)

/-- Replays of a port in this beam. -/
def replaysOf (g : Glb) (p : DiePort) : Nat := ((g.replays.find? (fun x => x.1 == p)).map (·.2)).getD 0

/-- One more replay of a port. -/
def countReplay (p : DiePort) (s : State) : State :=
  { s with
    out := .replay p :: s.out
    glb := { s.glb with replays := (p, replaysOf s.glb p + 1) :: s.glb.replays.filter (fun x => x.1 != p) } }

/-- The halt sequence that follows retrains a port (R20). -/
def askRetrain (p : DiePort) (s : State) : State :=
  { s with glb := { s.glb with retrain := if s.glb.retrain.contains p then s.glb.retrain else s.glb.retrain ++ [p] } }

/-- DIE_TO_DIE_FLIT (R19, R20): a flit that fails its CRC is replayed, and the third replay in a beam is fault 0x8101. -/
def execDieToDieFlit (port : DiePort) (crcOk : Bool) (s : State) : Result :=
  .next (
    if crcOk || !portInService s port then s
    else
      let t := countReplay port s
      if replaysOf t.glb port = 3 then raiseFault 0x8101 [] (askRetrain port t) else t)

/-- LANE_FAILURE (R20): a fault while RUNNING; otherwise the lane waits for the port's next training. -/
def execLaneFailure (port : DiePort) (group lane : Nat) (s : State) : Result :=
  .next (
    if !portInService s port then s
    else
      let t : State := { s with glb := { s.glb with failedLanes := s.glb.failedLanes ++ [(port, group, lane)] } }
      if s.glb.state = .running then raiseFault 0x8100 [] (askRetrain port t) else t)

end Sys2Proof.Machine
end

