-- ==== Sys2Proof/Machine/ImageBytes.lean ====
section
/-! DEFINITION. An image's bytes read as its header, its directory and its sections (R88 to R102 and the tables they name). -/
namespace Sys2Proof.Machine

/-! ## Header and directory (Tables 3.2 and 3.3) -/

/-- A directory entry. -/
structure DirEntry where
  type : Nat
  version : Nat
  offset : Nat
  length : Nat
  count : Nat
  entrySize : Nat
  reservedZero : Bool
  digest : Bytes
  deriving DecidableEq, Repr

/-- n bytes from an offset are zero. -/
def zeroAt (b : Bytes) (o n : Nat) : Bool := ((b.drop o).take n).all (· == 0)

/-- The directory entry at a place. -/
def parseDirEntry (b : Bytes) : DirEntry :=
  { type := natAt b 0 2, version := natAt b 2 2, offset := natAt b 8 8, length := natAt b 0x10 8, count := natAt b 0x18 4,
    entrySize := natAt b 0x1C 4, reservedZero := zeroAt b 4 4 && zeroAt b 0x20 32, digest := bytesAt b 0x40 64 }

/-- SECTION_COUNT. -/
def sectionCount (b : Bytes) : Nat := natAt b 0x1C 4

/-- The directory; an image has at most 12 entries. -/
def parseDir (b : Bytes) : List DirEntry :=
  (List.range (min (sectionCount b) 12)).map (fun k => parseDirEntry (bytesAt b (0x100 + 128 * k) 128))

/-- A directory entry's bytes of an image. -/
def dirBytes (b : Bytes) (d : DirEntry) : Bytes := (b.drop d.offset).take d.length

/-- The directory entry of a section type. -/
def dirOf (ds : List DirEntry) (t : Nat) : Option DirEntry := ds.find? (fun d => d.type == t)

/-- A section's bytes, and its COUNT; empty where the image carries none. -/
def rawSection (b : Bytes) (t : Nat) : Bytes × Nat :=
  match dirOf (parseDir b) t with
  | some d => (dirBytes b d, d.count)
  | none => ([], 0)

/-- n records of a size from an offset of a section; none where they do not lie within it. -/
def tableAt (b : Bytes) (o n size : Nat) : List Bytes :=
  if o + n * size ≤ b.length then (List.range n).map (fun k => (b.drop (o + k * size)).take size) else []

/-- The entries of a section that follow its body header (R94). -/
def entriesOf (x : Bytes × Nat) (size : Nat) : List Bytes := tableAt x.1 64 x.2 size

/-! ## Entries -/

/-- A GROUP entry's module number (R95). -/
def parseMember (b : Bytes) : Nat := natAt b 0 2 % 8192

/-- An ENGINES entry (Table 3.6). -/
def parseEngine (b : Bytes) : EngineEntry :=
  { kind := natAt b 2 1, ldie := natAt b 3 1, unit := natAt b 4 1, chain := natAt b 8 2 }

/-- A ROUTES entry (R97). -/
def parseRoute (b : Bytes) : RouteEntry :=
  { id := natAt b 0 2, src := natAt b 2 1, dst := natAt b 3 1, kind := natAt b 4 1, hops := natAt b 5 1 }

/-- A BANKS entry (Table 9.1). -/
def parseBank (b : Bytes) : BankEntry :=
  { ldie := natAt b 0 1, first := natAt b 1 1, count := natAt b 2 1, words := natAt b 3 1, mask := natAt b 4 2, power := natAt b 6 1,
    fromBeam := natAt b 8 4 }

/-- A record of the beam index (03, PLANS). -/
def parseBeamRec (b : Bytes) : BeamRec := { first := natAt b 0 4, count := natAt b 4 4, hold := natAt b 8 2, flags := natAt b 10 2 }

/-- A hold point: its input references, those that are not zero (Table 3.7). -/
def parseHold (b : Bytes) : List Nat := ((List.range 4).map (fun k => natAt b (4 * k) 4)).filter (· != 0)

/-- A task entry (Table 3.8). -/
def parseTask (b : Bytes) : TaskEntry :=
  { release := natAt b 0 4, le := natAt b 4 2, idx := natAt b 6 2,
    deps := (List.range (min (natAt b 8 1) 4)).map (fun k => natAt b (0x10 + 4 * k) 4),
    accFirst := natAt b 0xC 4, accCount := natAt b 9 1, payload := natAt b 0x20 32 }

/-- An access record (R100). -/
def parseAccess (b : Bytes) : Access :=
  { buoy := natAt b 0 4, first := natAt b 4 4, count := natAt b 8 4, budget := natAt b 12 1, mode := natAt b 13 1 }

/-- The PLANS section (Table 3.7). -/
def parsePlans (x : Bytes × Nat) : Plans :=
  let b := x.1
  { beams := (tableAt b (natAt b 0x10 8) (natAt b 0 4) 16).map parseBeamRec,
    holds := (tableAt b (natAt b 0x18 8) (natAt b 4 4) 16).map parseHold,
    tasks := (entriesOf x 64).map parseTask,
    accs := (tableAt b (natAt b 0x20 8) (natAt b 8 4) 16).map parseAccess }

/-- A slot entry (Table 13.4). -/
def parseSlot (b : Bytes) : SlotEntry :=
  let d := natAt b 3 1
  { link := natAt b 0 1, first := natAt b 1 1, count := natAt b 2 1, recv := d.testBit 0, hop := bits d 4 1, resp := d.testBit 5,
    flow := natAt b 4 2, peer := natAt b 6 2 }

/-- A flow descriptor (Table 13.5). -/
def parseFlow (b : Bytes) : Flow :=
  { kind := natAt b 0 1, hops := natAt b 1 1, le := natAt b 2 2, src := natAt b 4 4, dst := natAt b 8 4, srcBuoy := natAt b 12 4,
    dstBuoy := natAt b 16 4, srcTile := natAt b 20 4, dstTile := natAt b 24 4, count := natAt b 28 4 }

/-- The SLOTS section (Table 13.3). -/
def parseSlots (x : Bytes × Nat) : Slots :=
  let b := x.1
  { planBeams := natAt b 0 4,
    index := (tableAt b (natAt b 8 8) (natAt b 0 4) 8).map (fun r => (natAt r 0 4, natAt r 4 4)),
    entries := (entriesOf x 8).map parseSlot,
    flows := (tableAt b (natAt b 16 8) (natAt b 4 4) 32).map parseFlow }

/-- A BUOYS entry (Table 3.10). -/
def parseBuoy (b : Bytes) : BuoyEntry :=
  { id := natAt b 0 4, flags := natAt b 4 4, size := natAt b 8 8, format := natAt b 0x10 1, shape := natAt b 0x11 1,
    layer := natAt b 0x12 2, ownerRank := natAt b 0x14 4, initOffset := natAt b 0x18 8, initTier := natAt b 0x20 1,
    cls := natAt b 0x21 1, residence := bytesAt b 0x22 24 }

/-- A class policy (Table 4.6). -/
def parseClass (b : Bytes) : ClassPolicy :=
  { cls := natAt b 1 1, round := natAt b 2 1, scaling := natAt b 3 1, margin := signed 8 (natAt b 4 1) }

/-- An accumulation policy (Table 6.4). -/
def parseAcc (b : Bytes) : AccPolicy :=
  { policy := natAt b 1 1, mode := natAt b 2 1, budget := natAt b 3 1, onExcess := natAt b 4 1, maxChain := natAt b 8 4 }

/-- The entries of a KIND, which byte 0 of each gives. -/
def ofKind (k : Nat) (es : List Bytes) : List Bytes := es.filter (fun e => natAt e 0 1 == k)

/-- The NUMERIC section. -/
def parseNumeric (x : Bytes × Nat) : Numeric :=
  let es := entriesOf x 32
  { seed := w64 (natAt x.1 0 8), classes := (ofKind 1 es).map parseClass, accs := (ofKind 2 es).map parseAcc }

/-- A program descriptor (Table 7.2). -/
def parseProg (b : Bytes) : ProgDesc :=
  let w := natAt b 0 8
  { update := w.testBit 48, count := bits w 47 32, first := bits w 31 0 }

/-- The UPDATE section. -/
def parseUpdate (x : Bytes × Nat) : Update :=
  let es := entriesOf x 8
  { progs := (es.take (natAt x.1 0 4)).map parseProg, words := es.map (fun e => w64 (natAt e 0 8)) }

/-- A 32-bit field. -/
def w32At (b : Bytes) (o : Nat) : W32 := BitVec.ofNat 32 (natAt b o 4)

/-- A TREE_NODE entry (Table 14.2). -/
def parseNode (b : Bytes) : TreeNode := { tree := natAt b 2 2, pos := natAt b 4 4, parent := natAt b 8 4 }

/-- A BUCKET entry (Table 14.3). -/
def parseBucket (b : Bytes) : Bucket :=
  { wire := natAt b 1 1, tree := natAt b 2 2, buoy := natAt b 4 4, first := natAt b 8 4, count := natAt b 12 4, root := natAt b 16 4,
    flowBase := natAt b 20 4, shard := natAt b 24 2, layer := natAt b 26 2, beam := natAt b 28 4 }

/-- An EPOCH_PAIR entry (Table 14.4). -/
def parsePair (b : Bytes) : EpochPair :=
  { shard := natAt b 2 2, cur := natAt b 4 4, next := natAt b 8 4, half0 := natAt b 12 4, half1 := natAt b 16 4 }

/-- A LAYER entry (Table 14.5). -/
def parseLayer (b : Bytes) : LayerEntry :=
  { layer := natAt b 2 2, tau := w32At b 4, lrMult := w32At b 8, wd := w32At b 12, clipBeam := natAt b 16 4 }

/-- A SCHEDULE entry (Table 14.6). -/
def parseSchedule (b : Bytes) : Schedule :=
  { shape := natAt b 1 1, start := w32At b 4, peak := w32At b 8, min := w32At b 12, warmup := natAt b 16 4, decay := natAt b 20 4 }

/-- The EXCHANGE section (Table 14.1). -/
def parseExchange (x : Bytes × Nat) : Exchange :=
  let b := x.1
  let es := entriesOf x 32
  { kinds := es.map (fun e => natAt e 0 1), mode := natAt b 0 1, clip := natAt b 1 1, arith := natAt b 2 1, normBeam := natAt b 4 4, bucketBytes := natAt b 8 8,
    globalTau := w32At b 16, nodes := (ofKind 1 es).map parseNode, buckets := (ofKind 2 es).map parseBucket,
    pairs := (ofKind 3 es).map parsePair, layers := (ofKind 4 es).map parseLayer, schedules := (ofKind 5 es).map parseSchedule }

/-- An ORBIT_SET entry (Table 15.3). -/
def parseOrbitSet (b : Bytes) : OrbitSet :=
  { layer := natAt b 2 2, delta := natAt b 4 4, inBuoy := natAt b 8 4, anchor := natAt b 12 4, stage := natAt b 16 4,
    outPkt := natAt b 20 4, inPkt := natAt b 24 4 }

/-- The ORBIT section (Table 15.2). -/
def parseOrbit (x : Bytes × Nat) : OrbitSec :=
  let b := x.1
  { h := natAt b 0 4, d := natAt b 4 4, snapEvery := natAt b 8 4, ckptEvery := natAt b 12 4, outArea := natAt b 0x10 8,
    inArea := natAt b 0x18 8, snapHold := natAt b 0x20 8, snapBytes := natAt b 0x28 8, ckptHold := natAt b 0x30 8,
    ckptMib := natAt b 0x38 4, snapDeep := natAt b 0x3C 1 == 1, sets := (entriesOf x 32).map parseOrbitSet }

/-- A REGS entry (R102). -/
def parseRegsEntry (b : Bytes) : RegsEntry := { offset := natAt b 0 4, value := w64 (natAt b 8 8) }

/-! ## The image -/

/-- The section types that an image carries. -/
def carriedTypes (b : Bytes) : List Nat := (parseDir b).map (·.type)

/-- A section that the image carries, or the live image's (R112). -/
def pick {α : Type} (b : Bytes) (live : Option Image) (t : Nat) (parse : Bytes × Nat → α) (old : Image → α) : α :=
  match live with
  | some i => if (carriedTypes b).contains t then parse (rawSection b t) else old i
  | none => parse (rawSection b t)

/-- The image that would be live after commit: a full image, or a delta merged with the live one. The structure of a delta is that of the
live image (R112). -/
def parseImage (b : Bytes) (live : Option Image) : Image :=
  let from_ {α : Type} (t : Nat) (parse : Bytes × Nat → α) (old : Image → α) : α := pick b live t parse old
  { kind := natAt b 0xA 1,
    jobId := (live.map (·.jobId)).getD (w64 (natAt b 0x20 8)),
    memberRank := (live.map (·.memberRank)).getD (natAt b 0x28 4),
    commitBeam := natAt b 0x30 8,
    periodClk := natAt b 0x38 4,
    eclipseClk := natAt b 0x3C 4,
    groupDigest := (live.map (·.groupDigest)).getD (((dirOf (parseDir b) 1).map (·.digest)).getD []),
    group := (live.map (·.group)).getD ((entriesOf (rawSection b 1) 8).map parseMember),
    logicalDies := (live.map (·.logicalDies)).getD (natAt (rawSection b 2).1 0 1),
    engines := (live.map (·.engines)).getD ((entriesOf (rawSection b 2) 16).map parseEngine),
    routes := (live.map (·.routes)).getD ((entriesOf (rawSection b 3) 16).map parseRoute),
    banks := (live.map (·.banks)).getD ((entriesOf (rawSection b 4) 16).map parseBank),
    plans := from_ 5 parsePlans (·.plans),
    slots := from_ 6 parseSlots (·.slots),
    buoys := from_ 7 (fun x => (entriesOf x 64).map parseBuoy) (·.buoys),
    numeric := from_ 8 parseNumeric (·.numeric),
    update := from_ 9 parseUpdate (·.update),
    exchange := from_ 10 parseExchange (·.exchange),
    orbit := if (carriedTypes b).contains 11 then some (parseOrbit (rawSection b 11)) else live.bind (·.orbit),
    regs := (entriesOf (rawSection b 12) 16).map parseRegsEntry,
    carried := carriedTypes b }

end Sys2Proof.Machine
end

