-- ==== Sys2Proof/Machine/CheckHead.lean ====
section
/-! DEFINITION. The image check: what a failure reports, the header, the directory, the digests and the signature (R88 to R94, R112,
checks 0x4310 to 0x4316). -/
namespace Sys2Proof.Machine

/-! ## Failures (R112) -/

/-- A failed check: its event, SECTION and ENTRY, and what else its event carries. -/
structure CheckFail where
  event : Nat
  part : Nat
  entry : Nat
  more : Bytes := []
  deriving DecidableEq, Repr

/-- ENTRY of a failing field of a section body header, and of a failure that belongs to no entry. -/
def noEntry : Nat := 0xFFFFFFFF

/-- A check that fails at one place. -/
def failWhen (bad : Bool) (event part entry : Nat) : Option CheckFail :=
  if bad then some { event := event, part := part, entry := entry } else none

/-- The place of the first element that is bad. -/
def firstBad {α : Type} (bad : α → Bool) (xs : List α) : Option Nat := xs.findIdx? bad

/-- A check of every entry of a section: it fails at the first bad one. -/
def failAt {α : Type} (event part : Nat) (xs : List α) (bad : α → Bool) : Option CheckFail :=
  (firstBad bad xs).map (fun k => { event := event, part := part, entry := k })

/-- A check of every entry of a section by its place. -/
def failAtPlace {α : Type} (event part : Nat) (xs : List α) (bad : Nat → α → Bool) : Option CheckFail :=
  failAt event part xs.zipIdx (fun x => bad x.2 x.1)

/-- The least place out of several. -/
def leastOf (a b : Option Nat) : Option Nat :=
  match a, b with
  | some x, some y => some (min x y)
  | some x, none => some x
  | none, y => y

/-- An element at an earlier place that agrees with this one in a key. -/
def repeated {α : Type} (key : α → Nat) (xs : List α) (k : Nat) (x : α) : Bool := (xs.take k).any (fun y => key y == key x)

/-! ## The header (Table 3.2) -/

/-- The first eight bytes of an image. -/
def imageMagic : Bytes := ascii "EMSUONG" ++ [0]

/-- The header is not one of an image of a kind; a full image's BASE_DIGEST is one of its reserved bytes (DEDUCED, log 40). -/
def headerBad (kind : Nat) (b : Bytes) : Bool :=
  decide (b.length < 256) || b.take 8 != imageMagic || natAt b 8 2 != 2 || natAt b 0xC 4 != 256 || natAt b 0xA 1 != kind
    || natAt b 0x80 8 != 0x100 || !(zeroAt b 0xB 1 && zeroAt b 0x1B 1 && zeroAt b 0x90 112)
    || (kind == 1 && !zeroAt b 0x40 64)

/-- TOTAL_LEN. -/
def totalLen (b : Bytes) : Nat := natAt b 0x10 8

/-- SIG_OFFSET. -/
def sigOffset (b : Bytes) : Nat := natAt b 0x88 8

/-- TOTAL_LEN and SIG_OFFSET do not fit the staged bytes. -/
def lengthBad (b : Bytes) : Bool :=
  totalLen b != b.length || totalLen b % 4096 != 0 || decide (2147483648 < totalLen b) || sigOffset b + 4096 != totalLen b

/-- GLB_ID.STEPPING (Table 1.9). -/
def stepping : Nat := 0x11

/-- Checks 0x4310 to 0x4312. -/
def checkHead (kind : Nat) (b : Bytes) : Option CheckFail :=
  failWhen (headerBad kind b) 0x4310 0 0
  <|> failWhen (natAt b 0x18 2 != 0x1152 || decide (stepping < natAt b 0x1A 1)) 0x4311 0 0
  <|> failWhen (lengthBad b) 0x4312 0 0

/-! ## The directory (Table 3.3) -/

/-- The entry size of a section type (Table 3.5). -/
def sectionEntrySize (t : Nat) : Nat :=
  match t with
  | 1 => 8
  | 2 => 16
  | 3 => 16
  | 4 => 16
  | 5 => 64
  | 6 => 8
  | 7 => 64
  | 8 => 32
  | 9 => 8
  | 10 => 32
  | 11 => 32
  | 12 => 16
  | _ => 0

/-- Two sections overlap. -/
def dirsMeet (d e : DirEntry) : Bool :=
  decide (d.offset < e.offset + e.length) && decide (e.offset < d.offset + d.length) && d.length != 0 && e.length != 0

/-- The bytes that COUNT entries take after the body header. -/
def entryRoom (d : DirEntry) : Bool := d.length == 0 && d.count == 0 || decide (64 + d.count * d.entrySize ≤ d.length)

/-- A directory entry is bad beside those before it; its own reserved bytes and a COUNT beyond its section count too (DEDUCED,
log 40). -/
def dirBad (b : Bytes) (ds : List DirEntry) (k : Nat) (d : DirEntry) : Bool :=
  decide (d.type < 1) || decide (12 < d.type) || repeated (·.type) ds k d || d.version != 1
    || d.entrySize != sectionEntrySize d.type || d.offset % 4096 != 0 || decide (d.offset < 0x100 + 128 * sectionCount b)
    || decide (sigOffset b < d.offset + d.length) || (ds.take k).any (dirsMeet d) || !d.reservedZero || !entryRoom d

/-- The reserved spans of a section body header, offset and length (R94, Tables 3.5 and 3.7). -/
def reservedSpans (t : Nat) : List (Nat × Nat) :=
  match t with
  | 1 => [(12, 52)]
  | 2 => [(1, 63)]
  | 5 => [(0xC, 4), (0x28, 24)]
  | 8 => [(8, 56)]
  | 9 => [(4, 60)]
  | 6 => []
  | 10 => []
  | 11 => []
  | _ => [(0, 64)]

/-- A body header holds a non-zero reserved byte. -/
def bodyReserved (b : Bytes) (d : DirEntry) : Bool := (reservedSpans d.type).any (fun x => !zeroAt (dirBytes b d) x.1 x.2)

/-- A table that a body header places lies within its section, after the body header. -/
def tableFits (x : Bytes) (off n size : Nat) : Bool := n == 0 || (decide (64 ≤ off) && decide (off + n * size ≤ x.length))

/-- A table of the PLANS or SLOTS section, or the programs of UPDATE, lie outside their section (DEDUCED, log 40). -/
def tablesBad (b : Bytes) (d : DirEntry) : Bool :=
  let x := dirBytes b d
  match d.type with
  | 5 => !(tableFits x (natAt x 0x10 8) (natAt x 0 4) 16 && tableFits x (natAt x 0x18 8) (natAt x 4 4) 16
            && tableFits x (natAt x 0x20 8) (natAt x 8 4) 16)
  | 6 => !(tableFits x (natAt x 8 8) (natAt x 0 4) 8 && tableFits x (natAt x 16 8) (natAt x 4 4) 32)
  | 9 => decide (d.count < natAt x 0 4)
  | _ => false

/-- A body header is bad. -/
def bodyBad (b : Bytes) (d : DirEntry) : Bool := bodyReserved b d || tablesBad b d

/-- The first required section that a full image lacks (Table 3.5). -/
def missingSection (ds : List DirEntry) : Option Nat :=
  [1, 2, 3, 4, 5, 6, 7, 8, 9, 10].find? (fun t => !ds.any (fun d => d.type == t))

/-- A failure of the first directory entry that satisfies a test, reported with its section. -/
def failDir (event entry : Nat) (own : Bool) (ds : List DirEntry) (bad : Nat → DirEntry → Bool) : Option CheckFail :=
  (ds.zipIdx.find? (fun x => bad x.2 x.1)).map (fun x => { event := event, part := x.1.type % 256, entry := if own then x.2 else entry })

/-- Check 0x4313. -/
def checkDirectory (kind : Nat) (b : Bytes) : Option CheckFail :=
  let ds := parseDir b
  failWhen (decide (12 < sectionCount b) || (kind == 1 && sectionCount b == 0)
    || decide (sigOffset b < 0x100 + 128 * sectionCount b)) 0x4313 0 0
  <|> failDir 0x4313 0 true ds (dirBad b ds)
  <|> (if kind = 1 then (missingSection ds).map (fun t => { event := 0x4313, part := t, entry := noEntry }) else none)
  <|> failDir 0x4313 noEntry false ds (fun _ d => bodyBad b d)

/-- Check 0x4314. -/
def checkDigests (b : Bytes) : Option CheckFail :=
  failDir 0x4314 0 true (parseDir b) (fun _ d => sha512 (dirBytes b d) != d.digest)

/-! ## The signature (R91, R92) -/

/-- The magic of an image's signature block. -/
def imageSigMagic : Bytes := ascii "EMSSIGN" ++ [0]

/-- SIGNER_ID of a modulus. -/
def signerId (modulus : Nat) : Bytes := (sha512 (beBytes 512 modulus)).take 32

/-- The image authority whose modulus a signature block names. -/
def signerOf (n : Nor) (block : Bytes) : Option Nat := (n.authorities.map (·.2)).find? (fun m => signerId m == bytesAt block 0x10 32)

/-- Checks 0x4315 and 0x4316. -/
def checkSignature (n : Nor) (b : Bytes) : Option CheckFail :=
  let block := b.drop (sigOffset b)
  match signerOf n block with
  | none => some { event := 0x4315, part := 0, entry := 0 }
  | some m => failWhen (!blockVerifies imageSigMagic m (b.take (sigOffset b)) block) 0x4316 0 0

/-- Checks 0x4310 to 0x4316 of a full image, kind 1, or a delta image, kind 2. -/
def checkEnvelope (kind : Nat) (n : Nor) (b : Bytes) : Option CheckFail :=
  checkHead kind b <|> checkDirectory kind b <|> checkDigests b <|> checkSignature n b

end Sys2Proof.Machine
end

