-- ==== Sys2Proof/Machine/CheckPlan.lean ====
section
/-! DEFINITION. The image check: the accesses of a plan and the order of its tasks (R501, R657). -/
namespace Sys2Proof.Machine

/-! ## Accesses -/

/-- An access record of a task, with its plan beam and the task's place in the PLANS section; an alias is taken as half 0 of its pair
(R501, R503). -/
structure PlanUse where
  beam : Nat
  place : Nat
  task : TaskEntry
  acc : Access
  deriving DecidableEq, Repr

/-- An identifier as the check takes it: an alias as half 0 of its pair, whose halves are alike (R501, R503). -/
def checkId (i : Image) (id : Nat) : Nat :=
  match aliasPair i id with
  | some p => p.half0
  | none => id

/-- The access records of a task as the check takes them. -/
def checkAccs (i : Image) (t : TaskEntry) : List Access := (accsOf i t).map (fun a => { a with buoy := checkId i a.buoy })

/-- The places of a plan beam's tasks with the tasks. -/
def placedTasks (i : Image) (p : Nat) : List (Nat × TaskEntry) :=
  match planRec i p with
  | some r => (tasksOf i p).zipIdx.map (fun x => (r.first + x.2, x.1))
  | none => []

/-- The accesses of a plan beam that name a tile. -/
def usesAt (i : Image) (p : Nat) : List PlanUse :=
  (placedTasks i p).flatMap (fun x =>
    ((checkAccs i x.2).filter (fun a => a.count != 0)).map (fun a => { beam := p, place := x.1, task := x.2, acc := a }))

/-- Every access of the plan that names a tile, in plan beam and task order (R100). -/
def planUses (i : Image) : List PlanUse := (List.range (planBeams i)).flatMap (usesAt i)

/-- An access reads. -/
def accReads (a : Access) : Bool := a.mode == 1 || a.mode == 3

/-- An access writes. -/
def accWrites (a : Access) : Bool := a.mode == 2 || a.mode == 3

/-- The declared engine of a task. -/
def taskEngine (i : Image) (t : TaskEntry) : Option EngineEntry := i.engines[t.le]?

/-! ## Order (R657) -/

/-- A task's key: its logical engine and its index. -/
def taskKey (t : TaskEntry) : Nat × Nat := (t.le, t.idx)

/-- The tasks that a task's dependency words name. -/
def depKeys (t : TaskEntry) : List (Nat × Nat) :=
  (t.deps.filter (fun d => bits d 31 30 == 0)).map (fun d => (bits d 29 16, bits d 15 0))

/-- The dependencies of the task of a key. -/
def keyDeps (ts : List TaskEntry) (k : Nat × Nat) : List (Nat × Nat) := ((ts.find? (fun t => taskKey t == k)).map depKeys).getD []

/-- The keys that a list of keys reaches through chains of dependencies; the fuel bounds the visits. -/
def reachKeys (ts : List TaskEntry) : Nat → List (Nat × Nat) → List (Nat × Nat) → List (Nat × Nat)
  | 0, _, seen => seen
  | _ + 1, [], seen => seen
  | n + 1, k :: r, seen => if seen.contains k then reachKeys ts n r seen else reachKeys ts n (keyDeps ts k ++ r) (k :: seen)

/-- The keys on which a task depends. -/
def dependsOn (ts : List TaskEntry) (t : TaskEntry) : List (Nat × Nat) := reachKeys ts (8 * ts.length + 8) (depKeys t) []

/-- Task a comes before task b of the same plan beam. -/
def comesBefore (ts : List TaskEntry) (a b : TaskEntry) : Bool := (a.le == b.le && decide (a.idx < b.idx)) || (dependsOn ts b).contains (taskKey a)

/-- Two tasks of one plan beam are ordered. -/
def areOrdered (ts : List TaskEntry) (a b : TaskEntry) : Bool := comesBefore ts a b || comesBefore ts b a

/-- A task at plan beam p comes before one at plan beam q. -/
def planBefore (i : Image) (p : Nat) (a : TaskEntry) (q : Nat) (b : TaskEntry) : Bool :=
  decide (p < q) || (p == q && comesBefore (tasksOf i p) a b)

end Sys2Proof.Machine
end

