-- ==== Sys2Proof/Machine/Shadow.lean ====
section
/-! DEFINITION. The RWS registers of a set, live or shadow (R8, R637). -/
namespace Sys2Proof.Machine

/-- An RWS register of a set: none for a register that is not RWS. -/
def Rws.value (r : Rws) : Reg → Option W64
  | .beamPeriod => some r.period
  | .beamEclipse => some r.eclipse
  | .beamHoldLimit => some r.holdLimit
  | .plePolicy => some r.plePolicy
  | .rdxNumPolicy => some r.numPolicy
  | .rdxGatePolicy => some r.gatePolicy
  | .fwlRange n => some (SMap.get r.fwlRange n 0)
  | .fwlPerm n => some (SMap.get r.fwlPerm n 0)
  | .lwRange n => some (SMap.get r.lwRange n 0)
  | .lwCtrl n => some (SMap.get r.lwCtrl n 0)
  | _ => none

/-- An RWS register of a set replaced. -/
def Rws.put (x : Reg) (v : W64) (r : Rws) : Rws :=
  match x with
  | .beamPeriod => { r with period := v }
  | .beamEclipse => { r with eclipse := v }
  | .beamHoldLimit => { r with holdLimit := v }
  | .plePolicy => { r with plePolicy := v }
  | .rdxNumPolicy => { r with numPolicy := v }
  | .rdxGatePolicy => { r with gatePolicy := v }
  | .fwlRange n => { r with fwlRange := SMap.set r.fwlRange n v 0 }
  | .fwlPerm n => { r with fwlPerm := SMap.set r.fwlPerm n v 0 }
  | .lwRange n => { r with lwRange := SMap.set r.lwRange n v 0 }
  | .lwCtrl n => { r with lwCtrl := SMap.set r.lwCtrl n v 0 }
  | _ => r

end Sys2Proof.Machine
end

