-- ==== Sys2Proof/Machine/CheckStructure.lean ====
section
/-! DEFINITION. The image check: the delta's base, the period and the eclipse, the group, the REGS entries, the engines and their binding,
the banks and the routes (checks 0x4317 to 0x4322; R61, R86, R95 to R97, R102, R103, R114, R313 to R316). -/
namespace Sys2Proof.Machine

/-! ## The delta rules (0x4317, 0x4318) -/

/-- Check 0x4317. -/
def checkBase (m : ImgState) (b : Bytes) : Option CheckFail :=
  failWhen (m.live.isNone || bytesAt b 0x40 64 != m.liveDigest) 0x4317 0 0

/-- The input references of plan beam 0's hold point; none for no hold point. -/
def firstHold (i : Image) : Option (List Nat) :=
  match planRec i 0 with
  | some r => if r.hold = 0xFFFF then none else some (i.plans.holds.getD r.hold [])
  | none => none

/-- The shadows of BEAM_PERIOD and BEAM_ECLIPSE are the live values (R86). -/
def periodKept (s : State) : Bool := s.shadow.period == s.live.period && s.shadow.eclipse == s.live.eclipse

/-- Check 0x4318 of a delta image. -/
def checkDeltaRules (s : State) (b : Bytes) (live i : Image) : Option CheckFail :=
  failDir 0x4318 0 true (parseDir b) (fun _ d => decide (1 ≤ d.type) && decide (d.type ≤ 4))
  <|> failWhen (natAt b 0x38 4 != periodOf s.live || natAt b 0x3C 4 != eclipseOf s.live || !periodKept s) 0x4318 0 0
  <|> failWhen ((carriedTypes b).contains 5 && firstHold i != firstHold live) 0x4318 5 0

/-! ## Period and eclipse (R61) -/

/-- Checks 0x4319 to 0x431C, on the shadows (R103). -/
def checkPeriod (r : Rws) : Option CheckFail :=
  let p := periodOf r
  let e := eclipseOf r
  failWhen (p == 0) 0x4319 0 0
  <|> failWhen (p % 75000 != 0 || 80 % (p / 75000) != 0) 0x431A 0 0
  <|> failWhen (e == 0) 0x431B 0 0
  <|> failWhen (decide (e < 3000) || decide (p < 4 * e)) 0x431C 0 0

/-! ## The group (R95) -/

/-- Check 0x431D; GROUP holds one entry for each member (DEDUCED, log 41). -/
def checkGroup (f : Fab) (b : Bytes) : Option CheckFail :=
  let x := rawSection b 1
  let es := entriesOf x 8
  let n := natAt x.1 8 4
  failWhen (n == 0 || es.length != n) 0x431D 1 noEntry
  <|> failAtPlace 0x431D 1 es (fun k e =>
        decide (8192 ≤ natAt e 0 8) || repeated parseMember es k e || !f.members.any (fun m => m.number == parseMember e))

/-- Check 0x431E. -/
def checkRank (g : Glb) (b : Bytes) (i : Image) : Option CheckFail :=
  failWhen (decide (i.group.length ≤ i.memberRank) || natAt b 0x20 8 != natAt (rawSection b 1).1 0 8) 0x431E 0 0
  <|> failWhen (!g.moduleValid || i.group[i.memberRank]? != some g.moduleNumber.toNat) 0x431E 1 i.memberRank

/-! ## REGS (R102, R637) -/

/-- A REGS entry's bytes are no staging of an RWS register other than BEAM_PERIOD and BEAM_ECLIPSE. -/
def regsEntryBad (b : Bytes) : Bool :=
  let e := parseRegsEntry b
  match regAt e.offset with
  | none => true
  | some r => (Rws.value {} r).isNone || r == .beamPeriod || r == .beamEclipse || writeRefused r.spec e.value.toNat || !zeroAt b 4 4

/-- Check 0x431F, on the entries that the image carries. -/
def checkRegs (b : Bytes) : Option CheckFail :=
  let es := entriesOf (rawSection b 12) 16
  failAtPlace 0x431F 12 es (fun k e => regsEntryBad e || repeated (fun x => natAt x 0 4) es k e)

/-- A REGS value reaches the shadow of its register (R102). -/
def stageReg (e : RegsEntry) (r : Rws) : Rws :=
  match regAt e.offset with
  | some x => Rws.put x e.value r
  | none => r

/-- As a check begins, the REGS values, and a full image's period and eclipse, reach the shadows (R102, R103). -/
def stageShadows (kind : StageKind) (i : Image) (r : Rws) : Rws :=
  let t := i.regs.foldl (fun r e => stageReg e r) r
  if kind = .full then { t with period := w64 i.periodClk, eclipse := w64 i.eclipseClk } else t

/-! ## Engines and their binding (R96, R114, R115) -/

/-- Units of a KIND on a die, or on the hub (Table 3.6). -/
def unitsOfKind (k : Nat) : Nat :=
  match k with
  | 1 => 2
  | 2 => 2
  | 3 => 1
  | 4 => 1
  | 5 => 1
  | 8 => 1
  | 9 => 8
  | 10 => 4
  | _ => 0

/-- An engine's place as one number. -/
def unitKey (e : EngineEntry) : Nat := (e.kind * 256 + e.ldie) * 256 + e.unit

/-- An ENGINES entry has no physical unit of its own: a reserved KIND or byte, a unit or a die that does not exist, an identifier out of
entry order, or a unit that an earlier entry names (DEDUCED, log 41). -/
def engineBad (dies : Nat) (es : List Bytes) (k : Nat) (b : Bytes) : Bool :=
  let e := parseEngine b
  natAt b 0 2 != k || decide (unitsOfKind e.kind ≤ e.unit) || (if 8 ≤ e.kind then e.ldie != 0xFF else decide (dies ≤ e.ldie))
    || !(zeroAt b 5 3 && zeroAt b 10 6) || repeated (fun x => unitKey (parseEngine x)) es k b

/-- The compute dies that are not fenced, ascending (R114). -/
def usableDies (g : Glb) : List Nat :=
  (List.range 8).filter (fun n => !(g.engineFenced.getLsbD n || g.fullFenced.getLsbD n || !g.present.getLsbD n))

/-- A ring route is one: its KIND, its HOPS and its ends (R97). -/
def isRing (i : Image) (r : RouteEntry) : Bool :=
  decide (r.kind ≤ 1) && decide (1 ≤ r.hops) && decide (r.hops ≤ 7) && decide (r.src < i.logicalDies) && decide (r.dst < i.logicalDies)

/-- The physical die h hops along a ring route from a die. -/
def hopDie (kind from_ h : Nat) : Nat := if kind = 0 then (from_ + h) % 8 else (from_ + 8 - h % 8) % 8

/-- A ring route is satisfied by a binding: its hops lead from end to end over dies that are not fully fenced. -/
def routeMet (g : Glb) (bind : List Nat) (r : RouteEntry) : Bool :=
  let a := bind.getD r.src 0
  hopDie r.kind a r.hops == bind.getD r.dst 0 && (List.range (r.hops + 1)).all (fun h => !g.fullFenced.getLsbD (hopDie r.kind a h))

/-- The binding at rotation r. -/
def rotation (u : List Nat) (n r : Nat) : List Nat := (List.range n).map (fun i => u.getD ((i + r) % u.length) 0)

/-- The binding of R114, none where there is none. -/
def findBinding (g : Glb) (i : Image) : Option (List Nat) :=
  let u := usableDies g
  if u.length < i.logicalDies then none
  else if i.logicalDies = 0 then some []
  else ((List.range u.length).map (rotation u i.logicalDies)).find? (fun bind => (i.routes.filter (isRing i)).all (routeMet g bind))

/-- Check 0x4320. -/
def checkBinding (g : Glb) (b : Bytes) (i : Image) : Option CheckFail :=
  let es := entriesOf (rawSection b 2) 16
  failWhen (decide (8 < i.logicalDies)) 0x4320 2 noEntry
  <|> failAtPlace 0x4320 2 es (engineBad i.logicalDies es)
  <|> failWhen (findBinding g i).isNone 0x4320 0 noEntry

/-! ## Banks (R313 to R316, R323) -/

/-- The logical banks of a logical die's tile store that are bound (R313). -/
def boundBanks (n : Nor) (binding : List Nat) (ldie : Nat) : Nat := (liveBanks n (storeOf binding ldie)).length

/-- The number of set bits of a mask among the first n. -/
def bitsSet (n mask : Nat) : Nat := ((List.range n).filter (fun k => mask.testBit k)).length

/-- Q of a partition: two for each matrix engine of its mask and one for each other engine (R323). -/
def shareCount (ldie mask : Nat) : Nat := bitsSet 16 mask + (if ldie = 0xFF then 0 else bitsSet 2 mask)

/-- A BANKS entry breaks a rule of its own. -/
def bankBad (n : Nor) (binding : List Nat) (i : Image) (e : BankEntry) : Bool :=
  (e.ldie != 0xFF && decide (i.logicalDies ≤ e.ldie)) || !([1, 2, 4, 8, 16, 32].contains e.count) || e.first % e.count != 0
    || decide (boundBanks n binding e.ldie < e.first + e.count) || decide (e.count < e.words)
    || decide ((if e.ldie = 0xFF then 4 else 128) ≤ e.mask) || decide (2 < e.power) || (e.mask != 0 && e.power != 0)
    || (e.mask != 0 && decide (e.words < shareCount e.ldie e.mask))

/-- Two entries of one FROM_BEAM cover one bank. -/
def banksMeet (e f : BankEntry) : Bool :=
  e.ldie == f.ldie && e.fromBeam == f.fromBeam && decide (e.first < f.first + f.count) && decide (f.first < e.first + e.count)

/-- The entry that governs a bank's partition is the same at two plan beams, or changes neither its banks nor its power to OFF. -/
def bankKept (i : Image) (ldie l p q : Nat) : Bool :=
  let a := ownerAt i ldie l p
  let b := ownerAt i ldie l q
  a.first == b.first && a.count == b.count && b.power != 2

/-- The task's engine may use the space of a buoy's residence in plan beam p: its own tile store, a partition that starts at T0_BANK and
lists it (R316). -/
def engineReaches (i : Image) (e : BuoyEntry) (eng : EngineEntry) (p : Nat) : Bool :=
  let o := ownerAt i (resLdie e) (resBank e) p
  eng.ldie == resLdie e && o.first == resBank e && o.mask.testBit (masterOf eng.kind eng.unit)

/-- An access at BUDGET T0 whose resident buoy the task's engine does not reach. -/
def t0UseBad (i : Image) (u : PlanUse) : Bool :=
  match buoyEntry i u.acc.buoy, taskEngine i u.task with
  | some e, some eng => u.acc.budget == 0 && resident e u.beam && !engineReaches i e eng u.beam
  | _, _ => false

/-- The plan beam of the last access at BUDGET T0, before plan beam p, of contents that stand until p: the buoy is resident throughout and
nothing writes it in between. -/
def lastT0Use (us : List PlanUse) (e : BuoyEntry) (p : Nat) : Option Nat :=
  let own := us.filter (fun u => u.acc.buoy == e.id && decide (u.beam < p))
  match (own.map (·.beam)).max? with
  | some q => if own.any (fun u => u.beam == q && u.acc.budget == 0) && (List.range (p - q)).all (fun k => resident e (q + k)) then some q else none
  | none => none

/-- The BANKS entry by which a bank that a read at BUDGET T0 relies on regroups or goes OFF since the access before (R316; a write in the
later plan beam counts as between them, DEDUCED, log 41). -/
def regroupOf (i : Image) (us : List PlanUse) (u : PlanUse) : Option Nat :=
  match buoyEntry i u.acc.buoy with
  | some e =>
    match if u.acc.budget = 0 && accReads u.acc && resident e u.beam then lastT0Use us e u.beam else none with
    | some q =>
      let o := ownerAt i (resLdie e) (resBank e) q
      ((List.range (u.beam - q)).map (fun k => q + k)).findSome? (fun p =>
        ((List.range o.count).map (fun l => o.first + l)).findSome? (fun l =>
          if bankKept i (resLdie e) l p (p + 1) then none
          else (entryAt i (resLdie e) l (p + 1)).bind (fun x => i.banks.findIdx? (· == x))))
    | none => none
  | none => none

/-- A BANKS entry holds a non-zero reserved byte. -/
def bankReserved (b : Bytes) : Bool := !(zeroAt b 7 1 && zeroAt b 12 4)

/-- Check 0x4321. -/
def checkBanks (n : Nor) (binding : List Nat) (b : Bytes) (i : Image) : Option CheckFail :=
  let us := planUses i
  failAt 0x4321 4 (entriesOf (rawSection b 4) 16) bankReserved
  <|> failAtPlace 0x4321 4 i.banks (fun k e => bankBad n binding i e || (i.banks.take k).any (banksMeet e))
  <|> (us.find? (t0UseBad i)).map (fun u => { event := 0x4321, part := 5, entry := u.beam })
  <|> (us.findSome? (regroupOf i us)).map (fun k => { event := 0x4321, part := 4, entry := k })

/-! ## Routes (R97) -/

/-- A ROUTES entry is bad; its reserved bytes too (DEDUCED, log 41). -/
def routeBad (i : Image) (b : Bytes) : Bool :=
  let r := parseRoute b
  decide (2 < r.kind) || (if r.kind = 2 then r.hops != 0 else decide (r.hops < 1) || decide (7 < r.hops))
    || [r.src, r.dst].any (fun x => decide (i.logicalDies ≤ x) && !(r.kind == 2 && x == 0xFF)) || !zeroAt b 6 10

/-- Check 0x4322. -/
def checkRoutes (b : Bytes) (i : Image) : Option CheckFail := failAt 0x4322 3 (entriesOf (rawSection b 3) 16) (routeBad i)

end Sys2Proof.Machine
end

