-- ==== Sys2Proof/Machine/CheckBuoys.lean ====
section
/-! DEFINITION. The image check: buoys, moorings, landing windows, hold inputs, accesses, residences and deep homes (checks 0x4323 to 0x4326,
0x5010 to 0x5012, 0x4A10 to 0x4A14, 0x4C10; R25, R100, R101, R337, R342 to R350, R353, R419, R565, R569, R570). -/
namespace Sys2Proof.Machine

/-! ## Buoys (R101, R348, R349) -/

/-- The flag pairs that exclude each other (Table 10.3). -/
def flagPairs : List (Nat × Nat) :=
  [(7, 8), (7, 3), (7, 13), (0, 4), (10, 2), (12, 2), (12, 7), (12, 13), (13, 6), (13, 8)]

/-- The home of a buoy that this member owns, in local T1: its offset and length (R337). -/
def localHome (i : Image) (e : BuoyEntry) : Option (Nat × Nat) :=
  if ownedHere i e && e.initTier == 1 then some (e.initOffset, homeBytes e) else none

/-- Two runs, offset and length, share a byte. -/
def runsMeet (a b : Nat × Nat) : Bool := meets (a.1, a.1 + a.2) (b.1, b.1 + b.2)

/-- The first run lies wholly in the second. -/
def runWithin (a b : Nat × Nat) : Bool := decide (b.1 ≤ a.1) && decide (a.1 + a.2 ≤ b.1 + b.2)

/-- The host region as a run. -/
def regionRun (h : HostSite) : Nat × Nat := (h.regionBase, regionSize h)

/-- The image store as a run, up to the end of backed T1 (R24, R104). -/
def storeRun (l : Lpd) : Nat × Nat := (imageStoreBase l, 4 * 2 ^ 30)

/-- A local home meets a condition. -/
def homeIs (i : Image) (e : BuoyEntry) (f : Nat × Nat → Bool) : Bool := (localHome i e).elim false f

/-- The rules of R349. -/
def flagsBad (h : HostSite) (i : Image) (e : BuoyEntry) : Bool :=
  let own := ownedHere i e
  flagPairs.any (fun x => hasFlag e x.1 && hasFlag e x.2)
    || (own && ((e.initTier == 3 && hasFlag e 6) || (hasFlag e 13 && e.initTier != 3)))
    || (if hasFlag e 12 then !homeIs i e (fun x => runWithin x (regionRun h)) else homeIs i e (fun x => runsMeet x (regionRun h)))
    || (!own && [7, 10, 12].any (hasFlag e))

/-- A BUOYS entry breaks check 0x4324; what R337 ignores of another member's buoy is not looked at. -/
def buoyBad (h : HostSite) (i : Image) (k : Nat) (e : BuoyEntry) : Bool :=
  decide (2 ^ 14 ≤ e.flags) || e.id == 0 || repeated (·.id) i.buoys k e || (elemOf e.format).isNone || decide (1 < e.shape)
    || (ownedHere i e && e.initTier != 1 && e.initTier != 3) || flagsBad h i e

/-- The least bad place, of the bytes carried and of the entries they give. -/
def failBoth {α : Type} (event part : Nat) (raw : List Bytes) (bytesBad : Bytes → Bool) (xs : List α) (bad : Nat → α → Bool) :
    Option CheckFail :=
  (leastOf (firstBad bytesBad raw) (firstBad (fun (x : α × Nat) => bad x.2 x.1) xs.zipIdx)).map
    (fun k => { event := event, part := part, entry := k })

/-- Checks 0x4323 and 0x4324. -/
def checkBuoys (h : HostSite) (b : Bytes) (i : Image) : Option CheckFail :=
  failAt 0x4323 7 i.buoys (fun e => e.size == 0)
  <|> failBoth 0x4324 7 (entriesOf (rawSection b 7) 64) (fun x => !zeroAt x 0x3A 6) i.buoys (buoyBad h i)

/-! ## Demand on T1 (0x4325) -/

/-- The enabled landing windows of a set, as runs (R563). -/
def windowRuns (r : Rws) : List (Nat × Nat) :=
  ((List.range 16).filter (winEnabled r)).map (fun n => (winBase r n, winSize r n))

/-- A run reaches an unbacked offset or the image store (R25). -/
def runBad (l : Lpd) (x : Nat × Nat) : Bool := decide (t1Cap l < x.1 + x.2) || runsMeet x (storeRun l)

/-- The T1 demand of the staged set. -/
def t1Demand (h : HostSite) (r : Rws) (i : Image) : Nat :=
  let fixed := regionRun h :: windowRuns r
  let homes := (i.buoys.filterMap (localHome i)).filter (fun x => !fixed.any (runsMeet x))
  ((fixed ++ homes).map (·.2)).sum + (i.orbit.map (fun o => o.ckptMib * 2 ^ 20)).getD 0

/-- Check 0x4325. -/
def checkDemand (s : State) (i : Image) : Option CheckFail :=
  failAt 0x4325 7 i.buoys (fun e => homeIs i e (runBad s.lpd))
  <|> failWhen ((regionRun s.host :: windowRuns s.shadow).any (runBad s.lpd)) 0x4325 0 0
  <|> failWhen (decide (t1Mib s.lpd * 2 ^ 20 < t1Demand s.host s.shadow i + 4 * 2 ^ 30)) 0x4325 0 noEntry

/-! ## The host site (R565, R569, R570) -/

/-- An enabled window breaks check 0x5010. -/
def windowBad (s : State) (i : Image) (n : Nat) : Bool :=
  let r := s.shadow
  let x := (winBase r n, winSize r n)
  winProducer r n == 3 || (winEnabled r n && (winSize r n == 0 || decide (t1Cap s.lpd < x.1 + x.2) || runsMeet x (regionRun s.host)
    || runsMeet x (storeRun s.lpd) || (List.range n).any (fun m => winEnabled r m && runsMeet x (winBase r m, winSize r m))
    || decide (planBeams i ≤ winRelease r n)))

/-- Where a window's failing register is reported: its REGS entry, or no section where software wrote the shadow (DEDUCED, log 42). -/
def windowPlace (i : Image) (n : Nat) : Nat × Nat :=
  match i.regs.findIdx? (fun e => regAt e.offset == some (.lwRange n) || regAt e.offset == some (.lwCtrl n)) with
  | some k => (12, k)
  | none => (0, 0)

/-- The windows that a home touches. -/
def windowsTouched (r : Rws) (x : Nat × Nat) : List Nat :=
  (List.range 16).filter (fun n => winEnabled r n && runsMeet x (winBase r n, winSize r n))

/-- The window of a landing buoy. -/
def landingWindow (r : Rws) (i : Image) (e : BuoyEntry) : Option Nat := (localHome i e).bind (fun x => (windowsTouched r x).head?)

/-- A landing buoy breaks check 0x5011. -/
def landingBad (r : Rws) (i : Image) (e : BuoyEntry) : Bool :=
  match localHome i e with
  | none => false
  | some x =>
    match windowsTouched r x with
    | [] => false
    | n :: rest =>
      !rest.isEmpty || !runWithin x (winBase r n, winSize r n - 64) || [8, 5, 6].any (fun f => !hasFlag e f) || hasFlag e 1 || hasFlag e 2

/-- A hold input reference is not one of a window that is enabled or of a host flag (Table 16.5). -/
def inputBad (r : Rws) (x : Nat) : Bool :=
  let k := bits x 31 28
  let n := bits x 7 0
  bits x 27 8 != 0 || !((k == 1 && decide (n < 16) && winEnabled r n) || (k == 2 && decide (n < 64)))

/-- The plan beams that carry a hold point. -/
def beamsOfHold (i : Image) (h : Nat) : List Nat :=
  (List.range (planBeams i)).filter (fun p => (planRec i p).any (fun x => x.hold == h))

/-- The windows that a hold point names. -/
def holdWindows (xs : List Nat) : List Nat := (xs.filter (fun x => bits x 31 28 == 1)).map (fun x => bits x 7 0)

/-- A hold point breaks check 0x5012. -/
def holdBad (r : Rws) (i : Image) (k : Nat) (xs : List Nat) : Bool :=
  xs.any (inputBad r)
    || (holdWindows xs).any (fun n =>
        (i.plans.holds.take k).any (fun ys => (holdWindows ys).contains n)
          || (beamsOfHold i k).any (fun p => decide (winRelease r n ≤ p)))

/-- The plan beams in which a window's landing buoys may be accessed: from a beam of the hold point that names it, below RELEASE. -/
def windowOpen (r : Rws) (i : Image) (n p : Nat) : Bool :=
  decide (p < winRelease r n)
    && i.plans.holds.zipIdx.any (fun x => (holdWindows x.1).contains n && (beamsOfHold i x.2).any (fun q => decide (q ≤ p)))

/-- A task accesses a landing buoy outside its plan beams. -/
def landingUseBad (r : Rws) (i : Image) (u : PlanUse) : Bool :=
  match (buoyEntry i u.acc.buoy).bind (landingWindow r i) with
  | some n => !windowOpen r i n u.beam
  | none => false

/-- Checks 0x5010 to 0x5012. -/
def checkHostSite (s : State) (i : Image) : Option CheckFail :=
  let r := s.shadow
  ((List.range 16).find? (windowBad s i)).map
    (fun n => { event := 0x5010, part := (windowPlace i n).1, entry := (windowPlace i n).2 })
  <|> failAt 0x5011 7 i.buoys (landingBad r i)
  <|> (firstBad (fun (x : List Nat × Nat) => holdBad r i x.2 x.1) i.plans.holds.zipIdx).map
        (fun k => { event := 0x5012, part := 5, entry := (beamsOfHold i k).headD 0 })
  <|> ((planUses i).find? (landingUseBad r i)).map (fun u => { event := 0x5012, part := 5, entry := u.beam })

/-! ## Accesses (0x4326) -/

/-- An access record's bytes hold a non-zero reserved byte. -/
def accessReserved (b : Bytes) : Bool := !zeroAt b 14 2

/-- An access record breaks check 0x4326; reserved encodings of BUDGET and MODE too (DEDUCED, log 42). -/
def accessBad (i : Image) (a : Access) : Bool :=
  match buoyEntry i a.buoy with
  | none => true
  | some e =>
    decide (3 < a.budget) || decide (a.mode < 1) || decide (3 < a.mode) || (a.count != 0 && decide (buoyTiles e < a.first + a.count))
      || (a.budget == 3 && (accWrites a || hasFlag e 6)) || (hasFlag e 10 && decide (1 < a.budget))

/-- The access records of the PLANS section as its bytes. -/
def rawAccesses (b : Bytes) : List Bytes :=
  let x := (rawSection b 5).1
  tableAt x (natAt x 0x20 8) (natAt x 8 4) 16

/-- Check 0x4326: it reports the plan beam (R112). -/
def checkAccesses (b : Bytes) (i : Image) : Option CheckFail :=
  let raw := rawAccesses b
  ((List.range (planBeams i)).find? (fun p => (tasksOf i p).any (fun t =>
      (checkAccs i t).any (accessBad i) || ((raw.drop t.accFirst).take t.accCount).any accessReserved))).map
    (fun p => { event := 0x4326, part := 5, entry := p })

/-! ## Residences (0x4A10, 0x4A11) -/

/-- The window fields of a buoy are not well formed (Table 10.1). -/
def windowFieldsBad (i : Image) (e : BuoyEntry) : Bool :=
  let ws := windowsOf e
  winCtrl e % 4 == 3 || decide (64 ≤ winCtrl e) || decide (3 < fillTier e) || (ws.any (·.fill) != (fillTier e != 0))
    || ws.any (fun w => decide (w.to_ < w.from_) || decide (planBeams i ≤ w.to_) || (w.fill && w.from_ == 0)
        || (w.wb && (decide (planBeams i ≤ w.to_ + 2) || !hasFlag e 1)))
    || (match ws with
        | [a, b] => meets (occupation a) (occupation b)
        | _ => false)
    || (pinnedT0 e && !ws.isEmpty)

/-- A residence lies in the partition that starts at T0_BANK in plan beam p, and the partition is ON. -/
def residenceFits (i : Image) (e : BuoyEntry) (p : Nat) : Bool :=
  let o := ownerAt i (resLdie e) (resBank e) p
  (resLdie e == 0xFF || decide (resLdie e < i.logicalDies)) && o.first == resBank e && o.power == 0
    && decide (resBank e < (if resLdie e = 0xFF then 16 else 32)) && decide (resWord e + buoyWords e ≤ o.count * bankWords)

/-- The plan beams in which a buoy is resident. -/
def residentBeams (i : Image) (e : BuoyEntry) : List Nat := (List.range (planBeams i)).filter (resident e)

/-- A task's records of a buoy are all writes (R347). -/
def onlyWrites (i : Image) (id : Nat) (t : TaskEntry) : Bool :=
  ((checkAccs i t).filter (fun a => a.count != 0 && a.buoy == id)).all (fun a => a.mode == 2)

/-- The first access to a buoy among some uses is a write: a task whose records of it are all writes comes before every other (R347). -/
def firstIsWrite (i : Image) (id : Nat) (us : List PlanUse) : Bool :=
  us.isEmpty || us.any (fun u => onlyWrites i id u.task && us.all (fun v => v.place == u.place || planBefore i u.beam u.task v.beam v.task))

/-- Every writing task is ordered with the other tasks of its plan beam that access the buoy (R347). -/
def writersOrdered (i : Image) (us : List PlanUse) : Bool :=
  us.all (fun u => !accWrites u.acc || us.all (fun v => v.beam != u.beam || v.place == u.place || areOrdered (tasksOf i u.beam) u.task v.task))

/-- A use lies in a window of plan beams. -/
def useInWindow (w : Window) (u : PlanUse) : Bool := decide (w.from_ ≤ u.beam) && decide (u.beam ≤ w.to_)

/-- The uses of a buoy break a rule of its windows or of its pin (R344 to R347). -/
def residenceUseBad (i : Image) (us : List PlanUse) (e : BuoyEntry) : Bool :=
  let own := us.filter (fun u => u.acc.buoy == e.id)
  if pinnedT0 e then !(firstIsWrite i e.id own && writersOrdered i own)
  else (windowsOf e).any (fun w =>
    (!w.wb && own.any (fun u => accWrites u.acc && useInWindow w u))
      || (w.wb && own.any (fun u => accWrites u.acc && u.beam == w.to_ + 1))
      || (!w.fill && !firstIsWrite i e.id (own.filter (useInWindow w))))

/-- A buoy breaks check 0x4A10. -/
def residenceBad (i : Image) (us : List PlanUse) (e : BuoyEntry) : Bool :=
  windowFieldsBad i e || (residentBeams i e).any (fun p => !residenceFits i e p) || residenceUseBad i us e

/-- The PIN_T0 buoys of an image. -/
def pinnedBuoys (i : Image) : List BuoyEntry := i.buoys.filter pinnedT0

/-- The place at which a delta adds or changes a PIN_T0 buoy, or no entry where it removes one. -/
def pinChange (live i : Image) : Option Nat :=
  match i.buoys.findIdx? (fun e => (pinnedT0 e && !(pinnedBuoys live).contains e) || (!pinnedT0 e && (pinnedBuoys live).any (fun x => x.id == e.id))) with
  | some k => some k
  | none => if (pinnedBuoys live).all (fun e => (pinnedBuoys i).contains e) then none else some noEntry

/-- Two buoys' residences hold one word in one plan beam. -/
def residencesMeet (binding : List Nat) (i : Image) (e f : BuoyEntry) : Bool :=
  (List.range (planBeams i)).any (fun p => resident e p && resident f p
    && overlaps (residenceAt binding i e p) (homeBytes e) (residenceAt binding i f p) (homeBytes f))

/-- Two buoys' homes overlap. -/
def homesMeet (i : Image) (e f : BuoyEntry) : Bool :=
  match localHome i e, localHome i f with
  | some x, some y => runsMeet x y
  | _, _ => false

/-- A buoy's residence or home shares space with an earlier one's (0x4A11). -/
def placeTaken (binding : List Nat) (i : Image) (k : Nat) (e : BuoyEntry) : Bool :=
  (i.buoys.take k).any (fun f => homesMeet i f e || residencesMeet binding i f e)

/-- An access breaks R350. -/
def budgetBad (i : Image) (u : PlanUse) : Bool :=
  match buoyEntry i u.acc.buoy with
  | none => false
  | some e =>
    let home := (localHome i e).isSome
    let b := u.acc.budget
    (hasFlag e 13 && b != 3) || (b == 0 && !pinnedT0 e && !inWindow0 e u.beam) || (b == 1 && !home)
      || (b == 2 && !home && !(hasFlag e 2 && !ownedHere i e))

/-- A task writes a buoy that it may not, or accesses another member's that is not SHARED (0x4A14). -/
def shareBad (i : Image) (u : PlanUse) : Bool :=
  match buoyEntry i u.acc.buoy with
  | none => false
  | some e => (accWrites u.acc && (!hasFlag e 1 || !ownedHere i e)) || (!ownedHere i e && !hasFlag e 2)

/-- A failure of an access: it reports the plan beam (R112). -/
def failUse (event : Nat) (us : List PlanUse) (bad : PlanUse → Bool) : Option CheckFail :=
  (us.find? bad).map (fun u => { event := event, part := 5, entry := u.beam })

/-- Checks 0x4A10 to 0x4A14 (Table 10.4); a delta's are made beside the live image. -/
def checkPlacement (binding : List Nat) (live : Option Image) (i : Image) : Option CheckFail :=
  let us := planUses i
  failAt 0x4A10 7 i.buoys (residenceBad i us)
  <|> ((live.bind (fun l => pinChange l i)).map (fun k => { event := 0x4A10, part := 7, entry := k }))
  <|> failAtPlace 0x4A11 7 i.buoys (placeTaken binding i)
  <|> failUse 0x4A12 us (budgetBad i)
  <|> failWhen (decide (262144 < i.buoys.length)) 0x4A13 0 noEntry
  <|> failUse 0x4A14 us (shareBad i)

/-! ## Deep homes (0x4C10) -/

/-- The bytes that the deep homes of an image need, an anchor's twice (R419). -/
def deepDemand (i : Image) : Nat :=
  ((i.buoys.filter (fun e => ownedHere i e && e.initTier == 3)).map (fun e => homeBytes e * (if hasFlag e 13 then 2 else 1))).sum

/-- Check 0x4C10. -/
def checkDeep (d : Deep) (i : Image) : Option CheckFail := failWhen (decide (t3Gib d * 2 ^ 30 < deepDemand i)) 0x4C10 0 noEntry

end Sys2Proof.Machine
end

