-- ==== Sys2Proof/Machine/CheckPrograms.lean ====
section
/-! DEFINITION. The image check: vector programs (check 0x432E; R242, R245 to R250, R254 to R258, R262 to R265). -/
namespace Sys2Proof.Machine

/-! ## Words (R245, R247, Table 7.6) -/

/-- What an opcode uses of its word: its element types, the highest number each register field may name (0 where the instruction does
not use it), whether BS is allowed, whether M is, the highest SUB, and the highest IMM. -/
structure WordShape where
  ets : List Nat
  d : Nat := 0
  a : Nat := 0
  b : Nat := 0
  c : Nat := 0
  bs : Bool := false
  mask : Bool := false
  sub : Nat := 0
  imm : Nat := 0
  deriving DecidableEq, Repr

/-- The shape of an element-wise instruction: two vector sources, the second a scalar with BS 1. -/
def binaryShape (ets : List Nat) : WordShape := { ets := ets, d := 31, a := 31, b := 31, bs := true, mask := true }

/-- The shape of an element-wise instruction of one source. -/
def unaryShape (ets : List Nat) : WordShape := { ets := ets, d := 31, a := 31, mask := true }

/-- The shape of an instruction on scalar registers. -/
def scalarShape (d a b imm : Nat) : WordShape := { ets := [0], d := d, a := a, b := b, imm := imm }

/-- The shape of a reduction. -/
def reduceShape : WordShape := { ets := [0], d := 15, a := 31, mask := true }

/-- The shape of an opcode other than LOOP; none for a reserved one (Table 7.6). -/
def wordShape (op : Nat) : Option WordShape :=
  match op with
  | 0x00 => some { ets := [0] }
  | 0x01 => some { ets := [0] }
  | 0x02 => some { ets := [0], bs := true, imm := 0xFFFFFF }
  | 0x08 => some (scalarShape 15 0 0 0xFFFF)
  | 0x09 => some (scalarShape 15 0 0 0xFFFF)
  | 0x0A => some { scalarShape 15 15 0 0xFFFFFF with bs := true }
  | 0x0B => some { scalarShape 15 15 0 0xFFFFFF with bs := true }
  | 0x0C => some (scalarShape 15 15 15 0)
  | 0x0D => some (scalarShape 15 0 0 11)
  | 0x10 => some (scalarShape 15 15 15 0)
  | 0x11 => some (scalarShape 15 15 15 0)
  | 0x12 => some (scalarShape 15 15 15 0)
  | 0x13 => some (scalarShape 15 15 15 0)
  | 0x14 => some (scalarShape 15 15 0 0)
  | 0x15 => some (scalarShape 15 15 0 0)
  | 0x16 => some (scalarShape 15 15 15 0)
  | 0x17 => some (scalarShape 15 15 15 0)
  | 0x18 => some (scalarShape 0 15 0 0)
  | 0x20 => some (binaryShape [0, 1, 2, 3, 4])
  | 0x21 => some (binaryShape [0, 1, 2, 3, 4])
  | 0x22 => some (binaryShape [0, 1, 2, 3, 4])
  | 0x23 => some { binaryShape [0, 1, 2] with c := 31 }
  | 0x24 => some (binaryShape [0, 1, 2, 3, 4])
  | 0x25 => some (binaryShape [0, 1, 2, 3, 4])
  | 0x26 => some (unaryShape [0, 1, 2, 3])
  | 0x27 => some (unaryShape [0, 1, 2, 3])
  | 0x28 => some (binaryShape [0])
  | 0x29 => some (unaryShape [0])
  | 0x2A => some (unaryShape [0])
  | 0x2B => some (unaryShape [0])
  | 0x2C => some (unaryShape [0])
  | 0x2D => some (unaryShape [0])
  | 0x2E => some (unaryShape [0])
  | 0x2F => some (unaryShape [0])
  | 0x30 => some (binaryShape [3, 4])
  | 0x31 => some (binaryShape [3, 4])
  | 0x32 => some (binaryShape [3, 4])
  | 0x33 => some (binaryShape [3, 4])
  | 0x34 => some (binaryShape [3, 4])
  | 0x35 => some (binaryShape [0, 1, 2, 3, 4, 5])
  | 0x36 => some { unaryShape [0, 1, 2, 3, 4, 5] with bs := true }
  | 0x37 => some { ets := [3], d := 31, mask := true, imm := 0xFFFFFF }
  | 0x38 => some { unaryShape [0, 1, 2, 3, 4, 5] with sub := 5, imm := 0xFFFF }
  | 0x40 => some { binaryShape [0, 1, 2, 3, 4] with d := 3, sub := 7 }
  | 0x41 => some { ets := [0], d := 3, a := 3, b := 3, mask := true, sub := 6 }
  | 0x42 => some { ets := [0], d := 15, a := 3, mask := true }
  | 0x48 => some reduceShape
  | 0x49 => some reduceShape
  | 0x4A => some reduceShape
  | 0x4B => some reduceShape
  | 0x4C => some reduceShape
  | 0x4D => some reduceShape
  | 0x60 => some { ets := [0], d := 3, a := 7, bs := true, imm := 0xFFFFFF }
  | 0x61 => some { ets := [0], d := 3 }
  | 0x62 => some { ets := [0, 1, 2, 3, 4, 5], d := 31, a := 3, bs := true, mask := true, sub := 1, imm := 0xFFFF }
  | 0x63 => some { ets := [0], d := 3, a := 7, bs := true, sub := 1, imm := 0xFFFFFF }
  | 0x64 => some { ets := [0, 1, 2, 3, 4], d := 3, a := 31, bs := true, mask := true, imm := 0xFFFF }
  | 0x65 => some { ets := [0, 1, 2, 3, 4], d := 31, a := 3, bs := true, mask := true, imm := 0xFFFF }
  | 0x66 => some { ets := [0], d := 3, imm := 0x1FFFF }
  | _ => none

/-- B of a word: with BS 1 a scalar; unused where the instruction takes no second source or SUB leaves it unused. -/
def highestB (op : Nat) (sh : WordShape) (w : VWord) : Nat :=
  if w.bs then 15
  else if (op = 0x40 ∧ w.sub = 7) ∨ (op = 0x41 ∧ 4 ≤ w.sub.toNat) then 0
  else if op = 0x36 then 0
  else sh.b

/-- A of a word, unused by VMOV with BS 1 and by MOP with SUB 5 and 6. -/
def highestA (op : Nat) (sh : WordShape) (w : VWord) : Nat :=
  if (op = 0x36 ∧ w.bs) ∨ (op = 0x41 ∧ 5 ≤ w.sub.toNat) then 0 else sh.a

/-- IMM of a word, unused by SETVL, SADD and SSUB with BS 1. -/
def highestImm (op : Nat) (sh : WordShape) (w : VWord) : Nat :=
  if w.bs && (op == 0x02 || op == 0x0A || op == 0x0B) then 0 else sh.imm

/-- A side of VCVT is B8. -/
def isB8 (x : Nat) : Bool := x == 5

/-- VCVT's IMM is one that R265 gives: PART as the narrower side allows, ROUND 0 or 1, the 8-bit format only with a B8 side. -/
def vcvtOk (dst src imm : Nat) : Bool :=
  let part := bits imm 5 4
  let code := bits imm 15 8
  let top := if isB8 dst || isB8 src then 3 else if etBytes dst = 2 || etBytes src = 2 then 1 else 0
  bits imm 7 6 == 0 && bits imm 3 2 == 0 && decide (bits imm 1 0 ≤ 1)
    && (if isB8 dst || isB8 src then [0x04, 0x05, 0x10].contains code else code == 0) && decide (part ≤ top)

/-- The ET of a VLD for its SUB (R254). -/
def vldEt (sub et : Nat) : Bool := if sub = 0 then [0, 3, 4].contains et else decide (1 ≤ et)

/-- What an opcode asks beyond its shape: R254, R263, R264, R265, and M 0 of VSEL (Table 7.6). -/
def wordRule (op : Nat) (w : VWord) : Bool :=
  match op with
  | 0x2E => w.d.toNat % 2 == 0
  | 0x2F => w.a.toNat % 2 == 0
  | 0x35 => !w.m
  | 0x38 => vcvtOk w.et.toNat w.sub.toNat w.imm.toNat
  | 0x40 => !(w.sub == 7 && w.bs)
  | 0x62 => vldEt w.sub.toNat w.et.toNat
  | _ => true

/-- What an update program may not hold (R262). -/
def updateRule (op : Nat) (w : VWord) : Bool :=
  !((w.et == 1 || w.et == 2) && op != 0x36 && op != 0x38) && !(op == 0x62 && w.sub == 1)

/-- A word other than LOOP is a valid encoding (R245, R247). -/
def wordOk (update : Bool) (x : W64) : Bool :=
  let op := (wordOp x).toNat
  let w := VWord.decode x
  match wordShape op with
  | none => false
  | some sh =>
    sh.ets.contains w.et.toNat && decide (w.d.toNat ≤ sh.d) && decide (w.a.toNat ≤ highestA op sh w)
      && decide (w.b.toNat ≤ highestB op sh w) && decide (w.c.toNat ≤ sh.c) && (sh.bs || !w.bs)
      && (sh.mask || !w.m) && (w.m || op == 0x35 || w.mr == 0) && decide (w.sub.toNat ≤ sh.sub)
      && decide (w.imm.toNat ≤ highestImm op sh w) && wordRule op w && (!update || updateRule op w)

/-! ## Loops (R249, R250) -/

/-- A word is a LOOP. -/
def isLoop (x : W64) : Bool := wordOp x == 0x03

/-- BODY of a LOOP word. -/
def loopBody (x : W64) : Nat := (x.extractLsb' 32 16).toNat

/-- COUNT of a LOOP word. -/
def loopCount (x : W64) : Nat := (x.extractLsb' 0 32).toNat

/-- The word at place k of a program of n words is bad beside the ends of the loops that enclose it, innermost first. -/
def wordBad (update : Bool) (n k : Nat) (ends : List Nat) (x : W64) : Bool :=
  if isLoop x then
    x.extractLsb' 48 8 != 0 || loopBody x == 0 || decide (n ≤ k + 1 + loopBody x)
      || decide (ends.headD n < k + 1 + loopBody x) || decide (4 ≤ ends.length)
  else ((wordOp x == 0x01) != (k + 1 == n)) || !wordOk update x

/-- The first bad word from place k on. -/
def badWord (update : Bool) (n : Nat) : Nat → List Nat → List W64 → Option Nat
  | _, _, [] => none
  | k, ends, x :: xs =>
    let open_ := ends.filter (fun e => decide (k < e))
    if wordBad update n k open_ x then some k
    else badWord update n (k + 1) (if isLoop x then (k + 1 + loopBody x) :: open_ else open_) xs

/-! ## Buffers (R258) -/

/-- What has been loaded and opened as the words are judged in program order: read buffers loaded; write buffers open, with the place that
opened each; loops entered, with the first and the end of each body. -/
structure BufScan where
  loaded : List Nat := []
  opened : List (Nat × Nat) := []
  bodies : List (Nat × Nat) := []
  deriving DecidableEq, Repr

/-- A write buffer is open. -/
def bufOpen (b : BufScan) (d : Nat) : Bool := b.opened.any (fun x => x.1 == d)

/-- A body that ends at place k left a buffer open that it had opened. -/
def bodyLeaves (b : BufScan) (k : Nat) : Bool :=
  b.bodies.any (fun x => x.2 == k && b.opened.any (fun y => decide (x.1 ≤ y.2)))

/-- A word breaks R258. -/
def bufBad (b : BufScan) (k : Nat) (x : W64) : Bool :=
  let w := VWord.decode x
  bodyLeaves b k ||
  match (wordOp x).toNat with
  | 0x01 => !b.opened.isEmpty
  | 0x62 => !b.loaded.contains w.a.toNat
  | 0x63 => bufOpen b w.d.toNat
  | 0x64 => !bufOpen b w.d.toNat
  | 0x65 => !bufOpen b w.a.toNat
  | 0x66 => !bufOpen b w.d.toNat
  | _ => false

/-- The buffers after a word. -/
def bufAfter (b : BufScan) (k : Nat) (x : W64) : BufScan :=
  let w := VWord.decode x
  match (wordOp x).toNat with
  | 0x03 => { b with bodies := (k + 1, k + 1 + loopBody x) :: b.bodies }
  | 0x60 => { b with loaded := w.d.toNat :: b.loaded }
  | 0x61 => { b with loaded := w.d.toNat :: b.loaded }
  | 0x63 => { b with opened := (w.d.toNat, k) :: b.opened }
  | 0x66 => { b with opened := b.opened.filter (fun y => y.1 != w.d.toNat) }
  | _ => b

/-- The first word from place k on that breaks R258. -/
def badBuffer : Nat → BufScan → List W64 → Option Nat
  | _, _, [] => none
  | k, b, x :: xs => if bufBad b k x then some k else badBuffer (k + 1) (bufAfter b k x) xs

/-! ## Programs (R242) -/

/-- The words of a program. -/
def programWords (u : Update) (p : ProgDesc) : List W64 := (u.words.drop p.first).take p.count

/-- A program's descriptor is bad: reserved bits, no words, or words outside the body. -/
def progBad (u : Update) (k : Nat) (p : ProgDesc) : Bool :=
  (u.words.getD k 0).extractLsb' 49 15 != 0 || p.count == 0 || decide (p.first < u.progs.length)
    || decide (u.words.length < p.first + p.count)

/-- The first bad word of a program, by its entry in the UPDATE section. -/
def programBroken (u : Update) (p : ProgDesc) : Option Nat :=
  let ws := programWords u p
  (leastOf (badWord p.update ws.length 0 [] ws) (badBuffer 0 {} ws)).map (p.first + ·)

/-- The lowest place of several. -/
def lowest (xs : List Nat) : Option Nat := xs.foldl (fun m x => leastOf m (some x)) none

/-- Check 0x432E. -/
def checkPrograms (i : Image) : Option CheckFail :=
  let u := i.update
  failAtPlace 0x432E 9 u.progs (progBad u)
  <|> (lowest (u.progs.filterMap (programBroken u))).map (fun k => { event := 0x432E, part := 9, entry := k })

end Sys2Proof.Machine
end

