-- ==== Sys2Proof/Machine/Gather.lean ====
section
/-! DEFINITION. The gather-scatter engine (chapter 08, R301 to R305). -/
namespace Sys2Proof.Machine

/-! ## The descriptor and the rows (R301, R302) -/

/-- W. -/
def rowWidth (t : TaskEntry) : Nat := 128 * 2 ^ payloadField t 134 131
/-- COUNT. -/
def gseCount (t : TaskEntry) : Nat := payloadField t 191 160
/-- ROW0. -/
def gseRow0 (t : TaskEntry) : Nat := payloadField t 223 192
/-- IDX_E0. -/
def gseIdx0 (t : TaskEntry) : Nat := payloadField t 255 224
/-- The table access. -/
def tableAcc (t : TaskEntry) : Nat := payloadField t 40 38
/-- The data access: output of GATHER, source of SCATTER_ADD. -/
def dataAcc (t : TaskEntry) : Nat := payloadField t 37 35
/-- The write ordinal. -/
def gseOrdinal (t : TaskEntry) : Nat := payloadField t 130 115
/-- SCATTER_ADD. -/
def isScatter (t : TaskEntry) : Bool := payloadField t 51 44 == 2

/-- The code of a gather-scatter engine (R617). -/
def gseCode (die : Nat) : Nat := engineCode die 5

/-- A tile of an access by its index in the buoy; none where it lies outside the access record. -/
def buoyTileRef (i : Image) (r : RunTask) (acc tile : Nat) : Option TileRef :=
  match r.accs[acc]? with
  | some a => if a.first ≤ tile then tileRef i r acc (tile - a.first) else none
  | none => none

/-- The indices of the tiles that elements e to e + n − 1 of a buoy lie in. -/
def tilesOfElems (e n : Nat) : List Nat := if n = 0 then [] else (List.range ((e + n - 1) / 16384 - e / 16384 + 1)).map (· + e / 16384)

/-- Tiles of a buoy that hold a run of its elements. -/
def elemRefs (i : Image) (r : RunTask) (acc e n : Nat) : Option (List TileRef) := (tilesOfElems e n).mapM (buoyTileRef i r acc)

/-- n elements of a buoy from element e on, out of the tiles that hold them. -/
def elemsOf {α : Type} (e n : Nat) (tiles : List (List α)) : List α := ((tiles.flatMap id).drop (e % 16384)).take n

/-- Rows of the table: SIZE / (W × element bytes) (R301). -/
def tableRows (i : Image) (t : RunTask) : Nat :=
  match (t.accs[tableAcc t.task]?).bind (fun a => buoyEntry i a.buoy) with
  | some e => (elemOf e.format).elim 0 (fun el => e.size * 8 / (rowWidth t.task * el.width))
  | none => 0

/-! ## Indices (R303) -/

/-- The padding index. -/
def padIndex : Nat := 0xFFFFFFFF

/-- The first index that names no row: its element and its value. -/
def badIndex (rows : Nat) : Nat → List Nat → Option (Nat × Nat)
  | _, [] => none
  | e, x :: xs => if x = padIndex || x < rows then badIndex rows (e + 1) xs else some (e, x)

/-- The indices of the task's rows. -/
def gseIndices (t : RunTask) (ts : List (Header × Bytes)) : List Nat :=
  elemsOf (gseIdx0 t.task) (gseCount t.task) (ts.map (fun x => tileElems x.2))

/-! ## GATHER (R304) -/

/-- An element as a row's copy takes it: its value in FP32, its own bits, its block's scale, and whether its tile has TSE 127 and STEP 0. -/
structure SrcElem where
  value : Nat := 0
  code : Nat := 0
  scale : Nat := 127
  plain : Bool := false
  deriving DecidableEq, Repr

/-- The elements of a tile; 32-bit integers widen to FP32 too (R135). -/
def srcElems (h : Header) (b : Bytes) : List SrcElem :=
  match elemOf h.format with
  | none => []
  | some e =>
    let codes := payloadCodes e (b.drop 64)
    let vals := (tileValues h e (b.drop 64)).map widenF32
    let scales := if e.isMx then elemScales e h.axis (b.drop 64) else List.replicate 16384 127
    List.zipWith (fun (c : Nat × Nat) (v : Nat) => ⟨v, c.1, c.2, h.tse == 127 && h.step == 0⟩) (codes.zip scales) vals

/-- The payload of a narrowed tile in which some elements keep the bits of their source, and their blocks' scales. -/
def keepBits (e : Elem) (payload : Bytes) (xs : List (Option SrcElem)) : Bytes :=
  let codes := List.zipWith (fun (c : Nat) (x : Option SrcElem) => x.elim c (·.code)) (payloadCodes e payload) xs
  let scales := (payload.drop (2048 * e.width))
  let firsts := (List.range 512).map (fun k => xs.getD (32 * k) none)
  packElems e.width codes ++
    (if e.isMx then List.zipWith (fun (b : Byte) (x : Option SrcElem) => x.elim b (fun y => BitVec.ofNat 8 y.scale)) scales firsts else [])

/-- Elements narrowed into a tile, those of `same` copied bit for bit where the tile has TSE 127 and STEP 0 (R304, R308). -/
def writeCopied (who : Nat) (i : Image) (t : RunTask) (r : TileRef) (ordinal : Nat) (axis : Bool) (xs : List SrcElem) (same : SrcElem → Bool)
    (s : State) : Bool × State :=
  match elemOf r.entry.format with
  | none => (true, s)
  | some e =>
    if e.isInt32 && xs.all same then
      writeTile who (some t.task.le) r.entry r.tile (copyInts r.entry r.tile (jobStep s) (xs.map (·.code))) s
    else
      let w := narrowFor s i r.entry r.tile (jobStep s) 0 ordinal axis (xs.map (·.value))
      let h := Header.parse w.tile
      let kept := xs.map (fun x => if same x then some x else none)
      let b := if h.tse = 127 && h.step == 0 && xs.any same then makeTile h (keepBits e (w.tile.drop 64) kept) else w.tile
      writeTile who (some t.task.le) r.entry r.tile b { s with num := NumState.note s.num i r.entry w }

/-- The row of an index, zero for padding, out of the table's tiles as they were read. -/
def gatherRow (t : TaskEntry) (tiles : SMap (List SrcElem)) (x : Nat) : List SrcElem :=
  let w := rowWidth t
  if x = padIndex then List.replicate w { plain := true }
  else elemsOf (x * w) w ((tilesOfElems (x * w) w).map (fun k => SMap.get tiles k []))

/-- The indices of the table tiles that the rows lie in, each once, in the order of the rows. -/
def tableTiles (t : TaskEntry) (xs : List Nat) : List Nat :=
  xs.foldl (fun ks x =>
    if x = padIndex then ks
    else (tilesOfElems (x * rowWidth t) (rowWidth t)).foldl (fun ks k => if ks.contains k then ks else ks ++ [k]) ks) []

/-- Tiles of 16 384 elements; the fuel is their number. -/
def tilesFrom {α : Type} : Nat → List α → List (List α)
  | 0, _ => []
  | n + 1, xs => xs.take 16384 :: tilesFrom n (xs.drop 16384)

/-- Tiles written in order, with the bits of `same` elements kept. -/
def writeAllCopied (who : Nat) (i : Image) (t : RunTask) (ordinal : Nat) (axis : Bool) (same : TileRef → SrcElem → Bool) :
    List TileRef → List (List SrcElem) → State → Bool × State
  | r :: rs, xs :: xss, s =>
    match writeCopied who i t r ordinal axis xs (same r) s with
    | (true, x) => writeAllCopied who i t ordinal axis same rs xss x
    | (false, x) => (false, x)
  | _, _, s => (true, s)

/-- The FORMAT of an access's buoy. -/
def accFormat (i : Image) (t : RunTask) (acc : Nat) : Nat :=
  ((t.accs[acc]?).bind (fun a => buoyEntry i a.buoy)).elim 0 (·.format)

/-- An engine of chapter 08 ends its task, with n more of its counted items. -/
def endGather (die : Nat) (t : RunTask) (pads endAt : Nat) (s : State) : State :=
  finishTask (gseCode die) t.task.le t.task.idx endAt
    (updGse die (fun m => { SeqUnit.finished t 1 endAt m with count := satAdd 32 m.count pads, item := 0, busy := m.busy }) s)

/-- Padding rows of a task. -/
def padRows (xs : List Nat) : Nat := (xs.filter (fun x => x == padIndex)).length

/-- GATHER once its indices are checked. -/
def gatherRows (die : Nat) (i : Image) (t : RunTask) (xs : List Nat) (endAt : Nat) (s : State) : State :=
  let ks := tableTiles t.task xs
  let outs := elemRefs i t (dataAcc t.task) (gseRow0 t.task * rowWidth t.task) (gseCount t.task * rowWidth t.task)
  match ks.mapM (buoyTileRef i t (tableAcc t.task)), outs with
  | some rs, some os =>
    match seqTiles (gseCode die) (updGse die) t rs s with
    | (none, x) => x
    | (some ts, x) =>
      let tiles := (ks.zip ts).foldl (fun m y => SMap.insert m y.1 (srcElems y.2.1 y.2.2)) []
      let elems := xs.flatMap (gatherRow t.task tiles)
      let fmt := accFormat i t (tableAcc t.task)
      match writeAllCopied (gseCode die) i t (gseOrdinal t.task) false (fun r e => e.plain && r.entry.format == fmt) os
              (tilesFrom os.length elems) x with
      | (true, y) => endGather die t (padRows xs) endAt y
      | (false, y) => y
  | _, _ => s

/-! ## SCATTER_ADD (R305) -/

/-- The first element of the destination window, and the elements it holds. -/
def windowElems (t : RunTask) : Nat × Nat :=
  ((((t.accs[tableAcc t.task]?).elim 0 (·.first)) + payloadField t.task 159 140) * 16384, payloadField t.task 139 135 * 16384)

/-- A row added into the window's elements, where its index lies inside. -/
def addRow (w base : Nat) (win : List Nat) (x : Nat × List Nat) : List Nat :=
  if x.1 = padIndex || x.1 * w < base || base + win.length < x.1 * w + w then win
  else
    let o := x.1 * w - base
    splice win o (List.zipWith add32 ((win.drop o).take w) x.2)

/-- The rows of the source buoy. -/
def sourceRows (t : RunTask) (ts : List (Header × Bytes)) : List (List Nat) :=
  let w := rowWidth t.task
  let all := elemsOf (gseRow0 t.task * w) (gseCount t.task * w) (ts.map (fun x => (srcElems x.1 x.2).map (·.value)))
  (List.range (gseCount t.task)).map (fun k => (all.drop (k * w)).take w)

/-- FP32 tiles written in order. -/
def scatterWindow (die : Nat) (i : Image) (t : RunTask) : List TileRef → List (List Nat) → State → Bool × State
  | r :: rs, xs :: xss, s =>
    match seqWrite (gseCode die) i t r (gseOrdinal t.task) false xs s with
    | (true, x) => scatterWindow die i t rs xss x
    | (false, x) => (false, x)
  | _, _, s => (true, s)

/-- SCATTER_ADD once its indices are checked. -/
def scatterRows (die : Nat) (i : Image) (t : RunTask) (xs : List Nat) (endAt : Nat) (s : State) : State :=
  let w := rowWidth t.task
  let win := (List.range (payloadField t.task 139 135)).map (· + payloadField t.task 159 140)
  match tileRefs i t (tableAcc t.task) win, elemRefs i t (dataAcc t.task) (gseRow0 t.task * w) (gseCount t.task * w) with
  | some ds, some ss =>
    match seqTiles (gseCode die) (updGse die) t (ds ++ ss) s with
    | (none, x) => x
    | (some ts, x) =>
      let old := (ts.take ds.length).flatMap (fun y => tileElems y.2)
      let new := (xs.zip (sourceRows t (ts.drop ds.length))).foldl (addRow w (windowElems t).1) old
      match scatterWindow die i t ds (tilesFrom ds.length new) x with
      | (true, y) => endGather die t (padRows xs) endAt y
      | (false, y) => y
  | _, _ => s

/-! ## The commands -/

/-- The indices are read and every one checked before any tile is written (R303). -/
def runGse (die : Nat) (i : Image) (t : RunTask) (endAt : Nat) (act : List Nat → State → State) (s : State) : State :=
  match elemRefs i t (payloadField t.task 43 41) (gseIdx0 t.task) (gseCount t.task) with
  | none => s
  | some rs =>
    match seqTiles (gseCode die) (updGse die) t rs s with
    | (none, x) => x
    | (some ts, x) =>
      let xs := gseIndices t ts
      match badIndex (tableRows i t) (gseIdx0 t.task) xs with
      | some b => raiseFault 0x8801 (detail [(2, gseCode die), (2, t.task.idx), (4, b.1), (4, b.2)]) x
      | none => if mayEnd s endAt then act xs x else x

/-- GATHER (R304): the running gather-scatter task does its work and ends at an offset of the beam. -/
def execGather (die : Fin 8) (endAt : Nat) (s : State) : Result :=
  .next (
    match seqTask s (SMap.get s.gse die.val {}) with
    | some (i, t) => if isScatter t.task then s else runGse die.val i t endAt (fun xs x => gatherRows die.val i t xs endAt x) s
    | none => s)

/-- SCATTER_ADD (R305). -/
def execScatterAdd (die : Fin 8) (endAt : Nat) (s : State) : Result :=
  .next (
    match seqTask s (SMap.get s.gse die.val {}) with
    | some (i, t) => if isScatter t.task then runGse die.val i t endAt (fun xs x => scatterRows die.val i t xs endAt x) s else s
    | none => s)

end Sys2Proof.Machine
end

