-- ==== Sys2Proof/Machine/CheckTimes.lean ====
section
/-! DEFINITION. The image check's timing: clients, shares and transfer times (R323, R324, R393, R395, R396, R420, R454). -/
namespace Sys2Proof.Machine

/-- What the timing of an image check rests on: the image and its binding, the staged registers, and the number of T1 units in service
(R113, R395). -/
structure Timing where
  img : Image
  binding : List Nat
  rws : Rws
  units : Nat
  deriving DecidableEq, Repr

/-- P of the staged set. -/
def Timing.period (t : Timing) : Nat := periodOf t.rws

/-- P − E of the staged set. -/
def Timing.limit (t : Timing) : Nat := eclipseStart t.rws

/-- REPAIR_ALLOW of the staged set (R376). -/
def Timing.repair (t : Timing) : Nat := bits t.rws.plePolicy.toNat 31 0

/-- A time later than any beam: a transfer with no guaranteed rate never ends in the timing (R395). -/
def never : Nat := 2 ^ 48

/-! ## T0 (R323, R324) -/

/-- The partition that holds a buoy's residence in a plan beam; none where it is not resident. -/
def partitionOf (i : Image) (e : BuoyEntry) (p : Nat) : Option BankOwner :=
  if resident e p then some (ownerAt i (resLdie e) (resBank e) p) else none

/-- The stall of one T0 tile transfer, against the full rate of 16 words for reads and 8 for writes (R323). -/
def t0Stall (i : Image) (e : BuoyEntry) (p cap : Nat) : Nat :=
  match partitionOf i e p with
  | none => 0
  | some o =>
    let q := shareCount (resLdie e) o.mask
    let w := buoyPitch e / 64
    if q = 0 then 0 else if o.words < q then never else ceilDiv w (min cap (o.words / q)) - ceilDiv w cap

/-- Clocks for class 0 traffic of w words into or out of a residence: BANK_COUNT − G words per clock, and the hub port's 1 000 GB/s on a
compute die (R324, Table 1.4). -/
def class0Clocks (i : Image) (e : BuoyEntry) (p w : Nat) : Nat :=
  match partitionOf i e p with
  | none => 0
  | some o =>
    if o.count ≤ o.words || o.power != 0 then (if w = 0 then 0 else never)
    else max (ceilDiv w (o.count - o.words)) (if resLdie e = 0xFF then 0 else ceilDiv (w * 96) 1000)

/-! ## Clients (R395, R420) -/

/-- An access is served through local T1: BUDGET T1, or T2 with a home in local T1; a record that names no tile is no access (DEDUCED,
log 43). -/
def viaT1 (i : Image) (a : Access) : Bool :=
  a.count != 0 && (a.budget == 1 || (a.budget == 2 && (buoyEntry i a.buoy).elim false (fun e => (localHome i e).isSome)))

/-- An access is a T3 read. -/
def viaT3 (a : Access) : Bool := a.count != 0 && a.budget == 3

/-- An access is a T2 access to a buoy that another member owns. -/
def viaFlow (i : Image) (a : Access) : Bool := a.count != 0 && a.budget == 2 && (buoyEntry i a.buoy).elim false (fun e => !ownedHere i e)

/-- The access of a task that a field of its descriptor names. -/
def fieldAccess (i : Image) (t : TaskEntry) (hi lo : Nat) : Option Access := (checkAccs i t)[payloadField t hi lo]?

/-- The operand ports and the output of a matrix task: number and field of its access index (R175, R395). -/
def matrixPorts (t : TaskEntry) : List (Nat × Nat × Nat) :=
  (if payloadField t 127 112 = 0 then [] else [(0, 11, 9), (1, 8, 6)])
    ++ (if 1 ≤ payloadField t 15 13 && payloadField t 15 13 ≤ 3 then [(2, 5, 3)] else [])

/-- The requesters of a task whose accesses meet a condition: a matrix engine once per port and once for its output, any other engine
once (R395). -/
def taskPorts (i : Image) (f : Access → Bool) (t : TaskEntry) : List Nat :=
  match taskEngine i t with
  | some e =>
    if e.kind = 1 then ((matrixPorts t).filter (fun x => (fieldAccess i t x.2.1 x.2.2).elim false f)).map (·.1)
    else if (checkAccs i t).any f then [3] else []
  | none => []

/-- The engine clients of a plan beam, of the engines that meet a condition. -/
def engineClients (i : Image) (f : Access → Bool) (own : EngineEntry → Bool) (p : Nat) : Nat :=
  (((tasksOf i p).filter (fun t => (taskEngine i t).elim false own)).flatMap
    (fun t => (taskPorts i f t).map (fun x => (t.le, x)))).eraseDups.length

/-- A window fill in a plan beam from a tier, or a write-back (R344, R345). -/
def windowMoves (i : Image) (p : Nat) (fill : BuoyEntry → Bool) (back : Bool) : Bool :=
  i.buoys.any (fun e => (windowsOf e).any (fun w => (w.fill && w.from_ == p + 1 && fill e) || (back && w.wb && w.to_ + 1 == p)))

/-- A fill that reads local T1. -/
def fillsFromT1 (i : Image) (e : BuoyEntry) : Bool := (fillTier e == 1 || fillTier e == 2) && (localHome i e).isSome

/-- A slot entry brings Soern traffic into local T1: the last hop of a request of a TRANSACTION flow to this member, or of a STREAM flow
whose destination is not resident. -/
def landsInT1 (i : Image) (p : Nat) (x : SlotEntry) : Bool :=
  match i.slots.flows[x.flow]? with
  | some f =>
    x.recv && x.hop + 1 == f.hops && f.dst == i.memberRank && !x.resp
      && (f.kind == 2 || (f.kind == 1 && f.count != 0 && (buoyEntry i f.dstBuoy).elim false (fun e => !resident e p)))
  | none => false

/-- Requesters of the hub share besides engines: window moves, Soern traffic, and the work of PACK, UNPACK and CAPTURE beams, one client
each (R395, R525). -/
def hubClients (i : Image) (p : Nat) : Nat :=
  b01 (windowMoves i p (fillsFromT1 i) true) + b01 ((slotsOf i p).any (landsInT1 i p)) + b01 ([2, 3, 5].any (beamFlag i p))

/-- The clients of the share of a logical die, or of the hub. -/
def t1Clients (i : Image) (ldie p : Nat) : Nat :=
  engineClients i (viaT1 i) (fun e => e.ldie == ldie) p + (if ldie = 0xFF then hubClients i p else 0)

/-- The T3 read clients of a plan beam. -/
def t3Clients (i : Image) (p : Nat) : Nat :=
  engineClients i viaT3 (fun _ => true) p + b01 (windowMoves i p (fun e => fillTier e == 3) false)

/-! ## Transfer times (Tables 5.8 and 11.3, R396, R420) -/

/-- The scaled share of a logical die, or of the hub, in bytes per clock (R395). -/
def shareRate (t : Timing) (ldie : Nat) : Nat := (if ldie = 0xFF then 128 else 64) * t.units / 256

/-- b bytes at a share with its clients. -/
def atShare (rate clients b : Nat) : Nat := if rate = 0 then never else ceilDiv (b * max 1 clients) rate

/-- A T1 read of b bytes by the engines of a logical die, or by the hub. -/
def t1ReadClocks (t : Timing) (ldie p b : Nat) : Nat := 420 + atShare (shareRate t ldie) (t1Clients t.img ldie p) b + 288

/-- A T1 write of b bytes. -/
def t1WriteClocks (t : Timing) (ldie p b : Nat) : Nat := 32 + atShare (shareRate t ldie) (t1Clients t.img ldie p) b

/-- A T3 read of b bytes. -/
def t3ReadClocks (i : Image) (p b : Nat) : Nat :=
  let n := t3Clients i p
  60000 + (if n ≤ 16 then ceilDiv b 2 else ceilDiv (b * n) 32)

end Sys2Proof.Machine
end

