-- ==== Sys2Proof/Machine/Flits.lean ====
section
/-! DEFINITION. Flits received, runs sent, and what lands at the end of a flow (R441 to R456, R478). -/
namespace Sys2Proof.Machine

/-! ## Runs (R447 to R451) -/

/-- The flits that a run of c slots carries at most (R450). -/
def runRoom (r : Rws) (c : Nat) : Nat := (c * slotLen r - 486) * 25 / 192

/-- The flits that a run of c slots carries at most under the live period (R450). -/
def runCapacity (s : State) (c : Nat) : Nat := runRoom s.live c

/-- The runs of a flow, hop and direction that this module receives in a plan beam, in order. -/
def recvRuns (i : Image) (p : Nat) (e : SlotEntry) : List SlotEntry :=
  sortBy (fun a b => decide (a.first ≤ b.first))
    ((slotsOf i p).filter (fun x => x.recv && x.flow == e.flow && x.hop == e.hop && x.resp == e.resp))

/-- How n flits fill runs of given capacities, in order. -/
def fillRuns : Nat → List Nat → List Nat
  | _, [] => []
  | n, c :: cs => min n c :: fillRuns (n - min n c) cs

/-- The flits that a receive run carries, none where it is not known: a flow's flits fill its runs in order, each to its capacity
(DEDUCED, log 23). -/
def expectedFlits (s : State) (i : Image) (e : SlotEntry) : Option Nat :=
  match flowBytes i e.flow with
  | none => none
  | some n =>
    let rs := recvRuns i s.beam.planBeam e
    let fill := fillRuns (ceilDiv n 240) (rs.map (fun r => runCapacity s r.count))
    ((rs.zip fill).find? (fun x => x.1.first == e.first && x.1.link == e.link)).map (·.2)

/-- The end of a run with its flight time: every flit of it is held by then (R451). -/
def runHeld (s : State) (e : SlotEntry) : Nat := (e.first + e.count) * slotLen s.live + 158

/-- The slots of a run have arrived. -/
def arriveRun (e : SlotEntry) (s : State) : State :=
  { s with fab := { s.fab with arrived := s.fab.arrived ++
      (((List.range e.count).map (fun j => (e.link, e.first + j))).filter (fun x => !s.fab.arrived.contains x)) } }

/-- One more flit of a receive run has arrived; with the last one its slots are complete (R99, R454). -/
def countFlit (i : Image) (e : SlotEntry) (s : State) : State :=
  let k := e.link * 256 + e.first
  let n := SMap.get s.fab.received k 0 + 1
  let t : State := { s with fab := { s.fab with received := SMap.set s.fab.received k n 0 } }
  match expectedFlits s i e with
  | some m => if m ≤ n then arriveRun e t else t
  | none => if runHeld s e ≤ s.beam.offset then arriveRun e t else t

/-! ## What lands at the end of a flow (R454, R490) -/

/-- A landed tile as a tile of the destination buoy: its header names that buoy and tile, and its CRC-32C with them; a tile that fails
its CRC-32C goes on failing it (DEDUCED, log 24). -/
def renameTile (buoy tile : Nat) (b : Bytes) : Bytes :=
  let h := Header.parse b
  let moved := makeTile { h with buoy := buoy, tile := tile } (b.drop 64)
  if tileCrcOk b then moved else splice moved 28 (leBytes 4 ((2 ^ 32 - 1) ^^^ natAt moved 28 4))

/-- The code by which the Soern port reaches the tile stores (Table 9.3). -/
def soernCode : Nat := engineCode 8 8

/-- A STREAM tile lands in its destination buoy (R453, R454). -/
def landStream (i : Image) (f : Flow) (k : Nat) (b : Bytes) (s : State) : State :=
  match buoyEntry i f.dstBuoy with
  | some e => (writeTile soernCode none e (f.dstTile + k) (renameTile f.dstBuoy (f.dstTile + k) b) s).2
  | none => s

/-- The bucket whose flow this is: its place, and the position its tiles go up from, or come down to. -/
def bucketFlow (i : Image) (flow : Nat) : Option (Nat × Bucket × Nat × Bool) :=
  (List.range i.exchange.buckets.length).findSome? (fun k =>
    match i.exchange.buckets[k]? with
    | none => none
    | some b =>
      let n := memberCount i
      if b.flowBase ≤ flow && flow < b.flowBase + (n - 1) then some (k, b, flow - b.flowBase + 1, false)
      else if i.exchange.mode == 2 && b.flowBase + (n - 1) ≤ flow && flow < b.flowBase + 2 * (n - 1) then
        some (k, b, flow - b.flowBase + 2 - n, true)
      else none)

/-- A reduction tile arrives: from a child it waits for the RDE, from the parent it is written at once (R490, R493). -/
def landEngine (i : Image) (flow k : Nat) (b : Bytes) (s : State) : State :=
  match bucketFlow i flow with
  | none => s
  | some (j, bucket, pos, down) =>
    let tile := bucket.first + k
    if down then takeDown i j bucket tile b s
    else { s with rdx := { s.rdx with tiles := s.rdx.tiles ++ [⟨j, bucketRank i bucket pos, false, tile, b⟩] } }

/-- The pitch of the tiles that a flow carries. -/
def flowPitch (i : Image) (flow : Nat) : Nat :=
  match i.slots.flows[flow]? with
  | none => 0
  | some f =>
    if f.kind = 1 then (buoyEntry i f.srcBuoy).elim 0 buoyPitch
    else match bucketFlow i flow with
      | some (_, b, _, down) => tilePitch (if down then 0x01 else b.wire)
      | none => 0

/-- Whole tiles taken off the front of what has landed; the fuel bounds their number. -/
def landTiles (i : Image) (flow pitch : Nat) : Nat → State → State
  | 0, s => s
  | n + 1, s =>
    let bs := SMap.get s.fab.landing flow []
    if pitch = 0 || bs.length < pitch then s
    else
      let k := SMap.get s.fab.landed flow 0
      let t : State := { s with fab := { s.fab with landing := SMap.set s.fab.landing flow (bs.drop pitch) [],
                                                    landed := SMap.set s.fab.landed flow (k + 1) 0 } }
      let u := match i.slots.flows[flow]? with
        | some f => if f.kind = 1 then landStream i f k (bs.take pitch) t else landEngine i flow k (bs.take pitch) t
        | none => t
      landTiles i flow pitch n u

/-- Data of a flow that ends here. -/
def landData (i : Image) (flow : Nat) (data : Bytes) (s : State) : State :=
  landTiles i flow (flowPitch i flow) 1
    { s with fab := { s.fab with landing := SMap.modify s.fab.landing flow [] (· ++ data) } }

/-- The relay store holds a flit until the run that forwards it (R452). -/
def holdFlit (e : SlotEntry) (f : Flit) (s : State) : State :=
  { s with fab := { s.fab with relay := SMap.modify s.fab.relay (2 * e.flow + b01 e.resp) [] (· ++ [f]) } }

/-- The links on the path of a flow. -/
def flowHops (i : Image) (flow : Nat) : Nat := (i.slots.flows[flow]?).elim 0 (·.hops)

/-- A flit of a run: held for the next hop, landed at the end of its flow, or taken with its transaction by that row (R451, R454). -/
def takeRunFlit (i : Image) (e : SlotEntry) (f : Flit) (s : State) : State :=
  if e.hop + 1 < flowHops i e.flow then countFlit i e (holdFlit e f s)
  else if f.kind = 3 then countFlit i e s
  else countFlit i e (landData i e.flow f.data s)

/-! ## FLIT_RECEIVE (R443) -/

/-- The run in whose slots a flow is being received on a link: the latest that has begun. -/
def runningRecv (s : State) (i : Image) (link flow : Nat) : Option SlotEntry :=
  ((slotsOf i s.beam.planBeam).filter (fun e =>
    e.recv && e.link == link && e.flow == flow && decide (e.first * slotLen s.live ≤ s.beam.offset))).getLast?

/-- A free-window flit that ends elsewhere goes on by the routing table, or is dropped at the hop limit (R458, R478). -/
def forwardFree (f : Flit) (s : State) : State :=
  if f.dest = s.glb.moduleNumber.toNat then s
  else if 15 ≤ f.hops + 1 then dropFlit f.dest s
  else match routeTo s f.dest with
    | some (l, _) => sendFlit l { f with hops := f.hops + 1 } s
    | none => dropFlit f.dest s

/-- An accepted flit: a scheduled one by its run, a free one by its route; what a message or a whole transaction does is its own
row's. -/
def takeFlit (link : Nat) (f : Flit) (s : State) : State :=
  if f.kind = 1 then s
  else if f.flow = 0xFFFF then forwardFree f s
  else match s.img.live with
    | none => s
    | some i =>
      match runningRecv s i link f.flow with
      | some e => takeRunFlit i e f s
      | none => s

/-- The receiver accepts a flit: the next SEQ is expected, and an ACK is owed (R434, R443). -/
def acceptFlit (k : Link) : Link := { k with expectSeq := (k.expectSeq + 1) % 65536, nakSent := false, ackOwed := true }

/-- The receiver discards a flit: one NAK after the last accepted flit (R443). -/
def discardFlit (k : Link) : Link := { k with nakSent := true, nakOwed := k.nakOwed || !k.nakSent }

/-- FLIT_RECEIVE (R442, R443): a NULL flit carries nothing. -/
def receiveFlit (link : Nat) (crcOk : Bool) (f : Flit) (s : State) : State :=
  let k := linkOf s link
  if k.state ≠ 2 then s
  else if crcOk && f.kind == 0 then s
  else if crcOk && f.seq == k.expectSeq then takeFlit link f (updLink link acceptFlit s)
  else updLink link discardFlit s

/-- FLIT_RECEIVE (R443). -/
def execFlitReceive (link : Fin 48) (crcOk : Bool) (f : Flit) (s : State) : Result :=
  .next (receiveFlit link.val crcOk f s)

/-! ## RUN_START (R446, R451, R453, R497) -/

/-- The send run that begins at a slot of a link in a plan beam. -/
def sendRun (i : Image) (p link slot : Nat) : Option SlotEntry :=
  (slotsOf i p).find? (fun e => !e.recv && e.link == link && e.first == slot)

/-- The runs of a flow, hop and direction sent so far in this step. -/
def runsKey (e : SlotEntry) : Nat := (e.flow * 16 + e.hop) * 2 + b01 e.resp

/-- A tile of a STREAM source as it leaves: a poisoned one goes on failing its CRC-32C (DEDUCED, log 24). -/
def streamTile (e : BuoyEntry) (tile : Nat) (s : State) : Bytes × State :=
  match fetchFrom soernCode none e tile (buoyOf s e.id).auth (.fetch e.id tile) s with
  | (.tile b, t) => (b, t)
  | (_, t) => (List.replicate 28 0 ++ leBytes 4 1 ++ List.replicate (buoyPitch e - 32) 0, t)

/-- The tiles of a STREAM flow are queued, in ascending order (R453). -/
def queueStream (flow : Nat) (e : BuoyEntry) (first : Nat) : Nat → State → State
  | 0, s => s
  | n + 1, s =>
    let r := streamTile e first s
    queueStream flow e (first + 1) n (queueBytes 2 flow r.1 r.2)

/-- Every source tile of a STREAM flow is written (R453). -/
def streamReady (s : State) (i : Image) (f : Flow) : Bool :=
  (List.range f.count).all (fun j => tileWritten s i f.srcBuoy (f.srcTile + j))

/-- The bytes that wait for the runs of a flow. -/
def queuedBytes (s : State) (flow : Nat) : Nat := ((SMap.get s.fab.outgoing (2 * flow) []).map (fun f => f.data.length)).sum

/-- A flow's data at its first hop-0 run: ready, or the fault that says it is not (R453, R497). -/
def readyFlow (i : Image) (e : SlotEntry) (s : State) : Bool × State :=
  match i.slots.flows[e.flow]? with
  | none => (true, s)
  | some f =>
    if f.kind = 1 then
      if streamReady s i f then
        match buoyEntry i f.srcBuoy with
        | some b => (true, queueStream e.flow b f.srcTile f.count s)
        | none => (true, s)
      else (false, raiseFault 0x8D03 (detail [(2, e.flow), (4, s.beam.planBeam)]) s)
    else if f.kind = 3 then
      if flowBytes i e.flow == some (queuedBytes s e.flow) then (true, s)
      else (false, raiseFault 0x8E00 (detail [(4, (bucketFlow i e.flow).elim 0 (·.1)), (4, s.beam.planBeam)]) s)
    else (true, s)

/-- The flits that a run takes: from the flow's own queue at hop 0, from the relay store behind it (R451). -/
def runFlits (s : State) (e : SlotEntry) : List Flit :=
  let k := 2 * e.flow + b01 e.resp
  (if e.hop = 0 then SMap.get s.fab.outgoing k [] else SMap.get s.fab.relay k []).take (runCapacity s e.count)

/-- Flits taken by a run leave their queue. -/
def takeRun (e : SlotEntry) (n : Nat) (f : Fab) : Fab :=
  let k := 2 * e.flow + b01 e.resp
  if e.hop = 0 then { f with outgoing := SMap.modify f.outgoing k [] (·.drop n) }
  else { f with relay := SMap.modify f.relay k [] (·.drop n) }

/-- SEQ of the last flit that a link has sent or keeps waiting. -/
def lastSeq (k : Link) : Nat := (k.sendSeq + k.waiting.length + 65535) % 65536

/-- A run is counted, and its acknowledgement awaited where it carries flits (R446, R451). -/
def noteRun (e : SlotEntry) (n : Nat) (s : State) : State :=
  { s with fab := { s.fab with
      runs := SMap.modify s.fab.runs (runsKey e) 0 (· + 1),
      sent := if n = 0 then s.fab.sent else s.fab.sent ++ [⟨e.link, e.flow, lastSeq (linkOf s e.link), s.beam.planBeam⟩] } }

/-- A run sends its flits. -/
def sendTheRun (e : SlotEntry) (s : State) : State :=
  let fs := (runFlits s e).map (fun f => { f with hops := e.hop })
  noteRun e fs.length (sendFlits e.link fs { s with fab := takeRun e fs.length s.fab })

/-- A run begins: at a flow's first hop-0 run its data must be ready. -/
def startRun (i : Image) (e : SlotEntry) (s : State) : State :=
  if e.hop = 0 && !e.resp && SMap.get s.fab.runs (runsKey e) 0 == 0 then
    match readyFlow i e s with
    | (true, t) => sendTheRun e t
    | (false, t) => t
  else sendTheRun e s

/-- RUN_START (R451): the run that begins at a slot, at the slot's offset. -/
def execRunStart (link : Fin 48) (slot : Nat) (s : State) : Result :=
  .next (match s.img.live with
    | none => s
    | some i =>
      match sendRun i s.beam.planBeam link.val slot with
      | some e =>
        if planRuns s && decide (s.beam.offset ≤ slot * slotLen s.live) then startRun i e (advanceTo (slot * slotLen s.live) s) else s
      | none => s)

end Sys2Proof.Machine
end

