-- ==== Sys2Proof/Machine/CheckRuns.lean ====
section
/-! DEFINITION. The image check's timing: runs of a flow, their ends and arrivals, and T2 reads over TRANSACTION flows (R450 to R457). -/
namespace Sys2Proof.Machine

/-! ## Runs (R448, R450, R451) -/

/-- The entries of a plan beam that give a flow's runs at one hop of one direction on one side of this member, in beam order. -/
def runsOf (i : Image) (p flow hop : Nat) (resp recv : Bool) : List SlotEntry :=
  sortBy (fun a b => decide (a.first ≤ b.first))
    ((slotsOf i p).filter (fun x => x.recv == recv && x.flow == flow && x.hop == hop && x.resp == resp))

/-- The offset at which a run starts. -/
def runStart (r : Rws) (x : SlotEntry) : Nat := x.first * slotLen r

/-- The offset at which a run ends. -/
def runEnd (r : Rws) (x : SlotEntry) : Nat := (x.first + x.count) * slotLen r

/-- The end of the last of some runs and its 158 clocks; 0 where there is none. -/
def lastHeld (r : Rws) (xs : List SlotEntry) : Nat := xs.foldl (fun m x => max m (runEnd r x + 158)) 0

/-! ## Writes at a STREAM flow's destination (R454) -/

/-- Clocks in which the destination writes w words of a STREAM flow. -/
def landClocks (t : Timing) (p w : Nat) (e : BuoyEntry) : Nat :=
  if resident e p then class0Clocks t.img e p w else atShare (shareRate t 0xFF) (t1Clients t.img 0xFF p) (64 * w)

/-- done_i of a STREAM flow's runs in order: `left` bytes are still to come, and the writes before ended at `last`. -/
def doneTimes (t : Timing) (p : Nat) (e : BuoyEntry) : Nat → Nat → List SlotEntry → List Nat
  | _, _, [] => []
  | left, last, x :: xs =>
    let b := min left (240 * runRoom t.rws x.count)
    let d := max (runEnd t.rws x + 158) last + landClocks t p (ceilDiv b 64) e
    d :: doneTimes t p e (left - b) d xs

/-- done_i of each run that this member, a STREAM flow's destination, receives at its last hop. -/
def streamDone (t : Timing) (p k : Nat) (f : Flow) : List (SlotEntry × Nat) :=
  let xs := runsOf t.img p k (f.hops - 1) false true
  match buoyEntry t.img f.dstBuoy with
  | some e => xs.zip (doneTimes t p e (f.count * buoyPitch e) 0 xs)
  | none => xs.map (fun x => (x, never))

/-- When a receive run is complete as the check takes it (R99, R454, R455): for a flow that sends no flits, at the end of its last run of
the hop with its 158 clocks. -/
def runComplete (t : Timing) (p : Nat) (x : SlotEntry) : Nat :=
  let held := runEnd t.rws x + 158
  if emptyFlow t.img x.flow then lastHeld t.rws (runsOf t.img p x.flow x.hop x.resp true)
  else
    match t.img.slots.flows[x.flow]? with
    | some f =>
      if f.kind = 1 && f.dst = t.img.memberRank && x.hop + 1 = f.hops then
        ((streamDone t p x.flow f).find? (fun y => y.1 == x)).elim held (·.2)
      else held
    | none => held

/-- When a slot-arrival dependency is complete as the check takes it. -/
def slotTime (t : Timing) (p link slot : Nat) : Nat :=
  match recvEntry t.img p link slot with
  | some x => runComplete t p x
  | none => 0

/-! ## T2 reads (R457) -/

/-- The TRANSACTION flow of a logical engine from this member to a rank, with its index. -/
def flowTo (i : Image) (le rank : Nat) : Option (Nat × Flow) :=
  ((i.slots.flows.zipIdx).find? (fun x => x.1.kind == 2 && x.1.le == le && x.1.src == i.memberRank && x.1.dst == rank)).map
    (fun x => (x.2, x.1))

/-- A run as the check fills it: start, end and the flits it can still carry. -/
structure RunLeft where
  start : Nat
  stop : Nat
  left : Nat
  deriving DecidableEq, Repr

/-- A run with all its capacity. -/
def freshRun (r : Rws) (x : SlotEntry) : RunLeft := { start := runStart r x, stop := runEnd r x, left := runRoom r x.count }

/-- n flits are placed in the runs that start at or after an offset, in run order: the end of the last run used, and the runs as they are
left; none where the runs cannot hold them. `lead` is the time by which a run starts before the hop that is asked for. -/
def placeFlits (from_ : Nat) (lead : RunLeft → Nat) : Nat → List RunLeft → Option (Nat × List RunLeft)
  | _, [] => none
  | n, x :: xs =>
    if x.left = 0 || x.start < from_ + lead x then placeFlits from_ lead n xs
    else if n ≤ x.left then some (x.stop, { x with left := x.left - n } :: xs)
    else placeFlits from_ lead (n - x.left) xs

/-- The hops of a run that this member does not see each take the run's length and 158 clocks: no image holds the runs of another
member's links (DEDUCED, log 44). -/
def unseenHops (hops : Nat) (x : RunLeft) : Nat := (hops - 1) * (x.stop - x.start + 158)

/-- One T2 read of b bytes issued at an offset: its end and the runs as they are left. The target's share is taken as this member's hub
share with one client (DEDUCED, log 44). -/
def flowRead (t : Timing) (hops at_ b : Nat) (req resp : List RunLeft) : Option (Nat × List RunLeft × List RunLeft) :=
  match placeFlits (at_ + 16) (fun _ => 0) 1 req with
  | none => none
  | some (e, req') =>
    let len := (req.find? (fun x => x.stop == e)).elim 0 (fun x => unseenHops hops x)
    let d := e + 158 + len + 420 + atShare (shareRate t 0xFF) 1 b + 288
    (placeFlits d (unseenHops hops) (ceilDiv (b + 32) 240) resp).map (fun y => (y.1 + 158, req', y.2))

/-- The longest of n reads of b bytes, each issued as the one before it ends; P where the runs cannot hold them (R457). -/
def flowReads (t : Timing) (hops b : Nat) : Nat → Nat → List RunLeft → List RunLeft → Nat
  | 0, _, _, _ => 0
  | n + 1, at_, req, resp =>
    match flowRead t hops at_ b req resp with
    | some (e, req', resp') => max (e - at_) (flowReads t hops b n e req' resp')
    | none => t.period

/-- The T2 fetch time of n reads of b bytes that an engine issues from an offset on, of a buoy of a rank. -/
def flowFetch (t : Timing) (p le rank b n at_ : Nat) : Nat :=
  match flowTo t.img le rank with
  | some (k, f) =>
    flowReads t f.hops b n at_ ((runsOf t.img p k 0 false false).map (freshRun t.rws))
      ((runsOf t.img p k (f.hops - 1) true true).map (freshRun t.rws))
  | none => t.period

end Sys2Proof.Machine
end

