-- ==== Sys2Proof/Machine/CopyEngines.lean ====
section
/-! DEFINITION. Copy engines: copies between the host region and device buoys, and completion records (R571 to R576). -/
namespace Sys2Proof.Machine

/-- HOST_OFF of a copy task. -/
def copyHostOff (t : TaskEntry) : Nat := payloadField t 255 192
/-- REC_OFF of a copy task. -/
def copyRecOff (t : TaskEntry) : Nat := payloadField t 191 128
/-- FIRST of a copy task. -/
def copyFirst (t : TaskEntry) : Nat := payloadField t 127 96
/-- COUNT of a copy task. -/
def copyCount (t : TaskEntry) : Nat := payloadField t 95 64
/-- OPCODE of a copy task: 1 TO_HOST, 2 FROM_HOST. -/
def copyOp (t : TaskEntry) : Nat := payloadField t 63 56
/-- REC_EN of a copy task. -/
def copyRecords (t : TaskEntry) : Bool := t.payload.testBit 55
/-- ACC of a copy task. -/
def copyAcc (t : TaskEntry) : Nat := payloadField t 54 52

/-- The copy engines' code (R617, Table 9.3). -/
def ceCode : Nat := engineCode 8 9

/-- The task that a copy engine runs, neither held nor stopped. -/
def ceTask (s : State) (u : Nat) : Option (Image × RunTask) :=
  let c := SMap.get s.host.ce u {}
  match s.img.live, c.run with
  | some i, some t => if planRuns s && c.held.isNone then some (i, t) else none
  | _, _ => none

/-- Where tile j of a copy lies in T1 (R572). -/
def copyAt (s : State) (t : RunTask) (e : BuoyEntry) (j : Nat) : Nat := s.host.regionBase + copyHostOff t.task + j * buoyPitch e

/-- A copy engine moves to its next tile. -/
def nextCopy (u : Nat) (s : State) : State := updCe u (fun c => { c with next := c.next + 1 }) s

/-! ## TO_HOST (R572) -/

/-- A copy engine holds for a tile; CPY_COUNTS.CRC_FAIL counts it. -/
def holdCopy (u buoy tile : Nat) (s : State) : State :=
  let t := updCe u (fun c => { c with held := some ⟨buoy, tile⟩ }) s
  { t with host := { t.host with crcFail := satAdd 16 t.host.crcFail 1 } }

/-- Tile j verified and written to the host region unchanged; false where it does not pass. -/
def toHostTile (u : Nat) (i : Image) (t : RunTask) (j : Nat) (s : State) : Bool × State :=
  match tileRef i t (copyAcc t.task) (copyFirst t.task + j) with
  | none => (false, s)
  | some r =>
    match useTile ceCode t.task.le 0x5003 0x9001 r.entry r.tile r.budget s with
    | (.good _ b, x) =>
      let y := t1Write (copyAt x t r.entry j) b (some t.task.le) x
      (true, nextCopy u { y with host := { y.host with toHost := satAdd 16 y.host.toHost 1 } })
    | (.held, x) => (false, holdCopy u r.entry.id r.tile x)
    | (.waiting, x) => (false, x)
    | (.stop, x) => (false, x)

/-! ## FROM_HOST (R573) -/

/-- The check that a tile from the host fails, none where it passes: 1 its CRC-32C, 2 its numeric fields, 3 its identity. -/
def fromHostCheck (e : BuoyEntry) (tile : Nat) (r : MemRead) : Option Nat :=
  let h := Header.parse r.data
  if r.poison || !tileCrcOk r.data then some 1
  else if numericBad h e.format (vectorShaped e) then some 2
  else if identityBad h e.id tile then some 3
  else none

/-- A tile with EPOCH set and its CRC recomputed (R573). -/
def stampTile (epoch : Nat) (b : Bytes) : Bytes := makeTile { Header.parse b with epoch := epoch % 2 ^ 32 } (b.drop 64)

/-- Tile j verified and written into the authoritative mooring; false where it does not pass. -/
def fromHostTile (u : Nat) (i : Image) (t : RunTask) (j : Nat) (s : State) : Bool × State :=
  match tileRef i t (copyAcc t.task) (copyFirst t.task + j) with
  | none => (false, s)
  | some r =>
    let m := t1Read ceCode (copyAt s t r.entry j) (buoyPitch r.entry) s
    match fromHostCheck r.entry r.tile m.1 with
    | some c => (false, raiseFault 0x9000 (detail [(2, t.task.idx), (4, r.tile), (1, c)]) m.2)
    | none =>
      match writeTile ceCode (some t.task.le) r.entry r.tile (stampTile (jobStep m.2) m.1.data) m.2 with
      | (true, x) => (true, nextCopy u { x with host := { x.host with fromHost := satAdd 16 x.host.fromHost 1 } })
      | (false, x) => (false, x)

/-! ## Completion records (R574, R575, Table 16.8) -/

/-- The tile pitch of the copied buoy. -/
def copyPitch (i : Image) (t : RunTask) : Nat :=
  (((t.accs[copyAcc t.task]?).bind (fun a => buoyEntry i a.buoy)).map buoyPitch).getD 0

/-- The completion record. -/
def recordBytes (s : State) (i : Image) (t : RunTask) : Bytes :=
  let n := copyCount t.task
  let b := ascii "CREC" ++ leBytes 4 0 ++ leBytes 8 i.jobId.toNat ++ leBytes 8 (jobStep s) ++ leBytes 4 t.planBeam ++ leBytes 2 t.task.le
    ++ leBytes 2 t.task.idx ++ leBytes 4 n ++ leBytes 4 0 ++ leBytes 8 (n * copyPitch i t) ++ leBytes 8 s.beam.count.toNat
  b ++ leBytes 4 (crc32c b) ++ leBytes 4 0

/-- The task's lines are written out, then its record (R400, R575). -/
def writeRecord (i : Image) (t : RunTask) (s : State) : State :=
  if copyRecords t.task then
    let x : State := { s with lpd := flushWriter s.lpd t.task.le, host := { s.host with records := satAdd 16 s.host.records 1 } }
    t1Write (x.host.regionBase + copyRecOff t.task) (recordBytes x i t) none x
  else s

/-- A copy task ends. -/
def endCopy (u : Nat) (i : Image) (t : RunTask) (endAt : Nat) (s : State) : State :=
  finishTask ceCode t.task.le t.task.idx endAt (updCe u (fun _ => {}) (writeRecord i t (advanceTo endAt s)))

/-- Tiles from j on; the fuel is their number. -/
def copyTiles (f : Nat → State → Bool × State) : Nat → Nat → State → Bool × State
  | 0, _, s => (true, s)
  | n + 1, j, s =>
    match f j s with
    | (true, x) => copyTiles f n (j + 1) x
    | (false, x) => (false, x)

/-- The running copy task of an operation, from the tile it has reached. -/
def runCopy (op u endAt : Nat) (tile : Nat → Image → RunTask → Nat → State → Bool × State) (s : State) : State :=
  match ceTask s u with
  | none => s
  | some (i, t) =>
    if copyOp t.task = op && mayEnd s endAt then
      let j := (SMap.get s.host.ce u {}).next
      match copyTiles (tile u i t) (copyCount t.task - j) j s with
      | (true, x) => endCopy u i t endAt x
      | (false, x) => x
    else s

/-- TO_HOST (R572). -/
def execToHost (u : Fin 8) (endAt : Nat) (s : State) : Result := .next (runCopy 1 u.val endAt toHostTile s)

/-- FROM_HOST (R573). -/
def execFromHost (u : Fin 8) (endAt : Nat) (s : State) : Result := .next (runCopy 2 u.val endAt fromHostTile s)

end Sys2Proof.Machine
end

