-- ==== Sys2Proof/Machine/LayoutEngine.lean ====
section
/-! DEFINITION. The layout engine (chapter 08, R307, R308). -/
namespace Sys2Proof.Machine

/-! ## The descriptor (R307) -/

/-- COUNT. -/
def lyeCount (t : TaskEntry) : Nat := payloadField t 195 180
/-- OPCODE. -/
def lyeOp (t : TaskEntry) : Nat := payloadField t 131 124
/-- The code of a layout engine (R617). -/
def lyeCode (die : Nat) : Nat := engineCode die 6

/-- The tiles that output tile k reads: a second one for JOIN64. -/
def lyeInputs (i : Image) (r : RunTask) (k : Nat) : Option (List TileRef) :=
  let t := r.task
  let off := k * payloadField t 179 164
  match tileRef i r (payloadField t 121 119) (payloadField t 255 236 + off) with
  | none => none
  | some a =>
    if lyeOp t = 4 then (tileRef i r (payloadField t 118 116) (payloadField t 235 216 + off)).map (fun b => [a, b]) else some [a]

/-- Output tile k. -/
def lyeOutput (i : Image) (r : RunTask) (k : Nat) : Option TileRef :=
  tileRef i r (payloadField r.task 115 113) (payloadField r.task 215 196 + k * payloadField r.task 163 148)

/-! ## Operations (Table 8.7) -/

/-- Columns c and on of each row, as many as n, filled up with zeros to 128. -/
def columnsFrom (c n : Nat) (xs : List SrcElem) : List (List SrcElem) := (rowsOf 128 xs).map (fun r => (r.drop c).take n)

/-- SPLIT64. -/
def splitHalf (half : Nat) (xs : List SrcElem) : List SrcElem :=
  (columnsFrom (64 * half) 64 xs).flatMap (fun r => r ++ List.replicate 64 { plain := true })

/-- JOIN64. -/
def joinHalves (a b : List SrcElem) : List SrcElem := (List.zipWith (· ++ ·) (columnsFrom 0 64 a) (columnsFrom 0 64 b)).flatten

/-- The output's elements out of the inputs'. -/
def layoutElems (t : TaskEntry) (ins : List (List SrcElem)) : List SrcElem :=
  let a := ins.getD 0 []
  match lyeOp t with
  | 2 => transpose128 a
  | 3 => splitHalf (b01 (t.payload.testBit 123)) a
  | 4 => joinHalves a (ins.getD 1 [])
  | _ => a

/-- The output keeps the bits of an element: the formats are the same non-MX one, and its tile has TSE 127 and STEP 0 (R308). -/
def sameBits (ins : List TileRef) (out : TileRef) (e : SrcElem) : Bool :=
  e.plain && ins.all (fun r => r.entry.format == out.entry.format) && !(elemOf out.entry.format).elim true (·.isMx)

/-- Tile k is written, and the next is at hand. -/
def stepTile (die k : Nat) (s : State) : State := updLye die (fun m => { m with item := k + 1, count := satAdd 32 m.count 1 }) s

/-- Tile k of a layout task: read, laid out, written. False where the task holds, waits or stops. -/
def layoutTile (die : Nat) (i : Image) (t : RunTask) (k : Nat) (s : State) : Bool × State :=
  match lyeInputs i t k, lyeOutput i t k with
  | some ins, some out =>
    match seqTiles (lyeCode die) (updLye die) t ins s with
    | (none, x) => (false, x)
    | (some ts, x) =>
      match writeCopied (lyeCode die) i t out (payloadField t.task 147 132) (t.task.payload.testBit 122)
              (layoutElems t.task (ts.map (fun y => srcElems y.1 y.2))) (sameBits ins out) x with
      | (true, y) => (true, stepTile die k y)
      | (false, y) => (false, y)
  | _, _ => (false, s)

/-- Tiles from k on; the fuel is their number. -/
def layoutTiles (die : Nat) (i : Image) (t : RunTask) : Nat → Nat → State → Bool × State
  | 0, _, s => (true, s)
  | n + 1, k, s =>
    match layoutTile die i t k s with
    | (true, x) => layoutTiles die i t n (k + 1) x
    | (false, x) => (false, x)

/-- The task's end. -/
def endLayout (die : Nat) (t : RunTask) (endAt : Nat) (s : State) : State :=
  finishTask (lyeCode die) t.task.le t.task.idx endAt
    (updLye die (fun m => { SeqUnit.finished t (lyeCount t.task) endAt m with busy := m.busy }) s)

/-- The running layout task of an operation, from the tile it has reached. -/
def runLayout (op die endAt : Nat) (s : State) : State :=
  match seqTask s (SMap.get s.lye die {}) with
  | none => s
  | some (i, t) =>
    if lyeOp t.task = op && mayEnd s endAt then
      let k := (SMap.get s.lye die {}).item
      match layoutTiles die i t (lyeCount t.task - k) k s with
      | (true, x) => endLayout die t endAt x
      | (false, x) => x
    else s

/-- CONVERT (R308). -/
def execConvert (die : Fin 8) (endAt : Nat) (s : State) : Result := .next (runLayout 1 die.val endAt s)
/-- TRANSPOSE (R308). -/
def execTranspose (die : Fin 8) (endAt : Nat) (s : State) : Result := .next (runLayout 2 die.val endAt s)
/-- SPLIT64 (R308). -/
def execSplit64 (die : Fin 8) (endAt : Nat) (s : State) : Result := .next (runLayout 3 die.val endAt s)
/-- JOIN64 (R308). -/
def execJoin64 (die : Fin 8) (endAt : Nat) (s : State) : Result := .next (runLayout 4 die.val endAt s)
/-- RESHAPE (R308). -/
def execReshape (die : Fin 8) (endAt : Nat) (s : State) : Result := .next (runLayout 5 die.val endAt s)

end Sys2Proof.Machine
end

