-- ==== Sys2Proof/Machine/CheckDurations.lean ====
section
/-! DEFINITION. The image check's timing: the nominal durations of tasks and the recoveries counted with them (Tables 2.2, 5.8, 7.10, 8.3,
8.5; R194 to R197, R229, R273, R300, R306, R309, R577). -/
namespace Sys2Proof.Machine

/-! ## Fetches and writes -/

/-- What the timing of a task rests on: its plan beam, its engine's logical die, and its latest start. -/
structure Job where
  tm : Timing
  beam : Nat
  ldie : Nat
  task : TaskEntry
  start : Nat
  deriving DecidableEq, Repr

/-- The image of a job. -/
def Job.img (j : Job) : Image := j.tm.img

/-- An access of the job by the field of its descriptor. -/
def Job.acc (j : Job) (hi lo : Nat) : Option Access := fieldAccess j.img j.task hi lo

/-- The entry of an access's buoy. -/
def Job.entry (j : Job) (a : Option Access) : Option BuoyEntry := a.bind (fun a => buoyEntry j.img a.buoy)

/-- Bytes of a tile of an access, uncompressed (R195). -/
def Job.pitch (j : Job) (a : Option Access) : Nat := (j.entry a).elim 0 buoyPitch

/-- The fetch time of k tiles of an access from a tier other than T0; the access's reads over a flow are n in all. -/
def slowFetch (j : Job) (n : Nat) (a : Access) (e : BuoyEntry) (k : Nat) : Nat :=
  if viaT1 j.img a then t1ReadClocks j.tm j.ldie j.beam (k * buoyPitch e)
  else if a.budget = 3 then t3ReadClocks j.img j.beam (k * buoyPitch e)
  else k * flowFetch j.tm j.beam j.task.le e.ownerRank (buoyPitch e) n j.start

/-- Tiles of an access that are fetched together: the access, how many, and how many the task fetches in all. -/
structure Fetch where
  acc : Option Access
  tiles : Nat
  all : Nat
  deriving DecidableEq, Repr

/-- Bytes that a fetch reads at T0. -/
def Fetch.t0Bytes (j : Job) (f : Fetch) : Nat := if f.acc.any (fun a => a.budget == 0) then f.tiles * j.pitch f.acc else 0

/-- What a fetch adds to its bytes at T0: the stalls of R323, or its time at its own tier. -/
def Fetch.extra (j : Job) (f : Fetch) : Nat :=
  match f.acc, j.entry f.acc with
  | some a, some e =>
    if f.tiles = 0 then 0
    else if a.budget = 0 then f.tiles * t0Stall j.img e j.beam 16
    else slowFetch j f.all a e f.tiles
  | _, _ => 0

/-- fetch of tiles that are fetched together: the T0 tiles at 1 024 bytes per clock, those of other tiers one after another, and 4 clocks
(Table 5.8; DEDUCED, log 43). -/
def fetchClocks (j : Job) (fs : List Fetch) : Nat := ceilDiv ((fs.map (Fetch.t0Bytes j)).sum) 1024 + (fs.map (Fetch.extra j)).sum + 4

/-- out of n tiles of an access, with the stalls of R323. -/
def outClocks (j : Job) (a : Option Access) (n : Nat) : Nat :=
  8 + ceilDiv (n * j.pitch a) 512
    + (match a, j.entry a with
       | some x, some e => if x.budget = 0 then n * t0Stall j.img e j.beam 8 else 0
       | _, _ => 0)

/-- t_warm of a tile written through an access (R155). -/
def warmClocks (j : Job) (a : Option Access) : Nat := if (j.entry a).any (fun e => scalingOf j.img e == 1) then 64 else 0

/-! ## Matrix tasks (R169 to R171, R194 to R197, R229) -/

/-- The class of a matrix operand format (Table 5.2): 0 for none. -/
def matrixClass (code : Nat) : Nat :=
  match code with
  | 0x01 => 5
  | 0x02 => 1
  | 0x03 => 1
  | 0x04 => 2
  | 0x05 => 2
  | 0x08 => 3
  | 0x09 => 3
  | 0x0A => 4
  | 0x0B => 4
  | 0x0C => 4
  | _ => 0

/-- p of a format class and an accumulation mode, which is also its smallest group; none where Table 5.2 does not offer them. -/
def matrixP (cls mode : Nat) : Option Nat :=
  match cls, decide (mode = 2) with
  | 1, false => some 4
  | 1, true => some 8
  | 2, false => some 8
  | 2, true => some 16
  | 3, false => some 8
  | 3, true => some 16
  | 4, false => some 16
  | 5, false => some 4
  | _, _ => none

/-- K_TILES. -/
def meTiles (t : TaskEntry) : Nat := payloadField t 127 112
/-- OUT_ACTION. -/
def meAction (t : TaskEntry) : Nat := payloadField t 15 13
/-- ACC_MODE. -/
def meMode (t : TaskEntry) : Nat := payloadField t 23 22
/-- The passes over the K chain. -/
def mePasses (t : TaskEntry) : Nat := if payloadField t 55 48 = 1 then 3 else 1

/-- c_pair in an accumulation mode (R171, Table 5.3). -/
def pairClocks (t : TaskEntry) (mode : Nat) : Nat := 512 / (matrixP (matrixClass (payloadField t 55 48)) mode).getD 4 * mePasses t

/-- fetch_pair. -/
def pairFetch (j : Job) : Nat :=
  let n := meTiles j.task * mePasses j.task
  let one := fun hi lo => fetchClocks j [{ acc := j.acc hi lo, tiles := 1, all := n }]
  max (one 11 9) (one 8 6)

/-- fetch_rb. -/
def bufferFetch (j : Job) : Nat := fetchClocks j [{ acc := j.acc 5 3, tiles := 1, all := 1 }]

/-- A tile-pass at a given c_pair (R196). -/
def tilePass (j : Job) (c : Nat) : Nat :=
  let k := meTiles j.task
  if k = 0 then 0 else pairFetch j + (k - 1) * max c (pairFetch j) + c

/-- t_out and t_warm. -/
def actionClocks (j : Job) : Nat :=
  match meAction j.task with
  | 0 => 0
  | 4 => 8 + ceilDiv 65600 512
  | n => outClocks j (j.acc 5 3) 1 + (if n = 3 then 0 else warmClocks j (j.acc 5 3))

/-- The nominal duration of a matrix task (R194). -/
def matrixNominal (j : Job) : Nat :=
  let t := j.task
  let c := pairClocks t (meMode t)
  let rb := if meAction t = 3 then bufferFetch j else 0
  if meTiles t = 0 then 16 + rb + actionClocks j
  else 16 + pairFetch j + (meTiles t - 1) * max c (pairFetch j) + max c rb + (if meMode t = 0 then 16 else 14) + actionClocks j

/-- The accumulation policy of a matrix task. -/
def mePolicy (i : Image) (t : TaskEntry) : Option AccPolicy := i.numeric.accs.find? (fun a => a.policy == payloadField t 223 216)

/-- The replays of R229: attempts 1 to REPLAY_BUDGET, attempt 3 of FP16 mode with c_pair of FP32. -/
def replayClocks (j : Job) : Nat :=
  match mePolicy j.img j.task with
  | none => 0
  | some a =>
    ((List.range (min a.budget 3)).map (fun k =>
      tilePass j (pairClocks j.task (if a.mode = 2 && k = 2 then 1 else meMode j.task)))).sum

/-! ## Vector tasks (R273, Table 7.10) -/

/-- The program of a vector task. -/
def taskProgram (i : Image) (t : TaskEntry) : List W64 :=
  match i.update.progs[payloadField t 63 48]? with
  | some p => programWords i.update p
  | none => []

/-- A sum over the words a program executes, with their places, a loop's body as often as it runs, and 1 + COUNT times a loop's own share;
the fuel bounds the words. -/
def executed (loop : Nat) (cost : Nat → W64 → Nat) : Nat → List (W64 × Nat) → Nat
  | 0, _ => 0
  | _, [] => 0
  | n + 1, (x, k) :: r =>
    if isLoop x then
      loop * (1 + loopCount x) + loopCount x * executed loop cost n (r.take (loopBody x)) + executed loop cost n (r.drop (loopBody x))
    else cost k x + executed loop cost n r

/-- The sum over a whole program. -/
def programSum (loop : Nat) (cost : Nat → W64 → Nat) (ws : List W64) : Nat := executed loop cost (2 * ws.length + 1) ws.zipIdx

/-- A word's opcode as a number. -/
def opOf (x : W64) : Nat := (wordOp x).toNat

/-- A word reads a tile through an access: TLOAD, or TOPEN with SUB 1. -/
def readsTile (x : W64) : Bool := opOf x == 0x60 || (opOf x == 0x63 && (VWord.decode x).sub == 1)

/-- How often a program reads a tile through an access. -/
def tileReads (ws : List W64) (acc : Nat) : Nat :=
  programSum 0 (fun _ x => b01 (readsTile x && (VWord.decode x).a.toNat % 8 == acc)) ws

/-- The access of the write buffer that a word names: that of the last TOPEN before it, in program order (R258). -/
def openAccess (ws : List W64) (k d : Nat) : Nat :=
  (((ws.take k).reverse.find? (fun x => opOf x == 0x63 && (VWord.decode x).d.toNat % 4 == d)).map (fun x => (VWord.decode x).a.toNat % 8)).getD 0

/-- An instruction that costs 2 + ⌈n/32⌉. -/
def slowVector (op : Nat) : Bool := decide (0x28 ≤ op) && decide (op ≤ 0x2D)

/-- The cost of an instruction that names no tile, n being VLMAX of its element type, and 1 024 for VCVT (Table 7.10). -/
def plainCost (x : W64) : Nat :=
  let op := opOf x
  let et := (VWord.decode x).et.toNat
  let n := vlMax et
  if op = 0x13 || op = 0x14 || op = 0x15 then 4
  else if op < 0x20 then 1
  else if op = 0x41 || op = 0x42 then 3
  else if slowVector op then 2 + ceilDiv n 32
  else if op = 0x38 then 2 + ceilDiv 1024 128
  else if 0x48 ≤ op && op ≤ 0x4D then 14 + ceilDiv n 128
  else if op = 0x62 || op = 0x64 || op = 0x65 then 2 + ceilDiv (n * etBytes et) 1024
  else 2 + ceilDiv n (512 / etBytes et)

/-- The cost of the word at a place of a program (Table 7.10). -/
def wordCost (j : Job) (ws : List W64) (k : Nat) (x : W64) : Nat :=
  let w := VWord.decode x
  let accs := checkAccs j.img j.task
  let load := fun (_ : Unit) => fetchClocks j [{ acc := accs[w.a.toNat % 8]?, tiles := 1, all := tileReads ws (w.a.toNat % 8) }]
  match opOf x with
  | 0x60 => load ()
  | 0x61 => 69
  | 0x63 => if w.sub = 1 then load () + 16 else 4
  | 0x66 =>
    let a := accs[openAccess ws k (w.d.toNat % 4)]?
    16 + outClocks j a 1 + warmClocks j a
  | _ => plainCost x

/-- The nominal duration of a vector task (R273). -/
def vectorNominal (j : Job) : Nat :=
  let ws := taskProgram j.img j.task
  16 + programSum 1 (wordCost j ws) ws

/-! ## Attention tasks (R300, Table 8.3) -/

/-- The blocks that CAUSAL and WINDOW do not mask fully; SPARSE removes none (R300). -/
def countedBlocks (t : TaskEntry) : List Nat :=
  let u := { t with payload := t.payload - (if t.payload.testBit 24 then 2 ^ 24 else 0) }
  (List.range (aeCount t)).filter (fun j => !skipsBlock u [] j)

/-- The statistics tile of the query block at a tile offset. -/
def statTile (x : Nat) : Nat := 256 * x / 16384

/-- fetch_it of a block, `prev` being the statistics tile fetched before. -/
def blockFetch (j : Job) (n : Nat) (prev : Option Nat) (b : Nat) : Nat :=
  let t := j.task
  let k := blockTiles t
  if isBwd t then
    let s := statTile (aeIter t b)
    fetchClocks j
      ([(23, 21), (17, 15), (11, 9)].map (fun x => { acc := j.acc x.1 x.2, tiles := k, all := n * k })
        ++ [{ acc := j.acc 14 12, tiles := if prev = some s then 0 else 1, all := n }])
  else fetchClocks j [{ acc := j.acc 20 18, tiles := 2 * k, all := 2 * n * k }]

/-- Products per clock of the score stage (R283). -/
def scoreRate (j : Job) : Nat := if (j.entry (j.acc 23 21)).any (fun e => e.format == 0x04 || e.format == 0x05) then 16 else 8

/-- c_blk. -/
def blockClocks (j : Job) : Nat :=
  let d := headDim j.task
  let p := scoreRate j
  if isBwd j.task then max (8 * d / p + 3 * d / 2) 128 else max (4 * d / p + d / 2) 64

/-- out of the dQ tiles. -/
def dqOut (j : Job) : Nat := outClocks j (j.acc 11 9) (blockTiles j.task)

/-- The sum over the blocks counted: the time of each, the fetch of the next and, in BWD after the first, the write of dQ. -/
def blocksSum (j : Job) (n : Nat) : Bool → List Nat → Nat
  | _, [] => 0
  | first, b :: bs =>
    let nxt := match bs with
      | c :: _ => blockFetch j n (some (statTile (aeIter j.task b))) c
      | [] => 0
    max (max (blockClocks j) nxt) (if isBwd j.task && !first then dqOut j else 0) + blocksSum j n false bs

/-- t_fin. -/
def finishClocks (j : Job) : Nat :=
  let t := j.task
  let k := blockTiles t
  if isBwd t then 16 + outClocks j (j.acc 8 6) (2 * k) + 2 * k * warmClocks j (j.acc 8 6)
  else
    16 + outClocks j (j.acc 17 15) k + fetchClocks j [{ acc := j.acc 14 12, tiles := 1, all := 1 }] + outClocks j (j.acc 14 12) 1
      + k * warmClocks j (j.acc 17 15) + warmClocks j (j.acc 14 12)

/-- The nominal duration of an attention task. -/
def attentionNominal (j : Job) : Nat :=
  let t := j.task
  let bs := countedBlocks t
  let n := bs.length
  let k := blockTiles t
  let fixed := if isBwd t then { acc := j.acc 20 18, tiles := 2 * k, all := 2 * k } else { acc := j.acc 23 21, tiles := k, all := k }
  16 + fetchClocks j [fixed]
    + (if t.payload.testBit 24 then fetchClocks j [{ acc := j.acc 5 3, tiles := 1, all := 1 }] else 0)
    + (match bs with
       | b :: _ => blockFetch j n none b
       | [] => 0)
    + blocksSum j n true bs
    + (if isBwd t && n != 0 then dqOut j else 0)
    + (if aeFinish t then finishClocks j else 0)

/-! ## Gather-scatter, layout and copy tasks (R306, R309, R577) -/

/-- n fetches of one tile each of an access. -/
def tileFetches (j : Job) (a : Option Access) (n : Nat) : Nat := n * fetchClocks j [{ acc := a, tiles := 1, all := n }]

/-- The nominal duration of a gather-scatter task (Table 8.5). -/
def gatherNominal (j : Job) : Nat :=
  let t := j.task
  let w := rowWidth t
  let n := gseCount t
  let index := tileFetches j (j.acc 43 41) (tilesOfElems (gseIdx0 t) n).length
  let data := (tilesOfElems (gseRow0 t * w) (n * w)).length
  if isScatter t then 16 + index + payloadField t 139 135 * (69 + 137) + n * (2 + ceilDiv w 128) + tileFetches j (j.acc 37 35) data
  else
    let per := max 1 (w / 16384)
    16 + index + n * (fetchClocks j [{ acc := j.acc 40 38, tiles := per, all := n * per }] + 2 + ceilDiv (4 * w) 1024)
      + data * (outClocks j (j.acc 37 35) 1 + warmClocks j (j.acc 37 35))

/-- The nominal duration of a layout task (R309). -/
def layoutNominal (j : Job) : Nat :=
  let t := j.task
  let n := lyeCount t
  let second := if lyeOp t = 4 then [{ acc := j.acc 118 116, tiles := 1, all := n }] else []
  16 + n * (fetchClocks j ({ acc := j.acc 121 119, tiles := 1, all := n } :: second) + 32 + outClocks j (j.acc 115 113) 1
    + warmClocks j (j.acc 115 113))

/-- The nominal duration of a copy task (R577). -/
def copyNominal (j : Job) : Nat :=
  let b := j.pitch (j.acc 54 52)
  16 + copyCount j.task * (t1ReadClocks j.tm 0xFF j.beam b + t1WriteClocks j.tm 0xFF j.beam b) + 2000

/-! ## What the check counts for a task (R69, Table 2.2) -/

/-- Die-to-die replays on the ports that a stream to the chained engine passes: two of 90 clocks on each ring port, or two of 60 on each of
two hub ports (R19, R21, R97; DEDUCED, log 43). -/
def routeReplay (i : Image) (own : EngineEntry) : Nat :=
  match i.engines[own.chain]? with
  | none => 0
  | some c =>
    if c.ldie = own.ldie then 0
    else
      match i.routes.find? (fun r => r.src == own.ldie && r.dst == c.ldie) with
      | some r => if r.kind = 2 then 240 else 180 * r.hops
      | none => 0

/-- Die-to-die replays that can act on a task: two of 60 clocks on the hub port for one with an access below T0 (R19). -/
def portReplay (i : Image) (e : EngineEntry) (t : TaskEntry) : Nat :=
  (if (checkAccs i t).any (fun a => a.count != 0 && a.budget != 0) then 120 else 0)
    + (if e.kind = 1 && meAction t = 4 then routeReplay i e else 0)

/-- What the check counts for a task from its latest start on; a task whose engine is not declared or runs no tasks counts nothing. -/
def countedClocks (tm : Timing) (p start : Nat) (t : TaskEntry) : Nat :=
  match taskEngine tm.img t with
  | none => 0
  | some e =>
    let j : Job := { tm := tm, beam := p, ldie := e.ldie, task := t, start := start }
    (match e.kind with
     | 1 => matrixNominal j + replayClocks j
     | 2 => vectorNominal j
     | 3 => attentionNominal j
     | 4 => gatherNominal j
     | 5 => layoutNominal j
     | 9 => copyNominal j
     | _ => 0) + portReplay tm.img e t

end Sys2Proof.Machine
end

