-- ==== Sys2Proof/Machine/CheckEnds.lean ====
section
/-! DEFINITION. The image check's timing: the latest start and end of every task of a plan beam (R65, R69, R99, R376). -/
namespace Sys2Proof.Machine

/-- A task of a plan beam with its latest end, before REPAIR_ALLOW, and the clocks counted for it. -/
structure TaskEnd where
  place : Nat
  task : TaskEntry
  stop : Nat
  clocks : Nat
  deriving DecidableEq, Repr

/-- The latest end of a task by its key. -/
def endOf (es : List TaskEnd) (k : Nat × Nat) : Option Nat := (es.find? (fun e => taskKey e.task == k)).map (·.stop)

/-- The tasks that a task waits for, of those that the plan beam holds: its dependencies and the one before it on its engine (R65). -/
def waitsFor (keys : List (Nat × Nat)) (t : TaskEntry) : List (Nat × Nat) :=
  ((if t.idx = 0 then [] else [(t.le, t.idx - 1)]) ++ depKeys t).filter keys.contains

/-- The latest offset at which a task's slot-arrival dependencies are complete. -/
def slotsTime (tm : Timing) (p : Nat) (t : TaskEntry) : Nat :=
  ((t.deps.filter (fun d => bits d 31 30 == 1)).map (fun d => slotTime tm p (bits d 21 16) (bits d 15 0))).foldl max 0

/-- The latest start of a task, once the ends of the tasks that it waits for are known; none before. -/
def latestStart (tm : Timing) (p : Nat) (keys : List (Nat × Nat)) (es : List TaskEnd) (t : TaskEntry) : Option Nat :=
  ((waitsFor keys t).mapM (endOf es)).map (fun xs => xs.foldl max (max t.release (slotsTime tm p t)))

/-- Tasks split into those whose latest ends are known now and those that wait. -/
def settleEnds (tm : Timing) (p : Nat) (keys : List (Nat × Nat)) : List (Nat × TaskEntry) → List TaskEnd → List TaskEnd × List (Nat × TaskEntry)
  | [], es => (es, [])
  | x :: xs, es =>
    match latestStart tm p keys es x.2 with
    | some s =>
      let c := countedClocks tm p s x.2
      settleEnds tm p keys xs ({ place := x.1, task := x.2, stop := s + c, clocks := c } :: es)
    | none =>
      let r := settleEnds tm p keys xs es
      (r.1, x :: r.2)

/-- The latest ends, round by round until no task waits; the fuel bounds the rounds. Tasks of a cycle get none. -/
def allEnds (tm : Timing) (p : Nat) (keys : List (Nat × Nat)) : Nat → List (Nat × TaskEntry) → List TaskEnd → List TaskEnd
  | 0, _, es => es
  | n + 1, xs, es =>
    let r := settleEnds tm p keys xs es
    if r.2.isEmpty || r.2.length == xs.length then r.1 else allEnds tm p keys n r.2 r.1

/-- The latest ends of the tasks of a plan beam, before REPAIR_ALLOW, which bounds the repairs of a whole beam and is added once to each
(DEDUCED, log 43). -/
def beamEnds (tm : Timing) (p : Nat) : List TaskEnd :=
  let xs := placedTasks tm.img p
  allEnds tm p (xs.map (fun x => taskKey x.2)) (xs.length + 1) xs []

/-- The latest end of the task at a place of the PLANS section, with REPAIR_ALLOW; 0 where it has none. -/
def latestEnd (tm : Timing) (es : List TaskEnd) (place : Nat) : Nat :=
  ((es.find? (fun e => e.place == place)).map (fun e => e.stop + tm.repair)).getD 0

/-- The latest ready time of tiles of a buoy in a plan beam: the latest end of the tasks that write one of them, with REPAIR_ALLOW; 0 where
none does (R376, R453, R489). -/
def readyTime (tm : Timing) (p : Nat) (buoy first count : Nat) : Nat :=
  let writes := fun (t : TaskEntry) => (checkAccs tm.img t).any (fun a =>
    accWrites a && a.buoy == buoy && decide (a.first < first + count) && decide (first < a.first + a.count))
  (beamEnds tm p).foldl (fun m e => if writes e.task then max m (e.stop + tm.repair) else m) 0

end Sys2Proof.Machine
end

