-- ==== Sys2Proof/Machine/CheckFabric.lean ====
section
/-! DEFINITION. The image check: the slot table, the flows, the relay store and the group's links (checks 0x4327, 0x4328, 0x4D10 to 0x4D16
and 0x4332; R64, R70, R447 to R457, R468, R471, R479). -/
namespace Sys2Proof.Machine

/-! ## Slot entries (0x4327, 0x4328) -/

/-- Two entries give one slot of one link and direction. -/
def slotsMeet (x y : SlotEntry) : Bool := x.link == y.link && x.recv == y.recv && meets (x.first, x.first + x.count) (y.first, y.first + y.count)

/-- The places of a plan beam's slot entries in the SLOTS section. -/
def slotPlaces (i : Image) (p : Nat) : List (Nat × SlotEntry) :=
  match i.slots.index[p]? with
  | some r => (slotsOf i p).zipIdx.map (fun x => (r.1 + x.2, x.1))
  | none => []

/-- The first place, in section order, of a slot entry that is bad beside those of its plan beam. -/
def firstSlot (i : Image) (bad : Nat → List SlotEntry → Nat → SlotEntry → Bool) : Option Nat :=
  lowest ((List.range i.slots.index.length).flatMap (fun p =>
    ((slotPlaces i p).zipIdx.filter (fun x => bad p (slotsOf i p) x.2 x.1.2)).map (fun x => x.1.1)))

/-- A failure of a slot entry. -/
def failSlot (event : Nat) (k : Option Nat) : Option CheckFail := k.map (fun k => { event := event, part := 6, entry := k })

/-- Checks 0x4327 and 0x4328. -/
def checkSlotCounts (i : Image) : Option CheckFail :=
  failAt 0x4327 6 i.slots.entries (fun x => x.count == 0)
  <|> failSlot 0x4328 (leastOf (firstBad (fun (x : SlotEntry) => decide (48 ≤ x.link) || x.first == 0) i.slots.entries)
        (firstSlot i (fun _ xs k x => (xs.take k).any (slotsMeet x))))

/-! ## Header, index, order and flows (0x4D10) -/

/-- The order of slot entries (R448). -/
def slotKey (x : SlotEntry) : Nat := (x.link * 2 + b01 x.recv) * 256 + x.first

/-- A slot entry stands out of order. -/
def slotUnsorted (xs : List SlotEntry) (k : Nat) (x : SlotEntry) : Bool := (xs.take k).any (fun y => decide (slotKey x < slotKey y))

/-- A slot entry holds a reserved encoding, reaches past slot 255 or names no flow. -/
def slotBad (flows : Nat) (b : Bytes) : Bool :=
  let x := parseSlot b
  decide (64 ≤ natAt b 3 1) || x.hop == 15 || decide (8192 ≤ x.peer) || decide (256 < x.first + x.count) || decide (flows ≤ x.flow)

/-- Tiles of a flow lie within a buoy. -/
def tilesInside (e : BuoyEntry) (first count : Nat) : Bool := count == 0 || decide (first + count ≤ buoyTiles e)

/-- A STREAM flow breaks R453 at this member. -/
def streamBad (i : Image) (f : Flow) : Bool :=
  let s := buoyEntry i f.srcBuoy
  let d := buoyEntry i f.dstBuoy
  (f.src == i.memberRank && !s.any (fun e => tilesInside e f.srcTile f.count))
    || (f.dst == i.memberRank && !d.any (fun e => tilesInside e f.dstTile f.count))
    || (match s, d with
        | some a, some b => a.format != b.format
        | _, _ => false)

/-- A flow descriptor is bad (Table 13.5). -/
def flowBad (i : Image) (f : Flow) : Bool :=
  decide (f.kind < 1) || decide (3 < f.kind) || decide (f.hops < 1) || decide (15 < f.hops) || f.src == f.dst
    || (if f.kind = 1 then f.le != 0xFFFF || streamBad i f else f.srcBuoy != 0 || f.dstBuoy != 0)

/-- Check 0x4D10; a failure of the index reports the plan beam and one of a flow the flow's index (DEDUCED, log 45). -/
def checkSlots (b : Bytes) (i : Image) : Option CheckFail :=
  let x := rawSection b 6
  failWhen (!zeroAt x.1 0x18 40 || i.slots.planBeams != planBeams i) 0x4D10 6 noEntry
  <|> failAt 0x4D10 6 i.slots.index (fun r => decide (i.slots.entries.length < r.1 + r.2))
  <|> failSlot 0x4D10 (leastOf (firstBad (slotBad i.slots.flows.length) (entriesOf x 8)) (firstSlot i (fun _ xs k y => slotUnsorted xs k y)))
  <|> failAt 0x4D10 6 i.slots.flows (flowBad i)

/-! ## Links and paths (0x4D11) -/

/-- The member of a group by module number. -/
def memberSerial (s : State) (m : Nat) : Option Nat := (s.fab.members.find? (fun x => x.number == m)).map (·.serial)

/-- The serial numbers of an image's group. -/
def groupSerials (s : State) (i : Image) : List Nat := i.group.filterMap (memberSerial s)

/-- The module of a rank is at the far end of an admitted link, which is then a member link. -/
def linkReaches (s : State) (i : Image) (l rank : Nat) : Bool :=
  (upLinks s).contains l
    && ((i.group[rank]?).bind (memberSerial s)).any (fun x => x == (linkOf s l).peerSerial)

/-- The members at which a direction of a flow begins and ends. -/
def flowEnds (f : Flow) (resp : Bool) : Nat × Nat := if resp then (f.dst, f.src) else (f.src, f.dst)

/-- This member has a run of a flow at a hop of a direction, over all plan beams. -/
def hasRun (i : Image) (flow hop : Nat) (resp recv : Bool) : Bool :=
  i.slots.entries.any (fun x => x.recv == recv && x.flow == flow && x.hop == hop && x.resp == resp)

/-- A run has its place on the flow's path: at its ends it starts and stops where the flow does, and between them this member forwards
what it receives. -/
def runPlaced (i : Image) (f : Flow) (x : SlotEntry) : Bool :=
  let e := flowEnds f x.resp
  decide (x.hop < f.hops) && (!x.resp || f.kind == 2)
    && (if x.recv then
          (if x.hop = 0 then x.peer == e.1 else true)
            && (if x.hop + 1 = f.hops then e.2 == i.memberRank else hasRun i x.flow (x.hop + 1) x.resp false)
        else
          (if x.hop = 0 then e.1 == i.memberRank else hasRun i x.flow (x.hop - 1) x.resp true)
            && (if x.hop + 1 = f.hops then x.peer == e.2 else true))

/-- A slot entry breaks check 0x4D11. -/
def pathBad (s : State) (i : Image) (x : SlotEntry) : Bool :=
  !linkReaches s i x.link x.peer || !(i.slots.flows[x.flow]?).any (fun f => runPlaced i f x)

/-- Check 0x4D11. -/
def checkPaths (s : State) (i : Image) : Option CheckFail := failAt 0x4D11 6 i.slots.entries (pathBad s i)

/-! ## Runs (0x4D12) -/

/-- A run of the step: its plan beam, its place and its entry. -/
structure StepRun where
  beam : Nat
  place : Nat
  run : SlotEntry
  deriving DecidableEq, Repr

/-- The runs of a step, in beam order. -/
def stepRuns (i : Image) : List StepRun :=
  (List.range (planBeams i)).flatMap (fun p =>
    (sortBy (fun a b => decide (a.2.first ≤ b.2.first)) (slotPlaces i p)).map (fun x => { beam := p, place := x.1, run := x.2 }))

/-- The runs of a flow at one hop of one direction on one side, in beam order. -/
def hopRuns (rs : List StepRun) (flow hop : Nat) (resp recv : Bool) : List StepRun :=
  rs.filter (fun x => x.run.recv == recv && x.run.flow == flow && x.run.hop == hop && x.run.resp == resp)

/-- Clocks from the step's first tick, idle beams apart. -/
def stepTime (t : Timing) (p off : Nat) : Nat := p * t.period + off

/-- A received run is forwarded as R451 has it. -/
def forwardBad (t : Timing) (a b : StepRun) : Bool :=
  decide (stepTime t b.beam (runStart t.rws b.run) < stepTime t a.beam (runEnd t.rws a.run) + 158)
    || decide (runRoom t.rws b.run.count < runRoom t.rws a.run.count)

/-- The place of the first run of a flow that breaks R451 at this member: a run that forwards too early or holds too little, or one that has
no partner. -/
def forwardFault (t : Timing) (rs : List StepRun) (flow hop : Nat) (resp : Bool) : Option Nat :=
  let xs := hopRuns rs flow hop resp true
  let ys := hopRuns rs flow (hop + 1) resp false
  match (xs.zip ys).find? (fun x => forwardBad t x.1 x.2) with
  | some x => some x.2.place
  | none => ((xs.drop ys.length).head? <|> (ys.drop xs.length).head?).map (·.place)

/-- The flits that a STREAM or ENGINE flow sends, none where no buoy that is declared here tells them. -/
def flowFlits (i : Image) (k : Nat) (f : Flow) : Option Nat :=
  let n := match flowBytes i k with
    | some n => some n
    | none => if f.kind = 1 then (buoyEntry i f.dstBuoy).map (fun e => f.count * buoyPitch e) else none
  n.map (fun n => ceilDiv n 240)

/-- The hops and sides at which this member has runs of a flow. -/
def flowSides (rs : List StepRun) (k : Nat) : List (Nat × Bool) :=
  ((rs.filter (fun x => x.run.flow == k && !x.run.resp)).map (fun x => (x.run.hop, x.run.recv))).eraseDups

/-- A flow's runs cannot hold its flits at a hop of this member, or it has none where the flow starts or ends. -/
def flowFull (t : Timing) (rs : List StepRun) (k : Nat) (f : Flow) : Bool :=
  let i := t.img
  match flowFlits i k f with
  | none => false
  | some n =>
    (flowSides rs k).any (fun x => decide (((hopRuns rs k x.1 false x.2).map (fun r => runRoom t.rws r.run.count)).sum < n))
      || (n != 0 && ((f.src == i.memberRank && !hasRun i k 0 false false) || (f.dst == i.memberRank && !hasRun i k (f.hops - 1) false true)))

/-- A STREAM flow's runs lie in several plan beams. -/
def flowSpans (rs : List StepRun) (k : Nat) : Bool := decide (1 < ((rs.filter (fun x => x.run.flow == k)).map (·.beam)).eraseDups.length)

/-- A STREAM flow's source is ready after its first hop-0 run starts (R453). -/
def sourceLate (t : Timing) (rs : List StepRun) (k : Nat) (f : Flow) : Bool :=
  f.src == t.img.memberRank && f.count != 0
    && ((hopRuns rs k 0 false false).head?).any (fun x =>
      decide (runStart t.rws x.run < readyTime t x.beam (checkId t.img f.srcBuoy) f.srcTile f.count))

/-- The place at which a flow breaks check 0x4D12: that of the run, or of the flow's first run here, or the flow's index where it has none
(DEDUCED, log 45). -/
def flowFault (t : Timing) (rs : List StepRun) (k : Nat) (f : Flow) : Option Nat :=
  match (List.range (f.hops - 1)).findSome? (fun h =>
      (if hasRun t.img k h false true then forwardFault t rs k h false else none)
        <|> (if hasRun t.img k h true true then forwardFault t rs k h true else none)) with
  | some n => some n
  | none =>
    if flowFull t rs k f || (f.kind = 1 && (flowSpans rs k || sourceLate t rs k f)) then
      some (((rs.find? (fun x => x.run.flow == k)).map (·.place)).getD k)
    else none

/-- Check 0x4D12. -/
def checkFlows (t : Timing) : Option CheckFail :=
  let rs := stepRuns t.img
  failSlot 0x4D12 (t.img.slots.flows.zipIdx.findSome? (fun x => flowFault t rs x.2 x.1))

/-! ## Transactions (0x4D13) -/

/-- A task has an access at BUDGET T2 to another member's buoy that no TRANSACTION flow serves. -/
def flowMissing (i : Image) (t : TaskEntry) : Bool :=
  (checkAccs i t).any (fun a => viaFlow i a && (buoyEntry i a.buoy).any (fun e => (flowTo i t.le e.ownerRank).isNone))

/-- Check 0x4D13. -/
def checkTransactions (i : Image) : Option CheckFail := failAt 0x4D13 5 i.plans.tasks (flowMissing i)

/-! ## The relay store (0x4D14) -/

/-- When the flits of a received run leave the relay store: the end of the run that forwards it, or the end of the destination's writes
(R452). -/
def heldUntil (t : Timing) (rs : List StepRun) (x : StepRun) : Nat :=
  let e := x.run
  let xs := hopRuns rs e.flow e.hop e.resp true
  let ys := hopRuns rs e.flow (e.hop + 1) e.resp false
  match (xs.zip ys).find? (fun y => y.1 == x) with
  | some y => stepTime t y.2.beam (runEnd t.rws y.2.run)
  | none => stepTime t x.beam (runComplete t x.beam e)

/-- The flits held for each received run: from when, until when, how many. -/
def relayLoads (t : Timing) : List (Nat × Nat × Nat) :=
  let rs := stepRuns t.img
  (rs.filter (fun x => x.run.recv)).map (fun x =>
    (stepTime t x.beam (runStart t.rws x.run), heldUntil t rs x, runRoom t.rws x.run.count))

/-- The flits held at a time. -/
def relayAt (ls : List (Nat × Nat × Nat)) (at_ : Nat) : Nat :=
  ((ls.filter (fun l => decide (l.1 ≤ at_) && decide (at_ < l.2.1))).map (·.2.2)).sum

/-- Check 0x4D14. No flow descriptor carries FP32 REDUCE_ADD, so check 0x4D15 finds nothing (DEDUCED, log 45). -/
def checkRelay (t : Timing) : Option CheckFail :=
  let ls := relayLoads t
  failWhen (ls.any (fun l => decide (16384 < relayAt ls l.1))) 0x4D14 0 noEntry

/-! ## The group's links (0x4D16, 0x4332) -/

/-- Hops between two modules of a group over member links, none where no path leads (R468, R471). -/
def groupHops (s : State) (i : Image) (a b : Nat) : Option Nat :=
  let g := groupSerials s i
  distanceTo (distances (domainGraph s) (fun x => g.contains x) a) b

/-- The hops of the tree edge above a position of tree 0, on which position and rank coincide. -/
def edgeHops (s : State) (i : Image) (pos : Nat) : Option Nat :=
  (parentPos i.exchange 0 pos).bind (fun q =>
    ((i.group[pos]?).bind (memberSerial s)).bind (fun a => ((i.group[q]?).bind (memberSerial s)).bind (fun b => groupHops s i a b)))

/-- The clocks of the path from a position to the root: h × 480 + 154 × 3 + 16 for each edge; the fuel bounds the path. -/
def pathClocks (s : State) (i : Image) : Nat → Nat → Nat
  | 0, _ => 0
  | n + 1, pos =>
    match parentPos i.exchange 0 pos with
    | some q => (edgeHops s i pos).getD 0 * 480 + 154 * 3 + 16 + pathClocks s i n q
    | none => 0

/-- The vote bound (R471). -/
def voteBound (s : State) (i : Image) : Nat := 2 * ((List.range i.group.length).map (pathClocks s i i.group.length)).foldl max 0

/-- The member links connect the group. -/
def groupConnected (s : State) (i : Image) : Bool :=
  let g := groupSerials s i
  g.all (fun a => g.all (fun b => (groupHops s i a b).isSome))

/-- Check 0x4D16. -/
def checkGroupLinks (s : State) (t : Timing) : Option CheckFail :=
  failWhen (!groupConnected s t.img || decide (t.limit < voteBound s t.img)) 0x4D16 0 noEntry

/-- H_g: the largest hop count of a shortest path between two members (R468). -/
def groupDiameter (s : State) (i : Image) : Nat :=
  let g := groupSerials s i
  (g.flatMap (fun a => g.map (fun b => (groupHops s i a b).getD 0))).foldl max 0

/-- Check 0x4332 (R70, R468). -/
def checkHaltBound (s : State) (t : Timing) : Option CheckFail :=
  failWhen (decide (eclipseOf t.rws < 320 * groupDiameter s t.img)) 0x4332 0 noEntry

/-! ## The checks of Table 13.10 -/

/-- Checks 0x4327 to 0x4D16. -/
def checkFabric (s : State) (b : Bytes) (t : Timing) : Option CheckFail :=
  checkSlotCounts t.img <|> checkSlots b t.img <|> checkPaths s t.img <|> checkFlows t <|> checkTransactions t.img <|> checkRelay t
  <|> checkGroupLinks s t

end Sys2Proof.Machine
end

