-- ==== Sys2Proof/Machine/CheckExchange.lean ====
section
/-! DEFINITION. The image check: the numeric policy and the EXCHANGE section (checks 0x4329 to 0x432C and 0x4E10 to 0x4E16; R142, R143,
R217, R218, R482 to R511, R519). -/
namespace Sys2Proof.Machine

/-! ## The numeric policy (0x4329) -/

/-- A class policy entry is bad beside those before it (R143). -/
def classBad (es : List Bytes) (k : Nat) (b : Bytes) : Bool :=
  let c := parseClass b
  let sr := srClass c.cls
  let delta := c.cls == 7 || c.cls == 8
  (es.take k).any (fun e => natAt e 0 1 == 1 && natAt e 1 1 == c.cls) || decide (10 < c.cls) || decide (2 < c.round) || decide (2 < c.scaling)
    || decide (c.margin < -8) || decide (8 < c.margin) || (sr && c.round != 1) || ((c.scaling == 2) != delta)
    || ([5, 9, 10].contains c.cls && c.scaling != 0) || !zeroAt b 5 27

/-- An accumulation policy entry is bad beside those before it (R218). -/
def accBad (es : List Bytes) (k : Nat) (b : Bytes) : Bool :=
  let a := parseAcc b
  (es.take k).any (fun e => natAt e 0 1 == 2 && natAt e 1 1 == a.policy) || decide (2 < a.mode) || decide (1 < a.onExcess)
    || decide ((if a.mode = 2 then 3 else 1) < a.budget) || a.maxChain == 0 || (a.mode == 0 && decide (8192 < a.maxChain))
    || !(zeroAt b 5 3 && zeroAt b 12 20)

/-- A NUMERIC entry is bad; a KIND other than 1 and 2 is reserved. -/
def numericEntryBad (es : List Bytes) (k : Nat) (b : Bytes) : Bool :=
  match natAt b 0 1 with
  | 1 => classBad es k b
  | 2 => accBad es k b
  | _ => true

/-- Check 0x4329. -/
def checkNumeric (b : Bytes) (i : Image) : Option CheckFail :=
  let es := entriesOf (rawSection b 8) 32
  failAtPlace 0x4329 8 es (numericEntryBad es) <|> failAt 0x4329 7 i.buoys (fun e => decide (10 < e.cls))

/-! ## Entries by their places -/

/-- The place in the EXCHANGE section of the n-th entry of a KIND. -/
def kindPlace (x : Exchange) (kind n : Nat) : Nat := (((x.kinds.zipIdx.filter (fun k => k.1 == kind))[n]?).map (·.2)).getD 0

/-- A failure of the first entry of a KIND that is bad. -/
def failKind {α : Type} (event : Nat) (x : Exchange) (kind : Nat) (es : List α) (bad : Nat → α → Bool) : Option CheckFail :=
  (es.zipIdx.find? (fun e => bad e.2 e.1)).map (fun e => { event := event, part := 10, entry := kindPlace x kind e.2 })

/-! ## Trees (0x432A to 0x432C) -/

/-- A position's parent links reach position 0, the root; the fuel bounds the path. -/
def reachesRoot (x : Exchange) (tree : Nat) : Nat → Nat → Bool
  | 0, _ => false
  | n + 1, pos =>
    match x.nodes.find? (fun e => e.tree == tree && e.pos == pos) with
    | some e => if e.parent = 0xFFFFFFFF then pos == 0 else reachesRoot x tree n e.parent
    | none => false

/-- A TREE_NODE entry is bad: its position does not exist or stands twice, its links do not reach position 0, or its tree lacks one
(R485). -/
def nodeBad (x : Exchange) (n k : Nat) (e : TreeNode) : Bool :=
  let own := x.nodes.filter (fun y => y.tree == e.tree)
  decide (n ≤ e.pos) || (x.nodes.take k).any (fun y => y.tree == e.tree && y.pos == e.pos) || !reachesRoot x e.tree (n + 1) e.pos
    || (List.range n).any (fun p => !own.any (fun y => y.pos == p))

/-- Checks 0x432A to 0x432C. -/
def checkTrees (i : Image) : Option CheckFail :=
  let x := i.exchange
  failWhen (x.bucketBytes == 0) 0x432A 10 noEntry
  <|> failWhen (decide (x.bucketBytes < 2 ^ 20) || decide (256 * 2 ^ 20 < x.bucketBytes)) 0x432B 10 noEntry
  <|> failKind 0x432C x 1 x.nodes (fun k e => nodeBad x i.group.length k e)

/-! ## Header and entries (0x4E10) -/

/-- The reserved spans of an EXCHANGE entry: offset and length (Tables 14.2 to 14.6). -/
def exchangeSpans (kind : Nat) : List (Nat × Nat) :=
  match kind with
  | 1 => [(1, 1), (12, 20)]
  | 2 => []
  | 3 => [(1, 1), (20, 12)]
  | 4 => [(1, 1), (20, 12)]
  | _ => [(2, 2), (24, 8)]

/-- An FP32 value is negative or not finite; −0 is not negative (R519). -/
def badPositive (x : W32) : Bool := nonfinite32 x.toNat || (x.getLsbD 31 && !zero32 x.toNat)

/-- An EXCHANGE entry's own fields are bad (R482, R519). -/
def exchangeEntryBad (es : List Bytes) (k : Nat) (b : Bytes) : Bool :=
  let kind := natAt b 0 1
  let before := fun n => (es.take k).any (fun e => natAt e 0 1 == kind && natAt e 2 2 == n)
  decide (kind < 1) || decide (5 < kind) || (exchangeSpans kind).any (fun x => !zeroAt b x.1 x.2)
    || (match kind with
        | 1 => decide (15 < natAt b 2 2)
        | 2 => natAt b 1 1 != 1 && natAt b 1 1 != 2
        | 3 => before (natAt b 2 2)
        | 4 => before (natAt b 2 2) || badPositive (w32At b 4) || badPositive (w32At b 8) || badPositive (w32At b 12)
        | _ => decide (2 < natAt b 1 1) || (natAt b 1 1 != 0 && natAt b 20 4 == 0) || badPositive (w32At b 4) || badPositive (w32At b 8)
                || badPositive (w32At b 12))

/-- The EXCHANGE body header is bad. -/
def exchangeHeaderBad (b : Bytes) : Bool :=
  let x := (rawSection b 10).1
  let h := parseExchange (rawSection b 10)
  !(h.mode == 1 || h.mode == 2) || decide (1 < h.clip) || decide (1 < h.arith) || (h.clip == 0 && h.normBeam != 0) || badPositive h.globalTau
    || !(zeroAt x 3 1 && zeroAt x 0x14 44)

/-- What of the EXCHANGE header a delta may not change. -/
def fixedHeader (x : Exchange) : List Nat := [x.mode, x.clip, x.arith, x.normBeam, x.bucketBytes]

/-- The place at which a delta changes what it may not (R519). -/
def exchangeChange (live x : Exchange) : Option Nat :=
  let differ := fun {α : Type} [BEq α] (kind : Nat) (a b : List α) =>
    if a == b then none else some (kindPlace x kind (((b.zip a).findIdx? (fun y => !(y.1 == y.2))).getD (min a.length b.length)))
  if fixedHeader live != fixedHeader x then some noEntry
  else leastOf (differ 1 live.nodes x.nodes) (leastOf (differ 2 live.buckets x.buckets) (differ 3 live.pairs x.pairs))

/-- Check 0x4E10; a section without tree 0 or without exactly one SCHEDULE entry fails at no entry (DEDUCED, log 46). -/
def checkExchangeFields (b : Bytes) (live : Option Image) (i : Image) : Option CheckFail :=
  if !(carriedTypes b).contains 10 then none
  else
    let es := entriesOf (rawSection b 10) 32
    failWhen (exchangeHeaderBad b) 0x4E10 10 noEntry
    <|> failAtPlace 0x4E10 10 es (exchangeEntryBad es)
    <|> failWhen (!i.exchange.nodes.any (fun e => e.tree == 0) || i.exchange.schedules.length != 1) 0x4E10 10 noEntry
    <|> (live.bind (fun l => exchangeChange l.exchange i.exchange)).map (fun k => { event := 0x4E10, part := 10, entry := k })

/-! ## Buckets (0x4E11) -/

/-- A flow of Table 14.7 is there: an ENGINE flow of the RDE between two ranks. -/
def bucketFlowOk (i : Image) (k src dst : Nat) : Bool :=
  (i.slots.flows[k]?).any (fun f => f.kind == 3 && f.src == src && f.dst == dst && (i.engines[f.le]?).any (fun e => e.kind == 8))

/-- A bucket's flows of a position other than 0 are there (R486). -/
def positionFlows (i : Image) (x : Bucket) (p : Nat) : Bool :=
  let own := bucketRank i x p
  match parentPos i.exchange x.tree p with
  | some q =>
    bucketFlowOk i (upFlow x p) own (bucketRank i x q) && (i.exchange.mode != 2 || bucketFlowOk i (downFlow i x p) (bucketRank i x q) own)
  | none => false

/-- A buoy is a reduction buffer as R487 has it. -/
def bufferBad (e : BuoyEntry) : Bool :=
  !([0x01, 0x03, 0x05].contains e.format) || e.cls != 4 || !hasFlag e 1 || e.ownerRank != 0xFFFFFFFF || hasFlag e 2 || hasFlag e 10

/-- Two buckets hold a tile of one buffer. -/
def bucketsMeet (x y : Bucket) : Bool := x.buoy == y.buoy && x.count != 0 && y.count != 0 && meets (x.first, x.first + x.count) (y.first, y.first + y.count)

/-- The rank that owns a shard's halves. -/
def shardOwner (i : Image) (p : EpochPair) : Option Nat :=
  (buoyEntry i p.half0).map (fun e => if e.ownerRank = 0xFFFFFFFF then i.memberRank else e.ownerRank)

/-- A bucket breaks check 0x4E11. -/
def bucketBad (i : Image) (k : Nat) (x : Bucket) : Bool :=
  let n := i.group.length
  match buoyEntry i x.buoy, i.exchange.pairs.find? (fun p => p.shard == x.shard) with
  | some e, some p =>
    !i.exchange.nodes.any (fun y => y.tree == x.tree) || decide (n ≤ x.root) || bufferBad e || decide (buoyTiles e < x.first + x.count)
      || decide (i.exchange.bucketBytes < x.count * buoyPitch e) || (i.exchange.buckets.take k).any (bucketsMeet x)
      || (i.exchange.mode == 1 && shardOwner i p != some x.root) || (List.range n).any (fun q => q != 0 && !positionFlows i x q)
  | _, _ => true

/-- The reduction buffers. -/
def isBuffer (i : Image) (id : Nat) : Bool := i.exchange.buckets.any (fun x => x.buoy == id)

/-- Check 0x4E11; an access that breaks R487 reports its plan beam (DEDUCED, log 46). -/
def checkBuckets (i : Image) : Option CheckFail :=
  failKind 0x4E11 i.exchange 2 i.exchange.buckets (bucketBad i)
  <|> failUse 0x4E11 (planUses i) (fun u => isBuffer i u.acc.buoy && u.acc.budget != 0)

/-! ## Epoch pairs (0x4E12) -/

/-- The halves of a pair are alike (R503), and private in replicated mode (R499). -/
def halvesBad (i : Image) (p : EpochPair) : Bool :=
  match buoyEntry i p.half0, buoyEntry i p.half1 with
  | some a, some b =>
    p.half0 == p.half1 || a.size != b.size || a.format != b.format || a.cls != b.cls || a.flags != b.flags || a.ownerRank != b.ownerRank
      || (i.exchange.mode == 2 && a.ownerRank != 0xFFFFFFFF)
  | _, _ => true

/-- The aliases of an image. -/
def aliases (i : Image) : List Nat := i.exchange.pairs.flatMap (fun p => [p.cur, p.next])

/-- An alias equals a BUOY_ID or another alias. -/
def aliasBad (i : Image) (id : Nat) : Bool := i.buoys.any (fun e => e.id == id) || decide (1 < ((aliases i).filter (· == id)).length)

/-- A pair breaks check 0x4E12. -/
def pairBad (i : Image) (p : EpochPair) : Bool := halvesBad i p || aliasBad i p.cur || aliasBad i p.next

/-- A task runs a program with the UPDATE flag. -/
def isUpdateTask (i : Image) (t : TaskEntry) : Bool :=
  (taskEngine i t).any (fun e => e.kind == 2) && (i.update.progs[payloadField t 63 48]?).any (·.update)

/-- An access record of a task breaks R503: it names a half, writes a CUR alias, or uses a NEXT alias otherwise than to write it by an
UPDATE program. -/
def aliasUseBad (i : Image) (t : TaskEntry) (a : Access) : Bool :=
  i.exchange.pairs.any (fun p => p.half0 == a.buoy || p.half1 == a.buoy || (p.cur == a.buoy && a.mode != 1)
    || (p.next == a.buoy && (a.mode != 2 || !isUpdateTask i t)))

/-- Check 0x4E12; an access that breaks R503 reports its plan beam (DEDUCED, log 46). -/
def checkPairs (i : Image) : Option CheckFail :=
  failKind 0x4E12 i.exchange 3 i.exchange.pairs (fun _ p => pairBad i p)
  <|> ((List.range (planBeams i)).find? (fun p => (tasksOf i p).any (fun t => (accsOf i t).any (aliasUseBad i t)))).map
        (fun p => { event := 0x4E12, part := 5, entry := p })

/-! ## Norms (0x4E13) -/

/-- A plan beam may carry a norm collective: it exists and is not the step-gate beam (R507; DEDUCED, log 46). -/
def normBeamOk (i : Image) (p : Nat) : Bool := decide (p < planBeams i) && !isGate i p

/-- A LAYER entry breaks R507. -/
def layerBad (i : Image) (k : Nat) (l : LayerEntry) : Bool :=
  i.exchange.clip == 0 && !zero32 l.tau.toNat
    && (!normBeamOk i l.clipBeam || (i.exchange.layers.take k).any (fun m => !zero32 m.tau.toNat && m.clipBeam == l.clipBeam)
        || i.exchange.buckets.any (fun x => x.layer == l.layer && decide (l.clipBeam ≤ x.beam)))

/-- A program reads SGET source 4. -/
def readsClip (i : Image) (t : TaskEntry) : Bool :=
  isUpdateTask i t && (taskProgram i t).any (fun x => opOf x == 0x0D && (VWord.decode x).imm.toNat == 4)

/-- The plan beam whose collective serves a layer, none where its clip factor is 1.0 (R505, R506, R510). -/
def clipBeamOf (x : Exchange) (layer : Nat) : Option Nat :=
  if x.clip = 1 then (if zero32 x.globalTau.toNat then none else some x.normBeam)
  else (x.layers.find? (fun l => l.layer == layer && !zero32 l.tau.toNat)).map (·.clipBeam)

/-- A task breaks R510. -/
def clipUseBad (i : Image) (bound p : Nat) (t : TaskEntry) : Bool :=
  readsClip i t && (clipBeamOf i.exchange (payloadField t 31 16)).any (fun c => decide (p < c) || (p == c && decide (t.release < bound)))

/-- The place of the first task that breaks a rule of its plan beam. -/
def firstTask (i : Image) (bad : Nat → TaskEntry → Bool) : Option Nat :=
  (List.range (planBeams i)).findSome? (fun p => ((placedTasks i p).find? (fun x => bad p x.2)).map (·.1))

/-- A failure of a task entry. -/
def failTask (event : Nat) (i : Image) (bad : Nat → TaskEntry → Bool) : Option CheckFail :=
  (firstTask i bad).map (fun k => { event := event, part := 5, entry := k })

/-- Check 0x4E13. -/
def checkNorms (bound : Nat) (i : Image) : Option CheckFail :=
  let x := i.exchange
  failWhen (x.clip == 1 && (!normBeamOk i x.normBeam || x.buckets.any (fun y => decide (x.normBeam ≤ y.beam)))) 0x4E13 10 noEntry
  <|> failKind 0x4E13 x 4 x.layers (layerBad i)
  <|> failTask 0x4E13 i (clipUseBad i bound)

/-! ## Holding the reduced gradient (0x4E14) -/

/-- A use reaches a tile of a bucket. -/
def useHits (x : Bucket) (u : PlanUse) : Bool :=
  u.acc.buoy == x.buoy && x.count != 0 && meets (u.acc.first, u.acc.first + u.acc.count) (x.first, x.first + x.count)

/-- This member holds a bucket's reduced tiles. -/
def holdsResult (i : Image) (x : Bucket) : Bool := bucketPos i x == 0 || i.exchange.mode == 2

/-- A plan beam in which a STREAM flow lands in a bucket's tiles here. -/
def landsIn (i : Image) (x : Bucket) (p : Nat) : Bool :=
  (slotsOf i p).any (fun y => y.recv && (i.slots.flows[y.flow]?).any (fun f =>
    f.kind == 1 && f.dst == i.memberRank && y.hop + 1 == f.hops && f.dstBuoy == x.buoy && x.count != 0
      && meets (f.dstTile, f.dstTile + f.count) (x.first, x.first + x.count)))

/-- A bucket breaks R511: after its SEND_BEAM a write of its tiles is not after every read of them, or a flow lands in them no later than
the last read. -/
def holdingBad (i : Image) (us : List PlanUse) (x : Bucket) : Bool :=
  let own := us.filter (fun u => useHits x u && decide (x.beam < u.beam))
  let reads := own.filter (fun u => accReads u.acc)
  holdsResult i x
    && (own.any (fun w => accWrites w.acc && reads.any (fun r => !planBefore i r.beam r.task w.beam w.task))
        || (List.range (planBeams i)).any (fun p => landsIn i x p && (p == x.beam || (decide (x.beam < p) && reads.any (fun r => decide (p ≤ r.beam))))))

/-- Check 0x4E14. -/
def checkHolding (i : Image) : Option CheckFail :=
  let us := planUses i
  failKind 0x4E14 i.exchange 2 i.exchange.buckets (fun _ x => holdingBad i us x)

/-! ## Bucket timing (0x4E15) -/

/-- The first start of some runs. -/
def firstStart (r : Rws) (xs : List SlotEntry) : Option Nat := (xs.map (runStart r)).min?

/-- Clocks of the RDE for a bucket at this member: `k` children (R495). -/
def combineClocks (t : Timing) (e : BuoyEntry) (x : Bucket) (k : Nat) : Nat :=
  let rw := class0Clocks t.img e x.beam (buoyPitch e / 64)
  16 + x.count * (rw + (k + 1) * ceilDiv (payloadLen e.format) 256 + (if bucketPos t.img x = 0 then rw else 0))

/-- The offset at which a child's upward flow has arrived here. -/
def childArrival (t : Timing) (x : Bucket) (q : Nat) : Nat :=
  let k := upFlow x q
  (t.img.slots.flows[k]?).elim 0 (fun f => lastHeld t.rws (runsOf t.img x.beam k (f.hops - 1) false true))

/-- The offset at which this member's own downward flow has arrived. -/
def downArrival (t : Timing) (x : Bucket) : Nat :=
  let k := downFlow t.img x (bucketPos t.img x)
  (t.img.slots.flows[k]?).elim 0 (fun f => lastHeld t.rws (runsOf t.img x.beam k (f.hops - 1) false true))

/-- done of a bucket at this member, `prev` being the end of the previous combine of the RDE (R488, R495). -/
def bucketDone (t : Timing) (x : Bucket) (prev : Nat) : Nat :=
  match buoyEntry t.img x.buoy with
  | none => prev
  | some e =>
    if x.count = 0 then
      max prev (lastHeld t.rws ((slotsOf t.img x.beam).filter (fun y =>
        decide (x.flowBase ≤ y.flow) && decide (y.flow < x.flowBase + 2 * (memberCount t.img - 1)))))
    else
      let kids := bucketChildren t.img x
      let ready := readyTime t x.beam x.buoy x.first x.count
      (kids.map (childArrival t x)).foldl max (max prev ready) + combineClocks t e x kids.length

/-- A run of a flow from here starts before an offset. -/
def startsBefore (t : Timing) (p k off : Nat) : Bool := (firstStart t.rws (runsOf t.img p k 0 false false)).any (fun s => decide (s < off))

/-- The flits of a flow from here are acknowledged before P − E: 480 clocks after its last run (R446, R496; DEDUCED, log 46). -/
def ackedLate (t : Timing) (p k : Nat) : Bool :=
  (runsOf t.img p k 0 false false).any (fun y => decide (t.limit ≤ runEnd t.rws y + 480))

/-- The downward flows from this member (R493). -/
def downFlows (i : Image) (x : Bucket) : List Nat := if i.exchange.mode = 2 then (bucketChildren i x).map (downFlow i x) else []

/-- A task writes a tile of a bucket with RB_WRITE or RB_ADD after SEND_BEAM, or reads one in it (R489, R496). -/
def bucketUseBad (i : Image) (us : List PlanUse) (x : Bucket) : Bool :=
  us.any (fun u => useHits x u
    && ((decide (x.beam < u.beam) && accWrites u.acc && (taskEngine i u.task).any (fun e => e.kind == 1)) || (u.beam == x.beam && u.acc.mode == 1)))

/-- A bucket that is done at an offset breaks R495 or R496 at this member. -/
def bucketLate (t : Timing) (us : List PlanUse) (x : Bucket) (done : Nat) : Bool :=
  let i := t.img
  let pos := bucketPos i x
  let downAt := if pos = 0 then done else downArrival t x
  let rw := (buoyEntry i x.buoy).elim 0 (fun e => class0Clocks i e x.beam (buoyPitch e / 64))
  let held := if pos = 0 then done else if i.exchange.mode = 2 then downAt + x.count * rw else 0
  decide (planBeams i ≤ x.beam) || bucketUseBad i us x || decide (t.limit < held)
    || (pos != 0 && (startsBefore t x.beam (upFlow x pos) done || ackedLate t x.beam (upFlow x pos) || decide (t.limit < done)))
    || (downFlows i x).any (fun k => startsBefore t x.beam k downAt || ackedLate t x.beam k)

/-- The first bucket that breaks check 0x4E15, the RDE taking the buckets of each plan beam in entry order; `ends` holds the end of its last
combine in each plan beam. -/
def firstLate (t : Timing) (us : List PlanUse) : List (Bucket × Nat) → SMap Nat → Option Nat
  | [], _ => none
  | (x, k) :: xs, ends =>
    let d := bucketDone t x (SMap.get ends x.beam 0)
    if bucketLate t us x d then some k else firstLate t us xs (SMap.set ends x.beam d 0)

/-- Check 0x4E15. -/
def checkBucketTimes (t : Timing) : Option CheckFail :=
  (firstLate t (planUses t.img) t.img.exchange.buckets.zipIdx []).map
    (fun k => { event := 0x4E15, part := 10, entry := kindPlace t.img.exchange 2 k })

/-! ## The step gate (0x4E16) -/

/-- A task writes a NEXT alias. -/
def writesNext (i : Image) (t : TaskEntry) : Bool := (accsOf i t).any (fun a => a.mode != 1 && i.exchange.pairs.any (fun p => p.next == a.buoy))

/-- Check 0x4E16. -/
def checkGate (i : Image) : Option CheckFail :=
  ((List.range (planBeams i)).find? (fun p => isGate i p && !(tasksOf i p).isEmpty)).map (fun p => { event := 0x4E16, part := 5, entry := p })
  <|> (if i.exchange.clip = 1 then failTask 0x4E16 i (fun p t => decide (p < i.exchange.normBeam) && writesNext i t) else none)

/-! ## The checks in their order -/

/-- Checks 0x4329 to 0x4E16. -/
def checkExchange (s : State) (b : Bytes) (live : Option Image) (t : Timing) : Option CheckFail :=
  let i := t.img
  checkNumeric b i <|> checkTrees i <|> checkExchangeFields b live i <|> checkBuckets i <|> checkPairs i <|> checkNorms (voteBound s i) i
  <|> checkHolding i <|> checkBucketTimes t <|> checkGate i

end Sys2Proof.Machine
end

