-- ==== Sys2Proof/Machine/DeepTier.lean ====
section
/-! DEFINITION. The deep tier: its channels, write credit, wear and crypto-erase (R413 to R427). -/
namespace Sys2Proof.Machine

/-! ## Channels (R414, R424) -/

/-- A channel of V fails: it is recorded as retired and leaves V at the next module reset; while ARMED or RUNNING that is a fault
(R414). -/
def failChannel (c : Nat) (s : State) : State :=
  if s.deep.channels.contains c && !s.deep.failed.contains c then
    let t : State := { s with
      deep := { s.deep with failed := s.deep.failed ++ [c] }
      nor := { s.nor with retiredChannels := s.nor.retiredChannels ++ [c] } }
    if inJob s then raiseFault 0x8C00 (detail [(1, c)]) t else t
  else s

/-- CHANNEL_FAILURE (R414). -/
def execChannelFailure (c : Fin 16) (s : State) : Result := .next (failChannel c.val s)

/-- SPARE_BLOCKS_EXHAUSTED (R424): T3_GIB falls by 16 GiB. -/
def execSpareBlocksExhausted (s : State) : Result :=
  let t : State := { s with deep := { s.deep with spareSteps := s.deep.spareSteps + 1 } }
  .next (record 0x0C01 (detail [(2, t3Gib t.deep)]) t)

/-! ## The write credit (R423) -/

/-- C changes, in the device and in the serial NOR. -/
def setCredit (c : Int) (s : State) : State := { s with deep := { s.deep with credit := c, creditNor := c } }

/-- RATE_MBS in bytes. -/
def creditRate (d : Deep) : Int := (bits d.policy.toNat 15 0 * 10 ^ 6 : Nat)

/-- The ceiling of C in bytes. -/
def creditCeiling (d : Deep) : Int := (bits d.policy.toNat 47 32 * 2 ^ 30 : Nat)

/-- RESERVE_GIB in bytes. -/
def creditReserve (d : Deep) : Int := (bits d.policy.toNat 31 16 * 2 ^ 30 : Nat)

/-- WRITE_CREDIT_ACCRUAL (R423): a second has passed. -/
def execWriteCreditAccrual (s : State) : Result :=
  .next (if s.deep.channels.isEmpty then s else setCredit (min (s.deep.credit + creditRate s.deep) (creditCeiling s.deep)) s)

/-- 30 PB, the rating (R424). -/
def ratedBytes : Nat := 30 * 10 ^ 15

/-- Lifetime writes pass a share of the rating. -/
def passesShare (old new percent : Nat) : Bool := decide (old * 100 < percent * ratedBytes) && decide (percent * ratedBytes ≤ new * 100)

/-- A write of the deep tier: C falls by its footprint, and the lifetime count rises by its logical bytes; events 0x4C01 and 0x4C00
(R423, R424). -/
def chargeDeep (foot logical : Nat) (s : State) : State :=
  let c := s.deep.credit - (foot : Int)
  let w := s.deep.written + logical
  let t := setCredit c { s with deep := { s.deep with written := w } }
  let u := if 0 ≤ s.deep.credit ∧ c < 0 then record 0x4C01 [] t else t
  if passesShare s.deep.written w 80 || passesShare s.deep.written w 100 then record 0x4C00 [] u else u

/-- An object changed. -/
def updObj (num : Nat) (f : DeepObj → DeepObj) (s : State) : State :=
  { s with deep := { s.deep with objects := s.deep.objects.map (fun o => if o.num = num then f o else o) } }

/-- A new object is written: header last, so it is valid (R415). -/
def addObj (o : DeepObj) (s : State) : State :=
  { s with deep := { s.deep with objects := s.deep.objects ++ [o], nextObj := s.deep.nextObj + 1 } }

/-! ## Loading a home (R423) -/

/-- The next tile of a home that has not been loaded. -/
def nextUnloaded (o : DeepObj) : Option Nat := (List.range o.tileCount).find? (fun j => (SMap.get o.tiles j none).isNone)

/-- The bytes of a loaded tile in working form: no rule says where they come from, so they are free values (DESIGN CHOICE, log 31). -/
def loadedTile (gen n : Nat) : Bytes := (List.range n).map (Config.undefinedByte gen)

/-- A tile of a buoy's deep home is loaded while C is above the reserve (R423). -/
def loadHome (e : BuoyEntry) (o : DeepObj) (s : State) : State :=
  match nextUnloaded o with
  | some j =>
    if creditReserve s.deep < s.deep.credit then
      let b := encodeStored (loadedTile (s.freeCount + 1) (buoyPitch e))
      chargeDeep (footprint b) (buoyPitch e)
        (updObj o.num (fun o => { o with tiles := SMap.set o.tiles j (some b) none }) { s with freeCount := s.freeCount + 1 })
    else s
  | none => s

/-- HOME_LOADING (R423). -/
def execHomeLoading (buoy : Nat) (s : State) : Result :=
  .next (
    match liveBuoy s buoy, (buoyOf s buoy).home with
    | some e, .deep n =>
      match deepObj s.deep n with
      | some o => loadHome e o s
      | none => s
    | _, _ => s)

/-! ## Crypto-erase (R426, R427) -/

/-- The areas of a mask. -/
def areasOf (m : Nat) : List Nat := (List.range 4).filter (fun a => m.testBit a)

/-- A crypto-erase is refused (R427). -/
def eraseRefused (v : Nat) (s : State) : Bool :=
  bits v 63 56 != 0xE5 || inJob s || (s.img.live.isSome && bits v 1 0 != 0) || s.deep.erasing.isSome

/-- The named areas lose their keys and objects, and take new keys (R426). -/
def cryptoErase (areas : List Nat) (mask : Nat) (s : State) : State :=
  { s with
    freeCount := s.freeCount + 4
    nor := { s.nor with mediaKeys := areas.foldl (fun m a => SMap.set m a (Config.fresh (s.freeCount + 1 + a)).toNat 0) s.nor.mediaKeys }
    deep := { s.deep with
      objects := s.deep.objects.filter (fun o => !areas.contains o.area)
      keyValid := s.deep.keyValid ||| BitVec.ofNat 4 mask
      erasing := some (BitVec.ofNat 4 mask) } }

/-- A write of DEEP_ERASE. -/
def requestErase (v : Nat) (s : State) : State :=
  if eraseRefused v s then record 0x4C02 [] s else cryptoErase (areasOf (bits v 3 0)) (bits v 3 0) s

/-- DEEP_ERASE (R426). -/
def execDeepErase (p : Port) (v : W64) (s : State) : Result := .next (regWrite p .deepErase v (fun _ => 0) requestErase s)

/-- CRYPTO_ERASE_COMPLETE (R426). -/
def execCryptoEraseComplete (s : State) : Result :=
  .next (
    match s.deep.erasing with
    | some m => record 0x0C00 (detail [(1, m.toNat)]) { s with deep := { s.deep with erasing := none } }
    | none => s)

end Sys2Proof.Machine
end

