-- ==== Sys2Proof/Machine/Transactions.lean ====
section
/-! DEFINITION. Transactions: what a target does and answers, and what a requester takes from an answer (R26, R398, R457 to R463). -/
namespace Sys2Proof.Machine

/-! ## The header (Table 13.6) -/

/-- A transaction's header. -/
structure TxHeader where
  op : Nat
  status : Nat
  tag : Nat
  src : Nat
  dst : Nat
  addr : Nat
  len : Nat
  aop : Nat
  rfmt : Nat
  operand : W64
  deriving DecidableEq, Repr

/-- The header of a transaction's bytes. -/
def parseTx (m : Bytes) : TxHeader :=
  { op := natAt m 0 1, status := natAt m 1 1, tag := natAt m 2 2, src := natAt m 4 2, dst := natAt m 6 2, addr := natAt m 8 8,
    len := natAt m 16 4, aop := natAt m 20 1, rfmt := natAt m 21 1, operand := w64 (natAt m 24 8) }

/-- The data behind a header. -/
def txData (m : Bytes) (n : Nat) : Bytes := bytesAt m 32 n

/-- The local offset that an address names (R23). -/
def localOffset (addr : Nat) : Nat := addr % 2 ^ 45

/-! ## Statuses (R460, R462, R463) -/

/-- Bytes of T1 that a transaction touches. -/
def txSpan (h : TxHeader) : Nat := if h.op = 3 then 8 else h.len

/-- A transaction whose header alone makes it malformed (R463). -/
def txMalformed (h : TxHeader) : Bool :=
  match h.op with
  | 1 => decide (262144 < h.len)
  | 2 => decide (262144 < h.len)
  | 3 => decide (5 < h.aop) || h.len != (if h.aop = 2 then 8 else 0) || localOffset h.addr % 8 != 0
  | 4 => !(h.rfmt == 0x01 || h.rfmt == 0x11 || h.rfmt == 0x12) || decide (262144 < h.len) || h.len % 4 != 0 || localOffset h.addr % 4 != 0
  | _ => true

/-- The module serves transactions (R460). -/
def txServed (s : State) : Bool :=
  s.glb.state == .ready || s.glb.state == .armed || s.glb.state == .running || s.glb.state == .halted

/-- What the target finds before it acts. -/
inductive TxCheck where
  | refused
  | malformed
  | unbacked
  /-- a READ or WRITE of LENGTH 0 (R462) -/
  | empty
  | perform
  deriving DecidableEq, Repr

/-- The target's checks. -/
def checkTx (s : State) (h : TxHeader) : TxCheck :=
  if !txServed s then .refused
  else if txMalformed h then .malformed
  else if (h.op == 1 || h.op == 2) && h.len == 0 then .empty
  else if t1Cap s.lpd ≤ localOffset h.addr then .unbacked
  else if !backed s.lpd (localOffset h.addr) (txSpan h) then .malformed
  else .perform

/-! ## Effects (R398, Table 13.7) -/

/-- A line is held in its controller's buffer. -/
def lineHeld (l : Lpd) (line : Nat) : Bool := (wcbOf l (packageAt l (line * 64))).any (fun e => e.line == line)

/-- A line that is not held is read into an entry (R398). -/
def loadLine (s : State) (line : Nat) : State :=
  if lineHeld s.lpd line then s else t1Write (line * 64) (t1Bytes s.lpd (line * 64) 64) none s

/-- The word that an atomic operation writes, none where CSWAP finds another (Table 13.7). -/
def atomicNew (h : TxHeader) (old data : W64) : Option W64 :=
  match h.aop with
  | 0 => some (old + h.operand)
  | 1 => some h.operand
  | 2 => if old = h.operand then some data else none
  | 3 => some (old ||| h.operand)
  | 4 => some (old &&& h.operand)
  | _ => some (if old.toNat < h.operand.toNat then h.operand else old)

/-- One element of a reduce-add. -/
def reduceElem (rfmt a b : Nat) : Nat := if rfmt = 0x01 then add32 a b else (a + b) % 2 ^ 32

/-- The elements of a reduce-add. -/
def reduceElems (rfmt : Nat) (old new : Bytes) : Bytes :=
  (List.zipWith (reduceElem rfmt) (chunksLe 4 (old.length / 4) old) (chunksLe 4 (new.length / 4) new)).flatMap (leBytes 4)

/-- What an operation answers: its data, and whether a line it read was poisoned. -/
structure TxResult where
  data : Bytes
  poison : Bool
  deriving DecidableEq, Repr

/-- The Soern requester of T1. -/
def soernRequester : Nat := requesterCode 3

/-- READ. -/
def txRead (h : TxHeader) (s : State) : TxResult × State :=
  let r := t1Read soernRequester (localOffset h.addr) h.len s
  (⟨r.1.data, r.1.poison⟩, r.2)

/-- WRITE. -/
def txWrite (h : TxHeader) (m : Bytes) (s : State) : TxResult × State :=
  (⟨[], false⟩, t1Write (localOffset h.addr) (txData m h.len) none s)

/-- ATOMIC: the old word is answered. -/
def txAtomic (h : TxHeader) (m : Bytes) (s : State) : TxResult × State :=
  let a := localOffset h.addr
  let r := t1Read soernRequester a 8 s
  let t := loadLine r.2 (a / 64)
  let old := w64 (leNat r.1.data)
  (⟨r.1.data, r.1.poison⟩,
   match atomicNew h old (w64 (leNat (txData m 8))) with
   | some v => t1Write a (leBytes 8 v.toNat) none t
   | none => t)

/-- REDUCE_ADD. -/
def txReduce (h : TxHeader) (m : Bytes) (s : State) : TxResult × State :=
  let a := localOffset h.addr
  let r := t1Read soernRequester a h.len s
  let t := (linesOf a h.len).foldl loadLine r.2
  (⟨[], r.1.poison⟩, t1Write a (reduceElems h.rfmt r.1.data (txData m h.len)) none t)

/-- The operation of a transaction. -/
def performTx (h : TxHeader) (m : Bytes) (s : State) : TxResult × State :=
  match h.op with
  | 1 => txRead h s
  | 2 => txWrite h m s
  | 3 => txAtomic h m s
  | _ => txReduce h m s

/-! ## The answer (R457, R461, R463) -/

/-- The TRANSACTION flow in whose runs a request arrives on a link, none in a free window (DEDUCED, log 25). -/
def arrivingFlow (s : State) (link : Nat) : Option Nat :=
  match s.img.live with
  | none => none
  | some i =>
    ((slotsOf i s.beam.planBeam).find? (fun e =>
      e.recv && e.link == link && !e.resp && decide (e.first * slotLen s.live ≤ s.beam.offset) && decide (s.beam.offset ≤ runHeld s e)
        && (i.slots.flows[e.flow]?).elim false (fun f => f.kind == 2 && f.dst == i.memberRank))).map (·.flow)

/-- The answer to a transaction goes back. -/
def answerTx (link : Nat) (h : TxHeader) (status : Nat) (r : TxResult) (s : State) : State :=
  sendTransaction (arrivingFlow s link) true h.src r.poison
    (txHeader (h.op % 128 + 128) status h.tag h.src h.dst h.addr r.data.length h.aop h.rfmt h.operand.toNat ++ r.data) s

/-- The target serves a transaction and answers it. -/
def serveTx (link : Nat) (m : Bytes) (s : State) : State :=
  let h := parseTx m
  match checkTx s h with
  | .refused => answerTx link h 4 ⟨[], false⟩ s
  | .malformed => answerTx link h 3 ⟨[], false⟩ (record 0x4D06 (detail [(2, h.src), (1, h.op)]) s)
  | .unbacked => answerTx link h 1 ⟨[], false⟩ (record 0x4101 [] s)
  | .empty => answerTx link h 0 ⟨[], false⟩ s
  | .perform =>
    let r := performTx h m s
    answerTx link h (if r.1.poison then 2 else 0) r.1 r.2

/-- A transaction of one of the operations of Table 13.7, on a link that is up; one of another operation is that row's. -/
def serveOp (op link : Nat) (m : Bytes) (s : State) : State :=
  let o := (parseTx m).op
  if (linkOf s link).state ≠ 2 then s
  else if o = op || o = 0 || 4 < o then serveTx link m s
  else s

/-- READ (R460): a reserved OP is answered MALFORMED, under whichever of the four rows it arrives. -/
def execRead (link : Fin 48) (m : Bytes) (s : State) : Result := .next (serveOp 1 link.val m s)

/-- WRITE (R460). -/
def execWrite (link : Fin 48) (m : Bytes) (s : State) : Result := .next (serveOp 2 link.val m s)

/-- ATOMIC (R398). -/
def execAtomic (link : Fin 48) (m : Bytes) (s : State) : Result := .next (serveOp 3 link.val m s)

/-- REDUCE_ADD (R459). -/
def execReduceAdd (link : Fin 48) (m : Bytes) (s : State) : Result := .next (serveOp 4 link.val m s)

/-! ## The requester (R463) -/

/-- A stored tile out of what a read of a whole pitch brought: its header and the payload that it names. -/
def trimStored (b : Bytes) : Bytes := b.take (64 + natAt b 24 4)

/-- The bytes of a poisoned tile: it is to fail its CRC-32C at use (R463). -/
def spoilTile (b : Bytes) : Bytes := splice b 28 (leBytes 4 ((2 ^ 32 - 1) ^^^ natAt b 28 4))

/-- A tile arrives for what asked for it. -/
def takeTile (use : ReqUse) (poison : Bool) (data : Bytes) (s : State) : State :=
  let b := if poison then spoilTile (trimStored data) else trimStored data
  let t (buoy tile : Nat) : State := { s with fab := { s.fab with inbox := s.fab.inbox ++ [⟨buoy, tile, b⟩] } }
  match use with
  | .fetch buoy tile => t buoy tile
  | .replica buoy tile => t buoy tile
  | .repair buoy tile => t buoy tile

/-- The transaction that a reply answers. -/
def requestOf (s : State) (op tag : Nat) : Option Request := s.fab.requests.find? (fun r => r.op == op && r.tag == tag)

/-- A transaction is answered. -/
def dropRequest (r : Request) (s : State) : State := { s with fab := { s.fab with requests := s.fab.requests.erase r } }

/-- A reply fails its transaction: UNBACKED, MALFORMED or REFUSED. -/
def replyFails (status : Nat) : Bool := status == 1 || status == 3 || status == 4

/-- A reply to a transaction of this module (R463). -/
def takeReply (op : Nat) (r : Reply) (act : Request → State → State) (s : State) : State :=
  match requestOf s op r.tag with
  | none => s
  | some q =>
    if replyFails r.status then raiseFault 0x8D02 (detail [(2, q.target), (1, op), (1, r.status)]) (dropRequest q s)
    else act q (dropRequest q s)

/-- READ_DATA (R463). -/
def execReadData (link : Fin 48) (r : Reply) (s : State) : Result :=
  .next (if (linkOf s link.val).state = 2 then takeReply 1 r (fun q => takeTile q.use (r.status == 2) r.data) s else s)

/-- WRITE_DONE (R463). -/
def execWriteDone (link : Fin 48) (r : Reply) (s : State) : Result :=
  .next (if (linkOf s link.val).state = 2 then takeReply 2 r (fun _ s => s) s else s)

/-- ATOMIC_DATA (R463). -/
def execAtomicData (link : Fin 48) (r : Reply) (s : State) : Result :=
  .next (if (linkOf s link.val).state = 2 then takeReply 3 r (fun _ s => s) s else s)

/-- REDUCE_DONE (R463). -/
def execReduceDone (link : Fin 48) (r : Reply) (s : State) : Result :=
  .next (if (linkOf s link.val).state = 2 then takeReply 4 r (fun _ s => s) s else s)

end Sys2Proof.Machine
end

