-- ==== Sys2Proof/Machine/Moves.lean ====
section
/-! DEFINITION. Placement: promotions, moves, replicas, windows and repairs (R336 to R380). -/
namespace Sys2Proof.Machine

/-! ## Copying (R351, R357, R369) -/

/-- The code by which placement reaches the tile stores: a non-engine port. -/
def pleCode : Nat := engineCode 8 8

/-- PLE_POLICY.COMPRESS. -/
def compressOn (s : State) : Bool := s.live.plePolicy.getLsbD 33

/-- PLE_POLICY.DISCRETIONARY. -/
def discretionary (s : State) : Bool := s.live.plePolicy.getLsbD 32

/-- No access of the live plans, and no fill, is counted on a buoy at T0 or T1 (R369). -/
def slowAccessesOnly (i : Image) (e : BuoyEntry) : Bool :=
  i.plans.accs.all (fun a => a.buoy != e.id || decide (2 ≤ a.budget)) && fillTier e != 1

/-- A buoy may lie compressed in local T1 (R369). -/
def mayCompress (s : State) (i : Image) (e : BuoyEntry) : Bool := compressOn s && !hasFlag e 5 && slowAccessesOnly i e

/-- A place as placement moors a buoy in it: compressed where it may be and the buoy is COLD (DESIGN CHOICE, log 26). -/
def moorIn (s : State) (i : Image) (e : BuoyEntry) : Place → Mooring
  | .t1 a => ⟨.t1 a, mayCompress s i e && hasFlag e 4⟩
  | p => ⟨p, false⟩

/-- What copying a tile came to. -/
inductive Copied where
  | done
  | failed
  | waiting
  deriving DecidableEq, Repr

/-- Bytes copied are counted as stored (Table 10.22). -/
def countBytes (n : Nat) (s : State) : State := updCounts (fun c => { c with bytes := satAdd 64 c.bytes n }) s

/-- A tile in working form written into a mooring, and counted. -/
def putCopy (e : BuoyEntry) (dst : Mooring) (tile : Nat) (b : Bytes) (s : State) : State :=
  countBytes (storedForm dst.compressed b).length (storeTile pleCode none (buoyPitch e) tile dst b s).2

/-- One tile copied, its CRC-32C and identity verified (R357). -/
def copyUnit (e : BuoyEntry) (src dst : Mooring) (tile : Nat) (use : ReqUse) (s : State) : Copied × State :=
  match fetchFrom pleCode none e tile src use s with
  | (.tile b, t) => if identityBad (Header.parse b) e.id tile then (.failed, t) else (.done, putCopy e dst tile b t)
  | (.failed, t) => (.failed, t)
  | (.waiting, t) => (.waiting, t)
  | (.refused, t) => (.failed, t)

/-- Class 2 work may start a unit (R352). -/
def beforeEclipse (s : State) : Bool := decide (s.beam.offset < eclipseStart s.live)

/-! ## Space (R338, R356, R320) -/

/-- The engine of a task: its tile store and its port there. -/
def enginePort (s : State) (i : Image) (le : Nat) : Nat × Nat :=
  match i.engines[le]? with
  | some g => (storeOf s.img.binding g.ldie, masterOf g.kind g.unit)
  | none => (8, 11)

/-- Every access of the live plans to a buoy comes by a port that the partition at (store, first, count) lists then (R356). -/
def portsReach (s : State) (i : Image) (id ldie store first count : Nat) : Bool :=
  (List.range (planBeams i)).all (fun p => (accessesAt s i p).all (fun x =>
    x.2.buoy != id ||
      (let g := enginePort s i x.1.le
       let o := ownerAt i ldie first p
       g.1 == store && engineMaster store g.2 && o.mask.testBit g.2 && o.first == first && o.count == count)))

/-- The logical die that a tile store serves. -/
def ldieOf (binding : List Nat) (store : Nat) : Nat := if store = 8 then 0xFF else (binding.findIdx? (fun d => d == store)).getD 0xFE

/-- The partition neither regroups nor leaves ON in the current beam or the lookahead (R320). -/
def steadyPartition (s : State) (i : Image) (ldie first count : Nat) : Bool :=
  (s.beam.planBeam :: lookahead s i).all (fun p => (List.range count).all (fun k =>
    let o := ownerAt i ldie (first + k) p
    o.first == first && o.count == count && o.power == 0))

/-- No residence occupies a T0 place in the current beam or the lookahead (R338). -/
def clearOfResidences (s : State) (i : Image) (p : Place) (n : Nat) : Bool :=
  i.buoys.all (fun e => (s.beam.planBeam :: lookahead s i).all (fun b =>
    !resident e b || !overlaps (residenceAt s.img.binding i e b) (homeBytes e) p n))

/-- A run of T1 is in the free pool (R338). -/
def inFreePool (s : State) (i : Image) (a n : Nat) : Bool :=
  backed s.lpd a n
    && !meets (a, a + n) (s.host.regionBase, s.host.regionBase + regionSize s.host)
    && !meets (a, a + n) (imageStoreBase s.lpd, t1Cap s.lpd)
    && i.buoys.all (fun e => !(ownedHere i e && e.initTier == 1) || !meets (a, a + n) (e.initOffset, e.initOffset + homeBytes e))

/-- A place that a buoy may be promoted into (R320, R338, R356). -/
def destOk (s : State) (i : Image) (e : BuoyEntry) (p : Place) : Bool :=
  match p with
  | .t0 store first count word =>
    let ldie := ldieOf s.img.binding store
    decide (word + buoyWords e ≤ count * bankWords) && steadyPartition s i ldie first count
      && portsReach s i e.id ldie store first count && clearOfResidences s i p (homeBytes e)
  | .t1 a => inFreePool s i a (homeBytes e)
  | _ => false

/-- The places that a buoy-table entry takes in this module, its shadow among them. -/
def heldPlaces (b : BuoyState) : List Place :=
  b.auth.place :: ((b.move.map (fun m => m.dest.place)).toList ++ b.retained.map (·.place))

/-- The length of a declared buoy's space. -/
def spaceOf (i : Image) (id : Nat) : Nat := (buoyEntry i id).elim 0 homeBytes

/-- Buoys whose authoritative mooring or shadow lies in a place. -/
def blockers (s : State) (i : Image) (id : Nat) (p : Place) (n : Nat) : List Nat :=
  (s.ple.table.filter (fun x => x.1 != id &&
    (overlaps x.2.auth.place (spaceOf i x.1) p n || x.2.move.any (fun m => overlaps m.dest.place (spaceOf i x.1) p n)))).map (·.1)

/-- An old space that a switch has left is not free before the next beam tick (R359). -/
def awaitsFree (s : State) (i : Image) (p : Place) (n : Nat) : Bool :=
  s.ple.toFree.any (fun x => overlaps x.2.place (spaceOf i x.1) p n)

/-- Retained moorings in a place are discarded, as evictions (R362). -/
def dropRetainedIn (i : Image) (p : Place) (n : Nat) (s : State) : State :=
  s.ple.table.foldl (fun s x =>
    let gone := x.2.retained.filter (fun m => overlaps m.place (spaceOf i x.1) p n)
    if gone.isEmpty then s
    else updCounts (fun c => { c with demotions := satAdd 32 c.demotions gone.length })
      (updBuoy x.1 (fun b => { b with retained := b.retained.filter (fun m => !gone.contains m) }) s)) s

/-! ## Victims (R362, Table 10.5) -/

/-- A buoy is never evicted now: it serves an access of the current beam or the lookahead, or is being moved (R362). -/
def keepsPlace (s : State) (i : Image) (id : Nat) : Bool := inUse s i id || (buoyOf s id).move.isSome

/-- The rank of a victim (Table 10.5), from 2 on. -/
def victimRank (s : State) (i : Image) (e : BuoyEntry) : Nat :=
  if hasFlag e 3 && !accessLeft s i e.id then 2
  else if hasFlag e 4 then 3
  else if hasFlag e 0 then 5
  else 4

/-- One victim goes before another. -/
def victimBefore (s : State) (i : Image) (a b : BuoyEntry) : Bool :=
  let x := victimRank s i a
  let y := victimRank s i b
  let far (e : BuoyEntry) : Nat := (nextAccess s i e.id).getD (planBeams i)
  decide (x < y) || (x == y && (decide (far b < far a) || (far a == far b && decide (a.id ≤ b.id))))

/-- The next victim whose space would do instead of a refused one. -/
def nextVictim (s : State) (i : Image) (e : BuoyEntry) (p : Place) : Option BuoyEntry :=
  (sortBy (fun a b => victimBefore s i a b) (i.buoys.filter (fun v =>
      let q := (buoyOf s v.id).auth.place
      v.id != e.id && tierOf q == tierOf p && decide (homeBytes e ≤ homeBytes v) && !keepsPlace s i v.id && destOk s i e q
        && !awaitsFree s i q (homeBytes e)))).head?

/-- A buoy is evicted, if it is declared. -/
def evictId (i : Image) (id : Nat) (s : State) : State :=
  match buoyEntry i id with
  | some e => evictNow e s
  | none => s

/-! ## Promotion (R356, R357, R362) -/

/-- The shadow is reserved and the buoy MOVING (R357). -/
def beginMove (kind : MoveKind) (id : Nat) (dest : Mooring) (s : State) : State :=
  updBuoy id (fun b => { b with phase := .moving, move := some { kind := kind, dest := dest, next := 0, marked := [], paused := false } }) s

/-- Event 0x0A01 for a refused eviction (R362). -/
def refuseEviction (id victim : Nat) (stays : Bool) (s : State) : State :=
  updCounts (fun c => if stays then { c with stayed := satAdd 32 c.stayed 1 } else { c with redirected := satAdd 32 c.redirected 1 })
    (record 0x0A01 (detail [(4, id), (4, victim), (1, b01 stays)]) s)

/-- A promotion takes a place: what lies there is discarded or evicted first. -/
def takePlace (i : Image) (e : BuoyEntry) (dest : Place) (s : State) : State :=
  let t := (blockers s i e.id dest (homeBytes e)).foldl (fun s v => evictId i v s) (dropRetainedIn i dest (homeBytes e) s)
  beginMove .promotion e.id (moorIn s i e dest) t

/-- A promotion is asked for: its place, another victim's, or none (R362). -/
def promote (i : Image) (e : BuoyEntry) (dest : Place) (s : State) : State :=
  match (blockers s i e.id dest (homeBytes e)).find? (fun v => keepsPlace s i v) with
  | none => takePlace i e dest s
  | some v =>
    match nextVictim s i e dest with
    | some w => takePlace i e (buoyOf s w.id).auth.place (refuseEviction e.id v false s)
    | none => refuseEviction e.id v true s

/-- A buoy that discretionary placement may promote now. -/
def promotable (s : State) (i : Image) (e : BuoyEntry) : Bool :=
  let b := buoyOf s e.id
  s.glb.state == .running && discretionary s && beforeEclipse s && b.phase == .moored && b.move.isNone
    && !hasFlag e 7 && !hasFlag e 8 && !hasFlag e 13 && (lookahead s i).any (fun p => accessedAt s i e.id p)

/-- PROMOTION (R356): to a faster tier than the buoy lies in. -/
def tryPromotion (i : Image) (e : BuoyEntry) (dest : Place) (s : State) : State :=
  let b := buoyOf s e.id
  if promotable s i e && tierOf b.auth.place != 2 && decide (tierOf dest < tierOf b.auth.place) && destOk s i e dest
      && !awaitsFree s i dest (homeBytes e) then promote i e dest s else s

/-- Acts on a declared buoy of the live image. -/
def onBuoy (id : Nat) (f : Image → BuoyEntry → State → State) (s : State) : State :=
  match s.img.live with
  | none => s
  | some i =>
    match buoyEntry i id with
    | some e => f i e s
    | none => s

/-- PROMOTION (R356). -/
def execPromotion (buoy : Nat) (dest : Place) (s : State) : Result :=
  .next (onBuoy buoy (fun i e s => tryPromotion i e dest s) s)

/-! ## Moves (R357 to R361, R378) -/

/-- A move is abandoned and its shadow freed (R360). -/
def dropMove (id : Nat) (s : State) : State := updBuoy id BuoyState.unmoved s

/-- A move meets a tile that fails: event 0x4A00, and the repair runs as discretionary work (R378). -/
def moveFails (id tile : Nat) (s : State) : State :=
  requestRepair none id tile (dropMove id (record 0x4A00 (detail [(4, id), (4, tile)]) s))

/-- The next tile of a move: the first not copied, then those marked (R357, R358). -/
def moveTile (n : Nat) (m : Move) : Option Nat := if m.next < n then some m.next else m.marked.head?

/-- A move that has copied its next tile. -/
def Move.step (n : Nat) (m : Move) : Move := if m.next < n then { m with next := m.next + 1 } else { m with marked := m.marked.tail }

/-- What a move's reads of another module are for. -/
def moveUse (k : MoveKind) (id tile : Nat) : ReqUse :=
  match k with
  | .replica => .replica id tile
  | _ => .fetch id tile

/-- One tile of a move (R357). -/
def copyNext (e : BuoyEntry) (m : Move) (tile : Nat) (s : State) : State :=
  match copyUnit e (buoyOf s e.id).auth m.dest tile (moveUse m.kind e.id tile) s with
  | (.done, t) => updBuoy e.id (fun b => { b with move := b.move.map (Move.step (buoyTiles e)) }) t
  | (.failed, t) => moveFails e.id tile t
  | (.waiting, t) => t

/-- MOVE_TILE_COPY (R357). -/
def execMoveTileCopy (buoy : Nat) (s : State) : Result :=
  .next (onBuoy buoy (fun _ e s =>
    match (buoyOf s e.id).move with
    | some m =>
      match moveTile (buoyTiles e) m with
      | some tile => if !m.paused && s.glb.state == .running && beforeEclipse s then copyNext e m tile s else s
      | none => s
    | none => s) s)

/-- An old space that may stay as a retained mooring (R359): a STREAM buoy keeps none in T0, and another member's mooring is none. -/
def keepsOld (e : BuoyEntry) (m : Mooring) : Bool :=
  match m.place with
  | .t0 _ _ _ _ => !hasFlag e 3
  | .t1 _ => true
  | .deep _ => true
  | .owner _ => false

/-- The shadow becomes the authoritative mooring in one clock (R357, R359). -/
def finishMove (e : BuoyEntry) (m : Move) (s : State) : State :=
  let old := (buoyOf s e.id).auth
  let keep := keepsOld e old
  let t := updBuoy e.id (fun b => { b with
    phase := .moored, move := none, auth := m.dest, retained := if keep then b.retained ++ [old] else b.retained }) s
  if keep || tierOf old.place == 2 then t else { t with ple := { t.ple with toFree := t.ple.toFree ++ [(e.id, old)] } }

/-- A completed move is counted (Table 10.16). -/
def countMove (k : MoveKind) (s : State) : State :=
  updCounts (fun c => match k with
    | .eviction => { c with demotions := satAdd 32 c.demotions 1 }
    | _ => { c with promotions := satAdd 32 c.promotions 1 }) s

/-- Every tile of a move is copied, and no marked one is left. -/
def moveWhole (e : BuoyEntry) (m : Move) : Bool := m.next == buoyTiles e && m.marked.isEmpty && !m.paused

/-- MOVE_SWITCH (R357). -/
def execMoveSwitch (buoy : Nat) (s : State) : Result :=
  .next (onBuoy buoy (fun _ e s =>
    match (buoyOf s e.id).move with
    | some m => if moveWhole e m && m.kind != .replica then countMove m.kind (finishMove e m s) else s
    | none => s) s)

/-! ## Replicas (R340, R365, R366) -/

/-- An access at BUDGET T2 to a buoy lies in the lookahead. -/
def readAtT2 (s : State) (i : Image) (id : Nat) : Bool :=
  (lookahead s i).any (fun p => (accessesAt s i p).any (fun x => x.2.buoy == id && x.2.budget == 2))

/-- A replica fill may start (R365). -/
def replicaMay (s : State) (i : Image) (e : BuoyEntry) (dest : Place) : Bool :=
  let b := buoyOf s e.id
  s.glb.state == .running && discretionary s && beforeEclipse s && hasFlag e 2 && !ownedHere i e && tierOf b.auth.place == 2
    && b.phase == .moored && b.move.isNone && readAtT2 s i e.id && destOk s i e dest
    && (blockers s i e.id dest (homeBytes e)).isEmpty && !awaitsFree s i dest (homeBytes e)

/-- A replica fill starts: the shadow is reserved, and the owner's PLE is asked (R357, R365, R465). -/
def startReplica (i : Image) (e : BuoyEntry) (dest : Place) (s : State) : State :=
  sendRouted (ownerModule i e) (.placement ⟨.replicaRequest, e.id, 0, none⟩)
    (beginMove .replica e.id (moorIn s i e dest) (dropRetainedIn i dest (homeBytes e) s))

/-- REPLICA_FILL (R365). -/
def execReplicaFill (buoy : Nat) (dest : Place) (s : State) : Result :=
  .next (onBuoy buoy (fun i e s => if replicaMay s i e dest then startReplica i e dest s else s) s)

/-- REPLICA_FILL_COMPLETE (R365): the replica becomes this member's authoritative mooring. -/
def execReplicaFillComplete (buoy : Nat) (s : State) : Result :=
  .next (onBuoy buoy (fun _ e s =>
    match (buoyOf s e.id).move with
    | some m => if moveWhole e m && m.kind == .replica then countMove .replica (finishMove e m s) else s
    | none => s) s)

/-- INVALIDATE (R366): the member discards its replicas at the next tick. -/
def takeInvalidate (buoys : List Nat) (s : State) : State :=
  { s with ple := { s.ple with invalid := s.ple.invalid ++ buoys.filter (fun b => !s.ple.invalid.contains b) } }

/-- INVALIDATE (R366). -/
def execInvalidate (link : Fin 48) (h : MsgHeader) (planBeam : Nat) (buoys : List Nat) (s : State) : Result :=
  .next (takeMessage link.val ⟨h, .invalidate planBeam buoys⟩ (takeInvalidate buoys) s)

/-- Where this module's authoritative mooring of a buoy lies in its T1. -/
def t1OffsetOf (s : State) (id : Nat) : Option Nat :=
  match (buoyOf s id).auth.place with
  | .t1 a => some a
  | _ => none

/-- A PLACEMENT message is answered, or its grant noted (R465). -/
def takePlacement (origin : Nat) (m : Placement) (s : State) : State :=
  let grant (k : PlacementKind) (s : State) : State := sendRouted origin (.placement { m with kind := k, offset := t1OffsetOf s m.buoy }) s
  let note (s : State) : State :=
    match m.offset with
    | some a => { s with fab := { s.fab with ownerAt := SMap.insert s.fab.ownerAt m.buoy a } }
    | none => s
  match m.kind with
  | .replicaRequest => grant .replicaGrant s
  | .repairRequest => grant .repairGrant s
  | .replicaGrant => note s
  | .repairGrant => note s

/-- PLACEMENT (R465). -/
def execPlacement (link : Fin 48) (h : MsgHeader) (m : Placement) (s : State) : Result :=
  .next (takeMessage link.val ⟨h, .placement m⟩ (takePlacement h.origin m) s)

/-! ## Windows (R344 to R346) -/

/-- The window job of a buoy in the current plan beam. -/
def jobOf (s : State) (id : Nat) (fill : Bool) : Option WindowJob :=
  s.ple.windows.find? (fun j => j.buoy == id && j.fill == fill && j.planBeam == s.beam.planBeam && decide (0 < j.left))

/-- Tiles of a job left to copy. -/
def setLeft (j : WindowJob) (n : Nat) (s : State) : State :=
  { s with ple := { s.ple with windows := s.ple.windows.map (fun x => if x = j then { x with left := n } else x) } }

/-- Tiles of a buoy copied from one mooring to another, until none is left or one fails; the fuel is the number left. -/
def copyRest (e : BuoyEntry) (src dst : Mooring) : Nat → State → Nat × State
  | 0, s => (0, s)
  | n + 1, s =>
    let tile := buoyTiles e - (n + 1)
    match copyUnit e src dst tile (.fetch e.id tile) s with
    | (.done, t) => copyRest e src dst n t
    | (.failed, t) => (n + 1, requestRepair none e.id tile t)
    | (.waiting, t) => (n + 1, t)

/-- A discretionary move gives way (R360). -/
def yieldMove (id : Nat) (s : State) : State := if (buoyOf s id).move.isSome then dropMove id s else s

/-- A window is filled in the beam before its first (R344); the residence becomes authoritative at the tick of FROM. -/
def fillWindow (i : Image) (e : BuoyEntry) (j : WindowJob) (s : State) : State :=
  let s := yieldMove e.id s
  let r := copyRest e (buoyOf s e.id).auth ⟨residenceAt s.img.binding i e (j.planBeam + 1), false⟩ j.left s
  let t := setLeft j r.1 r.2
  if r.1 = 0 then updCounts (fun c => { c with fills := satAdd 32 c.fills 1 }) t else t

/-- WINDOW_FILL (R344). -/
def execWindowFill (buoy : Nat) (s : State) : Result :=
  .next (onBuoy buoy (fun i e s =>
    match jobOf s e.id true with
    | some j => if planRuns s && beforeEclipse s then fillWindow i e j s else s
    | none => s) s)

/-- The home becomes authoritative once the last tile is written (R345). -/
def homeAgain (home : Mooring) (b : BuoyState) : BuoyState := { b with auth := home, retained := [] }

/-- A window is written back in the beam after its last (R345). -/
def writeWindow (i : Image) (e : BuoyEntry) (j : WindowJob) (s : State) : State :=
  let b := buoyOf s e.id
  let home := moorIn s i e b.home
  let r := copyRest e b.auth home j.left s
  let t := setLeft j r.1 r.2
  if r.1 = 0 then updCounts (fun c => { c with writebacks := satAdd 32 c.writebacks 1 }) (updBuoy e.id (homeAgain home) t) else t

/-- WRITE_BACK (R345). -/
def execWriteBack (buoy : Nat) (s : State) : Result :=
  .next (onBuoy buoy (fun i e s =>
    match jobOf s e.id false with
    | some j => if planRuns s && beforeEclipse s then writeWindow i e j s else s
    | none => s) s)

/-! ## Repair (R373 to R379) -/

/-- A tile of a captured set by its header (R539). -/
def capturedTile (o : DeepObj) (buoy tile : Nat) : Option Nat :=
  (List.find? (fun (x : Nat × Option Bytes) => match x.2 with
    | some b => natAt b 8 4 == buoy && natAt b 12 4 == tile
    | none => false) o.tiles).map (·.1)

/-- The deep-tier copies of a tile whose EPOCH is not below LAST_EPOCH (R373): object and tile in it. -/
def deepCopies (s : State) (e : BuoyEntry) (tile : Nat) : List (Nat × Nat) :=
  let b := buoyOf s e.id
  let home := match b.home with
    | .deep n => [(n, tile)]
    | _ => []
  home ++ (s.deep.objects.filter (fun o => o.valid && decide (2 ≤ o.area) && decide (b.lastEpoch ≤ o.epoch))).filterMap
    (fun o => (capturedTile o e.id tile).map (fun k => (o.num, k)))

/-- A tile that passes its checks (R179), out of what a fetch gave. -/
def cleanTile (e : BuoyEntry) (tile : Nat) : Fetched → Option Bytes
  | .tile b => let h := Header.parse b
    if numericBad h e.format (vectorShaped e) || identityBad h e.id tile then none else some b
  | _ => none

/-- The retained moorings tried in order: one that fails is discarded (R374). -/
def tryRetained (e : BuoyEntry) (tile : Nat) : List Mooring → State → Option Bytes × State
  | [], s => (none, s)
  | m :: ms, s =>
    let r := fetchFrom pleCode none e tile m (.repair e.id tile) s
    match cleanTile e tile r.1 with
    | some b => (some b, r.2)
    | none => tryRetained e tile ms (updBuoy e.id (fun b => { b with retained := b.retained.erase m }) r.2)

/-- The deep-tier copies tried in order. -/
def tryDeep (e : BuoyEntry) (tile : Nat) : List (Nat × Nat) → State → Option Bytes × State
  | [], s => (none, s)
  | c :: cs, s =>
    let r := fetchDeep c.1 (buoyPitch e) c.2 s
    match cleanTile e tile r.1 with
    | some b => (some b, r.2)
    | none => tryDeep e tile cs r.2

/-- What looking for a clean source came to: code 1 retained, 2 owner, 3 deep (Table 18.15). -/
inductive Source where
  | found (code : Nat) (b : Bytes)
  | waiting
  | none_
  deriving DecidableEq, Repr

/-- The owner's mooring tried, for a buoy of another member. -/
def tryOwner (i : Image) (e : BuoyEntry) (tile : Nat) (s : State) : Source × State :=
  if ownedHere i e then (.none_, s)
  else
    let r := fetchOwner none e tile (ownerModule i e) (.repair e.id tile) s
    match r.1 with
    | .waiting => (.waiting, r.2)
    | x =>
      match cleanTile e tile x with
      | some b => (.found 2 b, r.2)
      | none => (.none_, r.2)

/-- The first source that passes, in the order of R373. -/
def findSource (i : Image) (e : BuoyEntry) (tile : Nat) (s : State) : Source × State :=
  match tryRetained e tile (buoyOf s e.id).retained s with
  | (some b, t) => (.found 1 b, t)
  | (none, t) =>
    match tryOwner i e tile t with
    | (.none_, u) =>
      match tryDeep e tile (deepCopies u e tile) u with
      | (some b, v) => (.found 3 b, v)
      | (none, v) => (.none_, v)
    | x => x

/-- An engine's hold on a tile ends. -/
def unhold (buoy tile : Nat) (h : Option HeldTile) : Option HeldTile :=
  match h with
  | some x => if x.buoy = buoy && x.tile = tile then none else some x
  | none => none

/-- Every engine that holds on a tile resumes (R374); a matrix engine counts the clocks of its hold (Table 5.15). -/
def releaseHolds (buoy tile clocks : Nat) (s : State) : State :=
  let seq (m : SMap SeqUnit) : SMap SeqUnit := SMap.mapAll m {} (fun u => { u with held := unhold buoy tile u.held })
  { s with
    me := SMap.mapAll s.me {} (fun u => { u with
      held := unhold buoy tile u.held,
      stallHeld := if unhold buoy tile u.held = u.held then u.stallHeld else satAdd 32 u.stallHeld clocks })
    ve := SMap.mapAll s.ve {} (fun u => { u with held := unhold buoy tile u.held })
    ae := seq s.ae, gse := seq s.gse, lye := seq s.lye
    host := { s.host with ce := SMap.mapAll s.host.ce {} (fun u => { u with held := unhold buoy tile u.held }) }
    rdx := { s.rdx with held := if s.rdx.held = some (buoy, tile) then none else s.rdx.held } }

/-- A repair is over: the buoy is MOORED, or MOVING again where its move was paused, which recopies the tile (R374, R379). -/
def repairOver (buoy tile : Nat) (s : State) : State :=
  let rs := s.ple.repairs.filter (fun r => !(r.buoy == buoy && r.tile == tile))
  let left := rs.any (fun r => r.buoy == buoy)
  updBuoy buoy (fun b => { b with
      phase := if left then .repairing else if b.move.isSome then .moving else .moored,
      move := b.move.map (fun m => { m with
        paused := left, marked := if tile < m.next && !m.marked.contains tile then m.marked ++ [tile] else m.marked }) })
    { s with ple := { s.ple with repairs := rs } }

/-- The counters of a repair from a source (Table 10.19). -/
def countRepair (code : Nat) (c : PleCounts) : PleCounts :=
  match code with
  | 1 => { c with fromRetained := satAdd 16 c.fromRetained 1 }
  | 2 => { c with fromOwner := satAdd 16 c.fromOwner 1 }
  | 3 => { c with fromDeep := satAdd 16 c.fromDeep 1 }
  | _ => { c with failed := satAdd 16 c.failed 1 }

/-- PLE_POLICY.REPAIR_ALLOW. -/
def repairAllow (s : State) : Nat := bits s.live.plePolicy.toNat 31 0

/-- The clocks of a repair that an engine waited for are added up over the beam (R375). -/
def addRepairTime (waited : Bool) (clocks : Nat) (s : State) : State :=
  if waited then
    let sum := s.ple.repairBeam + clocks
    updCounts (fun c => { c with totalClocks := satAdd 32 c.totalClocks clocks, maxBeam := max c.maxBeam (min sum (2 ^ 32 - 1)) })
      { s with ple := { s.ple with repairBeam := sum } }
  else s

/-- Fault 0x8A01. -/
def repairTooLong (buoy tile sum : Nat) (s : State) : State := raiseFault 0x8A01 (detail [(4, buoy), (4, tile), (4, sum)]) s

/-- A clean tile is delivered (R374, R375). -/
def deliverRepair (e : BuoyEntry) (r : RepairReq) (code clocks : Nat) (b : Bytes) (s : State) : State :=
  let waited := !r.waiters.isEmpty
  let t := putCopy e (buoyOf s e.id).auth r.tile b s
  let u := addRepairTime waited clocks (repairOver e.id r.tile (releaseHolds e.id r.tile clocks t))
  let v := record 0x0A00 (detail [(4, e.id), (4, r.tile), (1, code), (4, clocks)]) (updCounts (countRepair code) u)
  if waited && planRuns v && decide (repairAllow v < v.ple.repairBeam) then repairTooLong e.id r.tile v.ple.repairBeam v else v

/-- No source passes: the buoy is LOST (R377). -/
def loseBuoy (e : BuoyEntry) (tile : Nat) (s : State) : State :=
  raiseFault 0x8A00 (detail [(4, e.id), (4, tile)])
    (updCounts (countRepair 0) (updBuoy e.id (fun b => { b with phase := .lost, move := none })
      { s with ple := { s.ple with repairs := s.ple.repairs.filter (fun r => r.buoy != e.id) } }))

/-- REPAIR_DELIVER: the sources are tried; a read of the owner's that has not come back leaves the repair waiting, once the owner's
PLE has been asked (R373, R465). -/
def repairTile (i : Image) (e : BuoyEntry) (r : RepairReq) (clocks : Nat) (s : State) : State :=
  match findSource i e r.tile s with
  | (.found code b, t) => deliverRepair e r code clocks b t
  | (.waiting, t) =>
    if readPending s e.id r.tile then t
    else sendRouted (ownerModule i e) (.placement ⟨.repairRequest, e.id, r.tile, none⟩) t
  | (.none_, t) => loseBuoy e r.tile t

/-- REPAIR_DELIVER (R374). -/
def execRepairDeliver (buoy tile clocks : Nat) (s : State) : Result :=
  .next (onBuoy buoy (fun i e s =>
    match s.ple.repairs.find? (fun r => r.buoy == buoy && r.tile == tile) with
    | some r => repairTile i e r clocks s
    | none => s) s)

/-- The repair time of this beam so far, with the holds that are still waited for (R375). -/
def repairSum (s : State) : Nat :=
  s.ple.repairBeam + ((s.ple.repairs.filter (fun r => !r.waiters.isEmpty)).map (fun r => s.beam.offset - r.since)).sum

/-- REPAIR_ALLOW_EXCEEDED (R375). -/
def execRepairAllowExceeded (s : State) : Result :=
  .next (
    match s.ple.repairs.find? (fun r => !r.waiters.isEmpty) with
    | some r => if planRuns s && decide (repairAllow s < repairSum s) then repairTooLong r.buoy r.tile (repairSum s) s else s
    | none => s)

end Sys2Proof.Machine
end

