-- ==== Sys2Proof/Machine/Orbits.lean ====
section
/-! DEFINITION. The work of flagged plan beams, the host's side of an orbit, anchors, snapshots, checkpoints and restores
(R525 to R543). -/
namespace Sys2Proof.Machine

/-! ## The work of a flagged plan beam (R525) -/

/-- The codec engines' code on the hub (R617, Table 9.3). -/
def codecCode : Nat := engineCode 8 1

/-- The ORBIT section of the live image. -/
def liveOrbit (s : State) : Option (Image × OrbitSec) := s.img.live.bind (fun i => i.orbit.map (fun o => (i, o)))

/-- A beam of a flag runs whose work is due and has not ended. -/
def workDue (s : State) (i : Image) (b : Nat) : Bool :=
  planRuns s && beamFlag i s.beam.planBeam b && beamDue s i s.beam.planBeam && !s.orbit.workDone.testBit b && beforeEclipse s

/-- The work of a flag ends. -/
def endWork (b : Nat) (s : State) : State := { s with orbit := { s.orbit with workDone := s.orbit.workDone ||| 2 ^ b } }

/-- A tile of a buoy in working form, for the device's own work; a tile that fails its CRC-32C is asked for (R373). -/
def workTile (e : BuoyEntry) (tile : Nat) (s : State) : Option Bytes × State :=
  let r := fetchFrom codecCode none e tile (buoyOf s e.id).auth (.fetch e.id tile) s
  match r.1 with
  | .tile b => (some b, r.2)
  | .failed => (none, requestRepair none e.id tile r.2)
  | _ => (none, r.2)

/-- The tiles of a buoy from one on, none once one is missing. -/
def workTiles (e : BuoyEntry) : Nat → Nat → State → Option (List Bytes) × State
  | 0, _, s => (some [], s)
  | n + 1, k, s =>
    match workTile e k s with
    | (some b, t) =>
      match workTiles e n (k + 1) t with
      | (some bs, u) => (some (b :: bs), u)
      | (none, u) => (none, u)
    | (none, t) => (none, t)

/-! ## Packets (R529, Table 15.4) -/

/-- The header of a packet. -/
def packetHeader (i : Image) (dir format layer k buoy count sites len : Nat) : Bytes :=
  let h := ascii "ORBT" ++ leBytes 1 dir ++ leBytes 1 format ++ leBytes 2 layer ++ leBytes 8 i.jobId.toNat ++ leBytes 4 k ++ leBytes 4 buoy
    ++ leBytes 4 count ++ leBytes 4 sites ++ leBytes 4 i.memberRank ++ leBytes 4 0 ++ leBytes 8 len ++ List.replicate 12 0
  h ++ leBytes 4 (crc32c (h ++ [0, 0, 0, 0]))

/-- Where a packet lies in T1: an area of the host region, and its offset in units of 4 KiB. -/
def packetAt (s : State) (area pkt : Nat) : Nat := s.host.regionBase + area + 4096 * pkt

/-- The packet of an entry: its tiles first, then its header (R529). -/
def writePacket (i : Image) (o : OrbitSec) (x : OrbitSet) (e : BuoyEntry) (k : Nat) (tiles : List Bytes) (s : State) : State :=
  let stored := tiles.map encodeStored
  let body := (stored.map pad256).flatten
  let a := packetAt s o.outArea x.outPkt
  let t := stored.foldl (fun s b => countEncoded b s) (t1Write (a + 64) body none s)
  t1Write a (packetHeader i 0 e.format x.layer k e.id tiles.length 1 (64 + body.length)) none t

/-- The packets of the entries in order; false once a tile is missing. -/
def packEntries (i : Image) (o : OrbitSec) (k : Nat) : List OrbitSet → State → Bool × State
  | [], s => (true, s)
  | x :: xs, s =>
    match buoyEntry i x.delta with
    | none => (false, s)
    | some e =>
      match workTiles e (buoyTiles e) 0 s with
      | (some bs, t) => packEntries i o k xs (writePacket i o x e k bs t)
      | (none, t) => (false, t)

/-- The packets of an orbit are complete (R529). -/
def packsWritten (k : Nat) (s : State) : State :=
  record 0x0F00 (detail [(4, k)]) (endWork 2 { s with orbit := { s.orbit with out := k % 2 ^ 24, outWritten := true } })

/-- PACK (R529). -/
def execPack (s : State) : Result :=
  .next (
    match liveOrbit s, s.orbit.dueOut with
    | some (i, o), some k =>
      if workDue s i 2 then
        match packEntries i o k o.sets s with
        | (true, t) => packsWritten k t
        | (false, t) => t
      else s
    | _, _ => s)

/-! ## Incoming packets (R531 to R533) -/

/-- The packets' stored tiles from an address on, each at its footprint (R529). -/
def packetTiles : Nat → Nat → State → List Bytes × Bool × Nat × State
  | 0, a, s => ([], false, a, s)
  | n + 1, a, s =>
    let h := t1Read codecCode a 64 s
    let b := t1Read codecCode a (64 + min (natAt h.1.data 24 4) 65536) h.2
    let r := packetTiles n (a + footprint b.1.data) b.2
    (b.1.data :: r.1, h.1.poison || b.1.poison || r.2.1, r.2.2.1, r.2.2.2)

/-- A stored tile of a packet passes: its CRC-32C, then its identity (R180, R531). -/
def packetTileOk (e : BuoyEntry) (tile : Nat) (b : Bytes) : Bool :=
  match checkTile (buoyPitch e) false (decodeStored b) with
  | .tile w => !identityBad (Header.parse w) e.id tile
  | _ => false

/-- The packet of an entry passes every check of R531. -/
def packetOk (i : Image) (o : OrbitSec) (x : OrbitSet) (k : Nat) (s : State) : Bool × State :=
  match buoyEntry i x.inBuoy with
  | none => (false, s)
  | some e =>
    let a := packetAt s o.inArea x.inPkt
    let h := t1Read codecCode a 64 s
    let sites := natAt h.1.data 28 4
    let ts := packetTiles (buoyTiles e) (a + 64) h.2
    let good := !h.1.poison && !ts.2.1 && sites != 0
      && h.1.data == packetHeader i 1 e.format x.layer k e.id (buoyTiles e) sites (ts.2.2.1 - a)
      && ((List.range (buoyTiles e)).zip ts.1).all (fun t => packetTileOk e t.1 t.2)
    (good, ts.2.2.2)

/-- The first entry whose packet fails, in entry order. -/
def firstBadPacket (i : Image) (o : OrbitSec) (k : Nat) : Nat → List OrbitSet → State → Option Nat × State
  | _, [], s => (none, s)
  | n, x :: xs, s =>
    match packetOk i o x k s with
    | (true, t) => firstBadPacket i o k (n + 1) xs t
    | (false, t) => (some n, t)

/-- The validation of an orbit's incoming packets fails (R532). -/
def validationFails (k entry : Nat) (s : State) : State :=
  record 0x4F00 (detail [(4, k), (4, entry)]) { s with orbit := { s.orbit with inReady := false, staged := none } }

/-- The host says that it has staged the incoming packets of an orbit (R531, R532): an orbit out of turn, and STAGED while IN_READY is
set, fail at once; they name no entry. -/
def stagePackets (k : Nat) (s : State) : State :=
  if (liveOrbit s).isNone then s
  else if k ≠ s.orbit.applied + 1 ∨ s.orbit.inReady then validationFails k 0xFFFFFFFF s
  else { s with orbit := { s.orbit with staged := some k } }

/-- The host says that it has taken the outgoing packets of an orbit (R530, Table 15.7). -/
def takePackets (k : Nat) (s : State) : State := { s with orbit := { s.orbit with taken := k, outWritten := false } }

/-- A write of RDX_ORBIT_HOST. -/
def orbitHost (x : Nat) (s : State) : State :=
  let t := if x.testBit 1 then takePackets (bits x 63 32) s else s
  if x.testBit 0 then stagePackets (bits x 63 32) t else t

/-- TAKEN (R530). -/
def execTaken (p : Port) (orbit : Nat) (s : State) : Result :=
  .next (regWrite p .rdxOrbitHost (w64 (at_ 32 (orbit % 2 ^ 32) + 2)) (fun _ => 0) orbitHost s)

/-- STAGED (R531). -/
def execStaged (p : Port) (orbit : Nat) (s : State) : Result :=
  .next (regWrite p .rdxOrbitHost (w64 (at_ 32 (orbit % 2 ^ 32) + 1)) (fun _ => 0) orbitHost s)

/-- Every packet of an orbit has passed (R531). -/
def packetsReady (s : State) : State := { s with orbit := { s.orbit with inReady := true, staged := none } }

/-- ORBIT_IN_VALIDATE (R531, R532). -/
def execOrbitInValidate (s : State) : Result :=
  .next (
    match liveOrbit s, s.orbit.staged with
    | some (i, o), some k =>
      match firstBadPacket i o k 0 o.sets s with
      | (none, t) => packetsReady t
      | (some n, t) => validationFails k n t
    | _, _ => s)

/-- The tiles of a packet written into IN_BUOY in working form, as the host gave them; false at one that no decoder takes (R533). -/
def unpackTiles (e : BuoyEntry) : Nat → List Bytes → State → Bool × State
  | _, [], s => (true, s)
  | k, b :: bs, s =>
    match decodeStored b with
    | some w =>
      match writeTile codecCode none e k w (countDecoded b s) with
      | (true, t) => unpackTiles e (k + 1) bs t
      | (false, t) => (false, t)
    | none => (false, s)

/-- The packets of the entries unpacked in order. -/
def unpackEntries (i : Image) (o : OrbitSec) : List OrbitSet → State → Bool × State
  | [], s => (true, s)
  | x :: xs, s =>
    match buoyEntry i x.inBuoy with
    | none => (false, s)
    | some e =>
      let ts := packetTiles (buoyTiles e) (packetAt s o.inArea x.inPkt + 64) s
      match unpackTiles e 0 ts.1 ts.2.2.2 with
      | (true, t) => unpackEntries i o xs t
      | (false, t) => (false, t)

/-- UNPACK (R533). -/
def execUnpack (s : State) : Result :=
  .next (
    match liveOrbit s with
    | some (i, o) =>
      if workDue s i 3 then
        match unpackEntries i o o.sets s with
        | (true, t) => endWork 3 t
        | (false, t) => t
      else s
    | none => s)

/-! ## Anchors (R535) -/

/-- The stored tiles of a new anchor version: the staged tiles, renamed to the anchor; one that fails its CRC-32C is not written, and
so fails when read. -/
def anchorTiles (anchor : BuoyEntry) (stage : BuoyEntry) : Nat → Nat → State → SMap (Option Bytes) × State
  | 0, _, s => ([], s)
  | n + 1, k, s =>
    let r := fetchFrom codecCode none stage k (buoyOf s stage.id).auth (.fetch stage.id k) s
    let rest := anchorTiles anchor stage n (k + 1) r.2
    match r.1 with
    | .tile b => ((k, some (encodeStored (renameTile anchor.id k b))) :: rest.1, rest.2)
    | _ => rest

/-- The footprint of stored tiles. -/
def tilesFootprint (ts : SMap (Option Bytes)) : Nat :=
  (ts.map (fun t => (t.2.map footprint).getD 0)).foldl (· + ·) 0

/-- A buoy's home is a new version of its object: copies of the old contents elsewhere are dropped. -/
def adoptVersion (num epoch : Nat) (b : BuoyState) : BuoyState :=
  { b with home := .deep num, auth := ⟨.deep num, false⟩, retained := [], move := none, lastEpoch := epoch,
           phase := if b.phase = .moving then .moored else b.phase }

/-- The new version of an entry's anchor (R415, R535). -/
def writeAnchor (i : Image) (x : OrbitSet) (s : State) : State :=
  match buoyEntry i x.anchor, buoyEntry i x.stage with
  | some a, some g =>
    let r := anchorTiles a g (buoyTiles g) 0 s
    let o : DeepObj :=
      { num := r.2.deep.nextObj, area := 1, c0 := r.2.deep.channels.headD 0, format := a.format, jobId := i.jobId, buoy := a.id,
        epoch := s.orbit.anchorEpoch, size := a.size, tileCount := buoyTiles a, tiles := r.1, content := [],
        created := s.beam.count.toNat, valid := true }
    updBuoy a.id (adoptVersion o.num o.epoch) (chargeDeep (tilesFootprint r.1) (homeBytes a) (addObj o r.2))
  | _, _ => s

/-- ANCHOR_REWRITE_COMPLETE (R535): every anchor's new version is whole. -/
def execAnchorRewriteComplete (s : State) : Result :=
  .next (
    match liveOrbit s with
    | some (i, o) =>
      if s.orbit.anchorBusy then
        let t := o.sets.foldl (fun s x => writeAnchor i x s) s
        record 0x0F02 (detail [(4, s.orbit.applied)]) { t with orbit := { t.orbit with anchorBusy := false } }
      else s
    | none => s)

/-! ## Captures (R539, Table 15.5) -/

/-- The fields of a capture header ahead of its CRC, for directory records, epoch records and a numerics section of these lengths. -/
def captureFields (i : Image) (c : Capture) (records : Nat) : Bytes :=
  ascii "CAPT" ++ leBytes 1 (b01 c.checkpoint) ++ leBytes 3 0 ++ leBytes 8 i.jobId.toNat ++ leBytes 8 c.jobStep ++ leBytes 8 c.applied
    ++ leBytes 8 i.numeric.seed.toNat ++ leBytes 4 i.memberRank ++ leBytes 4 records ++ leBytes 4 c.epochs.length ++ leBytes 4 c.orbitOut
    ++ leBytes 4 c.orbitApplied ++ leBytes 4 c.anchorEpoch ++ leBytes 8 (256 + 24 * records + 16 * c.epochs.length)
    ++ leBytes 8 c.numerics.length ++ leBytes 4 (if c.numerics.isEmpty then 0 else crc32c c.numerics)

/-- The capture header. -/
def captureHeader (i : Image) (c : Capture) (records : Nat) : Bytes :=
  captureFields i c records ++ leBytes 4 (crc32c (captureFields i c records ++ List.replicate 172 0)) ++ List.replicate 168 0

/-- The directory records, their tiles lying from an offset on. -/
def directory : Nat → List Captured → Bytes
  | _, [] => []
  | at_, c :: cs =>
    leBytes 4 c.id ++ leBytes 1 (b01 c.shard) ++ leBytes 3 0 ++ leBytes 4 (buoyTiles c.entry) ++ leBytes 4 0 ++ leBytes 8 at_
      ++ directory (at_ + homeBytes c.entry) cs

/-- The epoch word records. -/
def epochRecords (es : List (Nat × Nat)) : Bytes := es.flatMap (fun e => leBytes 2 e.1 ++ leBytes 6 0 ++ leBytes 8 e.2)

/-- Bytes ahead of a capture's tiles. -/
def aheadBytes (c : Capture) (records : Nat) : Nat := 256 + 24 * records + 16 * c.epochs.length + c.numerics.length

/-- What lies ahead of a capture's tiles. -/
def captureAhead (i : Image) (c : Capture) (set : List Captured) : Bytes :=
  captureHeader i c set.length ++ directory (aheadBytes c set.length) set ++ epochRecords c.epochs ++ c.numerics

/-- The tiles of a set in directory order, none once one is missing. -/
def captureTiles : List Captured → State → Option (List Bytes) × State
  | [], s => (some [], s)
  | c :: cs, s =>
    match workTiles c.entry (buoyTiles c.entry) 0 s with
    | (some bs, t) =>
      match captureTiles cs t with
      | (some r, u) => (some (bs ++ r), u)
      | (none, u) => (none, u)
    | (none, t) => (none, t)

/-- Where a capture's hold buffer lies in T1 (Table 15.2). -/
def holdBuffer (s : State) (o : OrbitSec) (checkpoint : Bool) : Nat := if checkpoint then o.ckptHold else s.host.regionBase + o.snapHold

/-- A capture is whole (R540). -/
def captured (o : OrbitSec) (c : Capture) (s : State) : State :=
  if c.checkpoint then { s with orbit := { s.orbit with ckptWriting := true, writing := some c } }
  else record 0x0F03 (detail [(8, c.jobStep)]) { s with orbit := { s.orbit with
    snapHeld := true, snapWriting := if o.snapDeep then some c else none } }

/-- The due captures copied into their hold buffers in turn; false once a tile is missing. -/
def copyCaptures (i : Image) (o : OrbitSec) : List Capture → State → Bool × State
  | [], s => (true, s)
  | c :: cs, s =>
    match captureTiles (captureSet i c) s with
    | (some ts, t) =>
      copyCaptures i o cs (captured o c (t1Write (holdBuffer t o c.checkpoint) (captureAhead i c (captureSet i c) ++ ts.flatten) none t))
    | (none, t) => (false, { t with orbit := { t.orbit with due := c :: cs } })

/-- CAPTURE (R539, R540). -/
def execCapture (s : State) : Result :=
  .next (
    match liveOrbit s with
    | some (i, o) =>
      if workDue s i 5 then
        match copyCaptures i o s.orbit.due s with
        | (true, t) => endWork 5 t
        | (false, t) => t
      else s
    | none => s)

/-- The hold buffer is freed, at once or when the deep copy of the snapshot no longer needs it (Table 15.8). -/
def freeSnapshot (s : State) : State :=
  if s.orbit.snapRelease && s.orbit.snapWriting.isNone then
    { s with orbit := { s.orbit with snapHeld := false, snapRelease := false } }
  else s

/-- A write of RDX_CAPTURE (Table 15.8). -/
def captureControl (x : Nat) (s : State) : State :=
  freeSnapshot { s with orbit := { s.orbit with
    snapReq := s.orbit.snapReq || x.testBit 0, ckptReq := s.orbit.ckptReq || x.testBit 1, snapRelease := s.orbit.snapRelease || x.testBit 2 } }

/-- SNAP_REQ (R537). -/
def execSnapReq (p : Port) (s : State) : Result := .next (regWrite p .rdxCapture 1 (fun _ => 0) captureControl s)

/-- CKPT_REQ (R537). -/
def execCkptReq (p : Port) (s : State) : Result := .next (regWrite p .rdxCapture 2 (fun _ => 0) captureControl s)

/-- SNAP_RELEASE (R540). -/
def execSnapRelease (p : Port) (s : State) : Result := .next (regWrite p .rdxCapture 4 (fun _ => 0) captureControl s)

/-! ## Snapshot and checkpoint objects (R540, Table 12.1) -/

/-- A directory record as a capture holds it. -/
structure DirRecord where
  id : Nat
  shard : Bool
  tiles : Nat
  offset : Nat
  deriving DecidableEq, Repr

/-- The directory records of what lies ahead of a capture's tiles. -/
def readDirectory (b : Bytes) : List DirRecord :=
  (List.range (natAt b 44 4)).map (fun k =>
    let r := 256 + 24 * k
    ⟨natAt b r 4, natAt b (r + 4) 1 == 1, natAt b (r + 8) 4, natAt b (r + 16) 8⟩)

/-- The tiles of a directory record in a hold buffer, in stored form; a poisoned one is not written. -/
def heldTiles (a : Nat) (d : DirRecord) (s : State) : List (Option Bytes) × State :=
  let pitch := tilePitch (leNat (t1Bytes s.lpd (a + d.offset) 1))
  (List.range d.tiles).foldl (fun (x : List (Option Bytes) × State) k =>
    let r := t1Read codecCode (a + d.offset + k * pitch) pitch x.2
    (x.1 ++ [if r.1.poison then none else some (encodeStored r.1.data)], r.2)) ([], s)

/-- The tiles of every directory record. -/
def allHeldTiles (a : Nat) : List DirRecord → State → List (Option Bytes) × State
  | [], s => ([], s)
  | d :: ds, s =>
    let r := heldTiles a d s
    let q := allHeldTiles a ds r.2
    (r.1 ++ q.1, q.2)

/-- The newest EPOCH among stored tiles. -/
def newestEpoch (ts : List (Option Bytes)) : Nat := (ts.map (fun t => (t.map (fun b => (Header.parse b).epoch)).getD 0)).foldl max 0

/-- The object of a capture, from its hold buffer: the capture layout, tiles in stored form (R540). -/
def captureObject (i : Image) (c : Capture) (area a : Nat) (s : State) : DeepObj × State :=
  let n := natAt (t1Bytes s.lpd a 256) 44 4
  let ahead := t1Bytes s.lpd a (aheadBytes c n)
  let r := allHeldTiles a (readDirectory ahead) s
  ({ num := r.2.deep.nextObj, area := area, c0 := r.2.deep.channels.headD 0, format := 0, jobId := i.jobId, buoy := 0,
     epoch := newestEpoch r.1,
     size := ahead.length + (r.1.map (fun t => (t.map footprint).getD 0)).foldl (· + ·) 0,
     tileCount := r.1.length, tiles := (SMap.keyed 0 r.1).filter (fun t => t.2.isSome), content := ahead,
     created := s.beam.count.toNat, valid := true }, r.2)

/-- A capture's object is written, its header last (R415, R423). -/
def writeCapture (i : Image) (o : OrbitSec) (c : Capture) (s : State) : DeepObj × State :=
  let r := captureObject i c (if c.checkpoint then 3 else 2) (holdBuffer s o c.checkpoint) s
  (r.1, chargeDeep r.1.size r.1.size (addObj r.1 r.2))

/-- The objects to keep when a checkpoint completes: of area 3 the two newest; of area 1, no version older than one that the
checkpoint records (R535, R540). -/
def keepCheckpoints (jobId : W64) (anchorEpoch : Nat) (os : List DeepObj) : List DeepObj :=
  let newest := ((os.filter (fun o => o.area == 3)).map (·.num)).reverse.take 2
  os.filter (fun o =>
    if o.area = 3 then newest.contains o.num
    else if o.area = 1 ∧ o.jobId = jobId then
      !os.any (fun q => q.area == 1 && q.jobId == jobId && q.buoy == o.buoy && q.epoch == anchorEpoch && decide (o.num < q.num))
    else true)

/-- The anchor version that a checkpoint names is whole (R540). -/
def anchorWhole (o : Orbit) (c : Capture) : Bool := !(o.anchorBusy && o.anchorEpoch == c.anchorEpoch)

/-- A checkpoint is complete (R540). -/
def finishCheckpoint (i : Image) (o : OrbitSec) (c : Capture) (s : State) : State :=
  let r := writeCapture i o c s
  let loc := locator 3 r.1.c0 r.1.num
  record 0x0F04 (detail [(8, loc), (8, c.jobStep)])
    { r.2 with
      deep := { r.2.deep with objects := keepCheckpoints i.jobId c.anchorEpoch r.2.deep.objects }
      orbit := { r.2.orbit with ckptLast := w64 loc, ckptWriting := false, writing := none } }

/-- CHECKPOINT_COMPLETE (R540). -/
def execCheckpointComplete (s : State) : Result :=
  .next (
    match liveOrbit s, s.orbit.writing with
    | some (i, o), some c => if anchorWhole s.orbit c then finishCheckpoint i o c s else s
    | _, _ => s)

/-- SNAPSHOT_DEEP_WRITE_COMPLETE (R540): the area-2 object is valid. -/
def execSnapshotDeepWriteComplete (s : State) : Result :=
  .next (
    match liveOrbit s, s.orbit.snapWriting with
    | some (i, o), some c =>
      let r := writeCapture i o c s
      freeSnapshot { r.2 with orbit := { r.2.orbit with snapWriting := none } }
    | _, _ => s)

/-! ## Restores (R542) -/

/-- A restore fails with a cause of R656. -/
def restoreFails (cause : Nat) (s : State) : State :=
  record 0x4F03 (detail [(1, cause)]) { s with orbit := { s.orbit with restore := 3, restored := none } }

/-- The area-3 object that a locator names. -/
def locatedObject (d : Deep) (loc : Nat) : Option DeepObj :=
  d.objects.find? (fun o => o.valid && o.area == 3 && locator 3 o.c0 o.num == loc)

/-- A restore is asked for: in READY, a full image checked (R542); any other request is ignored. -/
def requestRestore (loc : Nat) (s : State) : State :=
  if s.glb.state = .ready ∧ s.img.stage = .checked ∧ s.img.kind = .full then
    match locatedObject s.deep loc with
    | some o => { s with orbit := { s.orbit with restore := 1, restoreObj := o.num, restored := none } }
    | none => restoreFails 1 s
  else s

/-- RDX_RESTORE (R542). -/
def execRdxRestore (p : Port) (v : W64) (s : State) : Result := .next (regWrite p .rdxRestore v (fun _ => 0) requestRestore s)

/-- The capture header passes its CRC-32C. -/
def captureCrcOk (b : Bytes) : Bool :=
  b.take 4 == ascii "CAPT" && natAt b 84 4 == crc32c (b.take 84 ++ [0, 0, 0, 0] ++ (b.drop 88).take 168)

/-- The checkpoint belongs to the staged image's job and member (R542). -/
def captureIsOf (i : Image) (b : Bytes) : Bool :=
  natAt b 8 8 == i.jobId.toNat && natAt b 40 4 == i.memberRank && natAt b 32 8 == i.numeric.seed.toNat

/-- The epoch word records of a capture. -/
def readEpochs (b : Bytes) : List (Nat × Nat) :=
  let r := 256 + 24 * natAt b 44 4
  (List.range (natAt b 48 4)).map (fun k => (natAt b (r + 16 * k) 2, natAt b (r + 16 * k + 8) 8))

/-- The half of a shard's pair that its recorded epoch makes current (R542). -/
def restoredHalf (i : Image) (es : List (Nat × Nat)) (shard : Nat) : Option BuoyEntry :=
  (i.exchange.pairs.find? (fun p => p.shard == shard)).bind (currentHalf i es)

/-- The shards whose halves this member owns. -/
def ownedShards (i : Image) : List Nat :=
  (i.exchange.pairs.filter (fun p => ((buoyEntry i p.half0).map (ownedHere i)).getD false)).map (·.shard)

/-- The recorded shards are those of the staged image, with the same tile counts (R542). -/
def captureFits (i : Image) (b : Bytes) : Bool :=
  let ds := readDirectory b
  ds.all (fun d => d.shard && ((restoredHalf i (readEpochs b) d.id).map (fun e => buoyTiles e == d.tiles)).getD false
      && (ownedShards i).contains d.id)
    && (ownedShards i).all (fun x => ds.any (fun d => d.id == x))

/-- The working form of a stored tile that passes its CRC-32C. -/
def restoredTile (s : State) (o : DeepObj) (k pitch : Nat) : Option Bytes :=
  match (fetchDeep o.num pitch k s).1 with
  | .tile b => some b
  | _ => none

/-- The tiles of a shard, from one of the object on, loaded into its half's home; false once one fails. -/
def loadTiles (o : DeepObj) (e : BuoyEntry) : Nat → Nat → Nat → State → Bool × State
  | 0, _, _, s => (true, s)
  | n + 1, k, j, s =>
    match restoredTile s o k (buoyPitch e) with
    | some b => loadTiles o e n (k + 1) (j + 1) (t1Write (e.initOffset + j * buoyPitch e) b none s)
    | none => (false, s)

/-- The shards in directory order. -/
def loadShards (i : Image) (es : List (Nat × Nat)) (o : DeepObj) : Nat → List DirRecord → State → Bool × State
  | _, [], s => (true, s)
  | k, d :: ds, s =>
    match restoredHalf i es d.id with
    | none => (false, s)
    | some e =>
      match loadTiles o e d.tiles k 0 s with
      | (true, t) => loadShards i es o (k + d.tiles) ds t
      | (false, t) => (false, t)

/-- The numerics section, none where it is missing or fails its CRC-32C (R542). -/
def readNumerics (b : Bytes) : Option Bytes :=
  let n := natAt b 72 8
  let x := (b.drop (natAt b 64 8)).take n
  if n != 0 && x.length == n && crc32c x == natAt b 80 4 then some x else none

/-- What the next commit takes from a capture (R543). -/
def readRestored (b : Bytes) : Restored :=
  { jobStep := natAt b 16 8, applied := natAt b 24 8, orbitOut := natAt b 52 4, orbitApplied := natAt b 56 4, anchorEpoch := natAt b 60 4,
    epochs := readEpochs b, numerics := readNumerics b }

/-- A validated checkpoint is loaded (R542). -/
def loadCheckpoint (i : Image) (o : DeepObj) (s : State) : State :=
  match loadShards i (readEpochs o.content) o 0 (readDirectory o.content) s with
  | (true, t) => { t with orbit := { t.orbit with
      restore := 2, restoreStep := natAt o.content 16 4, restored := some (readRestored o.content) } }
  | (false, t) => restoreFails 4 t

/-- RESTORE_LOADED (R542). -/
def execRestoreLoaded (s : State) : Result :=
  .next (
    match s.img.checked with
    | some i =>
      if s.orbit.restore = 1 ∧ s.img.stage = .checked ∧ s.img.kind = .full then
        match deepObj s.deep s.orbit.restoreObj with
        | some o =>
          if !captureCrcOk o.content then restoreFails 1 s
          else if !captureIsOf i o.content then restoreFails 2 s
          else if !captureFits i o.content then restoreFails 3 s
          else loadCheckpoint i o s
        | none => restoreFails 1 s
      else s
    | none => s)

end Sys2Proof.Machine
end

