-- ==== Sys2Proof/Machine/CheckOrbit.lean ====
section
/-! DEFINITION. The image check: orbits, snapshots and checkpoints (check 0x432D; R522 to R527, R536, R539). -/
namespace Sys2Proof.Machine

/-! ## Header and entries (Tables 15.2 and 15.3) -/

/-- The ORBIT body header holds a reserved encoding: reserved bytes, a SNAP_DEEP above 1, an offset that is not 4 KiB-aligned, or the size of
a hold buffer whose interval is 0 (DEDUCED, log 47). -/
def orbitHeaderBad (x : Bytes) : Bool :=
  let o := parseOrbit (x, 0)
  decide (1 < natAt x 0x3C 1) || !zeroAt x 0x3D 3 || [o.outArea, o.inArea, o.snapHold].any (fun a => a % 4096 != 0)
    || (o.snapEvery == 0 && o.snapBytes != 0) || (o.ckptEvery == 0 && o.ckptMib != 0)

/-- H, D and the number of entries break R527. -/
def orbitLengthBad (o : OrbitSec) : Bool :=
  o.h == 1 || (o.h != 0 && (decide (o.d < 1) || decide (o.h ≤ o.d))) || (o.h != 0) != !o.sets.isEmpty

/-- An ORBIT_SET entry holds a reserved encoding. -/
def setEncodingBad (b : Bytes) : Bool := natAt b 0 1 != 1 || !(zeroAt b 1 1 && zeroAt b 0x1C 4)

/-- Two buoys of one size and format. -/
def sameContents (a b : BuoyEntry) : Bool := a.size == b.size && a.format == b.format

/-- The buoys of an ORBIT_SET entry are not as R527 has them. -/
def setBuoysBad (i : Image) (x : OrbitSet) : Bool :=
  match buoyEntry i x.delta, buoyEntry i x.inBuoy, buoyEntry i x.anchor, buoyEntry i x.stage with
  | some d, some n, some a, some g =>
    d.cls != 8 || !sameContents d n || !([0x03, 0x04, 0x05].contains d.format) || !hasFlag a 13 || !sameContents a g || !hasFlag g 1
      || !hasFlag g 8 || [d, n, a, g].any (fun e => !ownedHere i e)
  | _, _, _, _ => true

/-! ## Packets and hold buffers -/

/-- The bytes of a packet slot of an entry: 64 and the largest footprint of each tile, up to 4 KiB. -/
def packetSlot (i : Image) (x : OrbitSet) : Nat :=
  (buoyEntry i x.delta).elim 0 (fun e => ceilDiv (64 + buoyTiles e * (ceilDiv (buoyPitch e) 256 * 256)) 4096 * 4096)

/-- The outgoing and the incoming packet slot of an entry, as runs of the host region. -/
def packetRuns (i : Image) (o : OrbitSec) (x : OrbitSet) : List (Nat × Nat) :=
  [(o.outArea + 4096 * x.outPkt, packetSlot i x), (o.inArea + 4096 * x.inPkt, packetSlot i x)]

/-- A packet slot of an entry overlaps another or reaches outside the host region. -/
def packetsBad (h : HostSite) (i : Image) (o : OrbitSec) (k : Nat) (x : OrbitSet) : Bool :=
  let own := packetRuns i o x
  let others := (o.sets.take k).flatMap (packetRuns i o)
  own.any (fun r => decide (regionSize h < r.1 + r.2) || others.any (runsMeet r))
    || (match own with
        | [a, b] => runsMeet a b
        | _ => false)

/-- A capture's length in the layout of Table 15.5 at its most: every pair's epoch word is held (DEDUCED, log 47). -/
def captureBound (i : Image) (checkpoint : Bool) : Nat :=
  let cs := if checkpoint then ownHalves i [] else snapshotSet i []
  256 + 24 * cs.length + 16 * i.exchange.pairs.length + (if checkpoint then (numericsSection {} i).length else 0) + setBytes cs

/-- A run of local T1 overlaps a home. -/
def overHome (i : Image) (r : Nat × Nat) : Bool := i.buoys.any (fun e => homeIs i e (runsMeet r))

/-- A hold buffer is too small or lies where it may not. -/
def holdBufferBad (h : HostSite) (i : Image) (o : OrbitSec) : Bool :=
  let snap := (h.regionBase + o.snapHold, o.snapBytes)
  let ckpt := (o.ckptHold, o.ckptMib * 2 ^ 20)
  (o.snapEvery != 0 && (decide (o.snapBytes < captureBound i false) || overHome i snap || decide (regionSize h < o.snapHold + o.snapBytes)))
    || (o.ckptEvery != 0 && (decide (o.ckptMib * 2 ^ 20 < captureBound i true) || overHome i ckpt || runsMeet ckpt (regionRun h)))

/-! ## Flagged plan beams (R522 to R525) -/

/-- The plan beams that carry a flag. -/
def flaggedBeams (i : Image) (bit : Nat) : List Nat := (List.range (planBeams i)).filter (fun p => beamFlag i p bit)

/-- All beams of one flag precede all of another. -/
def flagsOrdered (i : Image) (a b : Nat) : Bool := (flaggedBeams i a).all (fun p => (flaggedBeams i b).all (fun q => decide (p < q)))

/-- A flag is due and no plan beam carries it. -/
def flagMissing (i : Image) (o : OrbitSec) : Bool :=
  (o.h != 0 && [1, 2, 3, 4].any (fun b => (flaggedBeams i b).isEmpty))
    || ((o.snapEvery != 0 || o.ckptEvery != 0) && (flaggedBeams i 5).isEmpty)

/-- The buoys that the tasks of a plan beam write, aliases as they are named. -/
def writtenIn (i : Image) (p : Nat) : List Nat := (tasksOf i p).flatMap (fun t => ((accsOf i t).filter (fun a => a.mode != 1)).map (·.buoy))

/-- A plan beam writes a NEXT alias that an ORBIT_IN task writes. -/
def writesAlike (i : Image) (q : Nat) : Bool :=
  i.exchange.pairs.any (fun x => (writtenIn i q).contains x.next && (flaggedBeams i 4).any (fun p => (writtenIn i p).contains x.next))

/-- A plan beam's flags break R522, R525 or R527: two flags, the step gate among them; tasks or slots in a beam of device work; an engine
other than a vector engine in ORBIT_OUT or ORBIT_IN; or an ORBIT_IN beam before a writer of what it writes. -/
def flaggedBad (i : Image) (p : Nat) : Bool :=
  decide (1 < ((List.range 6).filter (beamFlag i p)).length)
    || ([2, 3, 5].any (beamFlag i p) && (!(tasksOf i p).isEmpty || !(slotsOf i p).isEmpty))
    || ([1, 4].any (beamFlag i p) && (tasksOf i p).any (fun t => !(taskEngine i t).any (fun e => e.kind == 2)))
    || (beamFlag i p 4 && (List.range (planBeams i)).any (fun q => decide (p < q) && !beamFlag i q 4 && writesAlike i q))

/-- Work of a flag does not fit its beams at 64 bytes per clock (R525). -/
def workTooLong (t : Timing) (bit work : Nat) : Bool := decide (64 * t.limit * (flaggedBeams t.img bit).length < work)

/-- The bytes of working form of the buoys of the sets. -/
def setWork (i : Image) (o : OrbitSec) (f : OrbitSet → Nat) : Nat := (o.sets.map (fun x => (buoyEntry i (f x)).elim 0 homeBytes)).sum

/-- The work of R525 does not fit. -/
def orbitWorkBad (t : Timing) (o : OrbitSec) : Bool :=
  workTooLong t 2 (setWork t.img o (·.delta)) || workTooLong t 3 (setWork t.img o (·.inBuoy))
    || workTooLong t 5 ((if o.snapEvery = 0 then 0 else setBytes (snapshotSet t.img [])) + (if o.ckptEvery = 0 then 0 else setBytes (ownHalves t.img [])))

/-- Check 0x432D of a set that holds an ORBIT section. -/
def checkOrbitSection (h : HostSite) (b : Bytes) (t : Timing) (o : OrbitSec) : Option CheckFail :=
  let i := t.img
  let x := rawSection b 11
  failWhen (((carriedTypes b).contains 11 && orbitHeaderBad x.1) || orbitLengthBad o) 0x432D 11 noEntry
  <|> failAt 0x432D 11 (entriesOf x 32) setEncodingBad
  <|> failAtPlace 0x432D 11 o.sets (fun k e => setBuoysBad i e || packetsBad h i o k e)
  <|> failWhen (holdBufferBad h i o || flagMissing i o) 0x432D 11 noEntry
  <|> ((List.range (planBeams i)).find? (flaggedBad i)).map (fun p => { event := 0x432D, part := 5, entry := p })
  <|> failWhen (!(flagsOrdered i 1 2 && flagsOrdered i 3 4) || orbitWorkBad t o) 0x432D 11 noEntry

/-- Check 0x432D. -/
def checkOrbit (h : HostSite) (b : Bytes) (t : Timing) : Option CheckFail := t.img.orbit.bind (checkOrbitSection h b t)

end Sys2Proof.Machine
end

