-- ==== Sys2Proof/Machine/Matrix.lean ====
section
/-! DEFINITION. The matrix engine: operands, group sums, accumulation, overflow replay, output actions (chapters 05 and 06). -/
namespace Sys2Proof.Machine

/-! ## The descriptor (R172) -/

/-- K_TILES. -/
def kTiles (t : TaskEntry) : Nat := payloadField t 127 112
/-- ACC_MODE: 0 FP32C, 1 FP32, 2 FP16. -/
def accMode (t : TaskEntry) : Nat := payloadField t 23 22
/-- g. -/
def groupLen (t : TaskEntry) : Nat := 4 * 2 ^ payloadField t 21 20
/-- ACC_SLOT. -/
def accSlotOf (t : TaskEntry) : Nat := payloadField t 31 24
/-- INIT. -/
def isInit (t : TaskEntry) : Bool := t.payload.testBit 17
/-- OUT_ACTION. -/
def outAction (t : TaskEntry) : Nat := payloadField t 15 13
/-- The operands are FP32: three passes (R186). -/
def threePass (t : TaskEntry) : Bool := payloadField t 55 48 == 0x01

/-- The accumulation policy of a task (R217). -/
def accPolicy (i : Image) (t : TaskEntry) : AccPolicy :=
  (i.numeric.accs.find? (fun p => p.policy == payloadField t 223 216)).getD ⟨payloadField t 223 216, accMode t, 0, 0, 0⟩

/-- Offsets of the K operand tiles (R173). -/
def operandOffsets (base stride k : Nat) : List Nat := (List.range k).map (fun j => base + j * stride)

/-- The A operand's tiles. -/
def aRefs (i : Image) (r : RunTask) : Option (List TileRef) :=
  tileRefs i r (payloadField r.task 11 9) (operandOffsets (payloadField r.task 191 160) (payloadField r.task 111 96) (kTiles r.task))

/-- The B operand's tiles. -/
def bRefs (i : Image) (r : RunTask) : Option (List TileRef) :=
  tileRefs i r (payloadField r.task 8 6) (operandOffsets (payloadField r.task 159 128) (payloadField r.task 95 80) (kTiles r.task))

/-! ## Operand values (R183, R185, R186) -/

/-- A part of an FP32 element: the whole, or its high or low BF16 half (R186). -/
inductive Part where
  | whole | hi | lo
  deriving DecidableEq, Repr

/-- RNE_BF16 of a value, a finite one never an infinity (R186). -/
def roundBf16 (x : Fl) : Fl := bf16.decode (bf16.narrow .rne 0 x).1

/-- A part of an element's value; the parts of a NaN or an infinity are itself and +0. -/
def partOf (p : Part) (x : Fl) : Fl :=
  match p with
  | .whole => x
  | .hi => if x.isFinite then roundBf16 x else x
  | .lo => if x.isFinite then roundBf16 (Fl.add x (roundBf16 x).negate) else .fin false 0 0

/-- The real values of a tile's elements, of one part of each; scales apply after the split. -/
def partValues (p : Part) (h : Header) (b : Bytes) : List Fl :=
  match elemOf h.format with
  | none => []
  | some e =>
    if p = .whole then tileValues h e (b.drop 64)
    else ((payloadCodes e (b.drop 64)).map (fun c => (partOf p (e.value c)).scale ((h.tse : Int) - 127 - h.step)))

/-- The rows of an operand: 128 vectors along k, one for each row of A or column of B. `along` says that k runs along the stored
columns. -/
def operandRows (along : Bool) (p : Part) (x : Header × Bytes) : List (List Fl) :=
  let rows := rowsOf 128 (partValues p x.1 x.2)
  if along then rows else columnsOf 128 rows

/-! ## Group sums (R185, R206 to R208) -/

/-- The exact sum of products; NaN where a factor is not finite (R185). -/
def exactDot : List Fl → List Fl → Fl → Fl
  | a :: as, b :: bs, acc => exactDot as bs (if a.isFinite && b.isFinite then Fl.add acc (Fl.mul a b) else .nan)
  | _, _, acc => acc

/-- Groups of g elements; the fuel is their number. -/
def groupsOf {α : Type} (g : Nat) : Nat → List α → List (List α)
  | 0, _ => []
  | n + 1, xs => xs.take g :: groupsOf g n (xs.drop g)

/-- The group sums of a dot product over one tile pair, rounded once into a format under a chain scale (R206). -/
def groupSums (f : Fmt) (lambda : Int) (g : Nat) (a b : List Fl) : List Nat :=
  List.zipWith (fun x y => (f.ofFl ((exactDot x y (.fin false 0 0)).scale lambda)).1)
    (groupsOf g (128 / g) a) (groupsOf g (128 / g) b)

/-! ## One element's accumulation (R209, R220) -/

/-- The format of an accumulator mode's sums: FP16 only in mode 2 before attempt 3 (Table 6.5). -/
def accFmt (mode attempt : Nat) : Fmt := if mode = 2 && attempt < 3 then f16 else f32

/-- λ of an attempt (Table 6.5). -/
def lambdaOf (mode attempt : Nat) : Int :=
  if mode = 2 then (if attempt = 1 then -8 else if attempt = 2 then -16 else 0) else (if attempt = 1 then -32 else 0)

/-- Attempts of a mode (Table 6.5). -/
def attempts (mode : Nat) : Nat := if mode = 2 then 4 else 2

/-- A group sum added to an element's state (R209). -/
def accAdd (mode attempt : Nat) (p : Pair) (x : Nat) : Pair :=
  if mode = 0 then Pair.add p x else ⟨((accFmt mode attempt).add p.s x).1, 0⟩

/-- An encoding is an infinity. -/
def isInf (f : Fmt) (x : Nat) : Bool :=
  match f.decode x with
  | .inf _ => true
  | _ => false

/-- Where an infinity first arose and where a NaN group sum first stood, as places in the order of the groups. -/
structure Marks where
  inf : Option Nat := none
  nan : Option Nat := none
  deriving DecidableEq, Repr

/-- The earlier of two places. -/
def earlier (a b : Option Nat) : Option Nat :=
  match a, b with
  | some x, some y => some (min x y)
  | some x, none => some x
  | none, y => y

/-- The marks of a step that adds group sum x to p: an infinity arises in x, in s or in c (R220). -/
def markStep (f : Fmt) (at_ : Nat) (p q : Pair) (x : Nat) (m : Marks) : Marks :=
  let new := isInf f x || (isInf f q.s && !isInf f p.s) || (isInf f q.c && !isInf f p.c)
  { inf := if new then earlier m.inf (some at_) else m.inf,
    nan := if (f.decode x).isNan then earlier m.nan (some at_) else m.nan }

/-- Group sums added in order from a place on. -/
def accRun (mode attempt : Nat) : Nat → List Nat → Pair → Marks → Pair × Marks
  | _, [], p, m => (p, m)
  | at_, x :: xs, p, m =>
    let q := accAdd mode attempt p x
    accRun mode attempt (at_ + 1) xs q (markStep (accFmt mode attempt) at_ p q x m)

/-! ## Order of work (R186, R187) -/

/-- The place of an element's quadrant in the order Q0, Q1, Q3, Q2. -/
def quadrantPlace (m n : Nat) : Nat := if m < 64 then (if n < 64 then 0 else 1) else (if n < 64 then 3 else 2)

/-- The parts that each pass multiplies: one pass, or three (R186). -/
def passParts (t : TaskEntry) : List (Part × Part) :=
  if threePass t then [(.lo, .hi), (.hi, .lo), (.hi, .hi)] else [(.whole, .whole)]

/-- A pair of operand tiles in one pass, as rows of A and columns of B along k. -/
structure OperandPair where
  a : List (List Fl)
  b : List (List Fl)
  deriving DecidableEq, Repr

/-- The operand pairs of every pass, in order. -/
def operandPairs (t : TaskEntry) (as bs : List (Header × Bytes)) : List OperandPair :=
  (passParts t).flatMap (fun p => List.zipWith (fun a b =>
    ⟨operandRows (!t.payload.testBit 19) p.1 a, operandRows (t.payload.testBit 18) p.2 b⟩) as bs)

/-- One element over every pair in order. `place` counts groups by pair, quadrant and k. -/
def accElement (mode attempt g : Nat) (lambda : Int) (m n : Nat) : Nat → List OperandPair → Pair → Marks → Pair × Marks
  | _, [], p, k => (p, k)
  | j, o :: os, p, k =>
    let xs := groupSums (accFmt mode attempt) lambda g (o.a.getD m []) (o.b.getD n [])
    let r := accRun mode attempt ((4 * j + quadrantPlace m n) * (128 / g)) xs p k
    accElement mode attempt g lambda m n (j + 1) os r.1 r.2

/-- Every element of the output tile: its state after all the pairs, and the marks of the whole task. -/
def accTile (mode attempt g : Nat) (lambda : Int) (os : List OperandPair) (start : List Pair) : List Pair × Marks :=
  let rs := (List.range 16384).zipWith (fun i p => accElement mode attempt g lambda (i / 128) (i % 128) 0 os p {}) start
  (rs.map (·.1), rs.foldl (fun k r => ⟨earlier k.inf r.2.inf, earlier k.nan r.2.nan⟩) {})

/-- An overflow: an infinity arose before any NaN group sum's group position (R220). -/
def overflowAt (k : Marks) : Option Nat :=
  match k.inf, k.nan with
  | some a, some b => if a < b then some a else none
  | x, none => x
  | none, _ => none

/-! ## Slots (R202, R203, R224) -/

/-- Undefined slot contents (R177, R225): 16 384 elements of a loss. -/
def undefinedPairs (gen slot : Nat) (f : Fmt) (mode : Nat) : List Pair :=
  (List.range 16384).map (fun i =>
    let w := f.width / 8
    let v (a : Nat) : Nat := leNat ((List.range w).map (fun k => Config.undefinedByte gen (slot * 32768 + a + i * w + k)))
    ⟨v 0, if mode = 0 then v 65536 else 0⟩)

/-- The contents of a slot set as lists. -/
def slotPairs (x : SlotSet) : List Pair :=
  List.zipWith Pair.mk (SMap.read x.s 0 16384 (fun _ => 0)) (SMap.read x.c 0 16384 (fun _ => 0))

/-- A slot set out of its elements. -/
def slotSet (mode attempt : Nat) (lambda : Int) (ps : List Pair) : SlotSet :=
  { mode := mode, s := SMap.write [] 0 (ps.map (·.s)) 0, c := SMap.write [] 0 (ps.map (·.c)) 0, lambda := lambda, attempt := attempt }

/-- What a task finds in its slots: zeros with INIT 1, else what the last task left (R203, R176). -/
def entrySlots (m : MeUnit) (t : TaskEntry) : SlotSet :=
  if isInit t then { mode := accMode t }
  else match SMap.find? m.slots (accSlotOf t) with
    | some x => x
    | none =>
      if m.undefined = 0 then { mode := accMode t }
      else slotSet (accMode t) 0 0 (undefinedPairs m.undefined (accSlotOf t) (accFmt (accMode t) 0) (accMode t))

/-- An accumulator value under another chain scale, in the format of an attempt (R224). -/
def rescale (fromF to_ : Fmt) (k : Int) (x : Nat) : Nat := (to_.ofFl ((fromF.decode x).scale k)).1

/-- The state with which an attempt starts: the entry state, restored under the attempt's λ (R224, R225). -/
def attemptStart (e : SlotSet) (attempt : Nat) : List Pair :=
  let k := lambdaOf e.mode attempt - e.lambda
  let src := accFmt e.mode e.attempt
  let dst := accFmt e.mode attempt
  if attempt = e.attempt then slotPairs e
  else (slotPairs e).map (fun p => ⟨rescale src dst k p.s, rescale src dst k p.c⟩)

/-! ## Attempts (R221 to R228) -/

/-- What the attempts of a task come to. -/
structure Product where
  pairs : List Pair
  attempt : Nat
  replays : Nat
  macs : Nat
  nanInput : Bool
  exhausted : Bool := false
  excess : Bool := false
  /-- ON_EXCESS 0: fault 0x8600 -/
  stopped : Bool := false
  deriving DecidableEq, Repr

/-- Products of one quadrant of a tile pair. -/
def quadrantMacs : Nat := 64 * 64 * 128

/-- Products fed to the trees until the end of the quadrant of a group position. -/
def macsUntil (g place : Nat) : Nat := (place / (128 / g) + 1) * quadrantMacs

/-- What follows an attempt of the given result: it ends the sequence, or the next attempt follows, given the replays and the products so
far (R223, R226 to R228). -/
def afterAttempt (pol : AccPolicy) (g mode attempt replays macs : Nat) (whole : Product) (marks : Marks) (next : Nat → Nat → Product) : Product :=
  match overflowAt marks with
  | none => whole
  | some p =>
    if attempts mode ≤ attempt + 1 then { whole with exhausted := true }
    else if pol.budget ≤ replays then
      (if pol.onExcess = 0 then { whole with stopped := true, macs := macs + macsUntil g p } else { whole with excess := true })
    else next (replays + 1) (macs + macsUntil g p)

/-- Attempts from one on: an overflow leads to the next, to the end of the sequence, or beyond the budget (R223, R226 to R228). The fuel
is the number of attempts that are left. -/
def runAttempts (pol : AccPolicy) (t : TaskEntry) (os : List OperandPair) (e : SlotSet) : Nat → Nat → Nat → Nat → Product
  | 0, attempt, replays, macs => { pairs := attemptStart e attempt, attempt := attempt, replays := replays, macs := macs, nanInput := false }
  | fuel + 1, attempt, replays, macs =>
    let r := accTile e.mode attempt (groupLen t) (lambdaOf e.mode attempt) os (attemptStart e attempt)
    let whole : Product := { pairs := r.1, attempt := attempt, replays := replays, macs := macs + os.length * 4 * quadrantMacs, nanInput := r.2.nan.isSome }
    afterAttempt pol (groupLen t) e.mode attempt replays macs whole r.2 (fun n k => runAttempts pol t os e fuel (attempt + 1) n k)

/-- The products of a task accumulated. -/
def multiply (pol : AccPolicy) (t : TaskEntry) (os : List OperandPair) (e : SlotSet) : Product := runAttempts pol t os e 4 e.attempt 0 0

/-! ## The result (R188, R210 to R212) -/

/-- r of an element. -/
def reduced (mode attempt : Nat) (p : Pair) : Nat :=
  if mode = 0 then p.fold else if mode = 2 && attempt < 3 then widenF32 (f16.decode p.s) else p.s

/-- r × 2^(−λ), and whether it saturates. -/
def corrected (lambda : Int) (r : Nat) : Nat × Bool :=
  if nonfinite32 r then (widenF32 (f32.decode r), false)
  else
    let x := f32.ofFl ((f32.decode r).scale (-lambda))
    if nonfinite32 x.1 then (f32.sign (f32.decode r).neg + f32.maxCode, true) else (x.1, false)

/-- The FP32 result of every element of the output tile. -/
def resultElems (mode : Nat) (p : Product) : List (Nat × Bool) :=
  p.pairs.map (fun x => corrected (lambdaOf mode p.attempt) (reduced mode p.attempt x))

/-- A tile whose header carries SATURATED too. -/
def flagSaturated (b : Bytes) : Bytes :=
  let h := Header.parse b
  makeTile { h with flags := h.flags ||| 4 } (b.drop 64)

/-! ## Output (R189 to R193) -/

/-- Elements narrowed into the output tile, SATURATED where the correction of R210 saturated one. -/
def writeOutput (who : Nat) (i : Image) (t : RunTask) (r : TileRef) (xs : List Nat) (sat : Bool) (s : State) : Bool × State :=
  let w := narrowFor s i r.entry r.tile (jobStep s) 0 (payloadField t.task 79 64) (t.task.payload.testBit 12) xs
  let b := if sat then flagSaturated w.tile else w.tile
  writeTile who (some t.task.le) r.entry r.tile b { s with num := NumState.note s.num i r.entry w }

/-- The stream tile of a result (R192). -/
def streamTileOf (s : State) (t : RunTask) (xs : List Nat) (sat : Bool) : StreamTile :=
  { bytes := makeTile (workHeader 0x01 0 t.task.idx (jobStep s) 127 0 (tileFlags false (xs.any nonfinite32) sat)) (packElems 32 xs),
    sender := t.task.le, idx := t.task.idx }

/-- The chained engine's stream buffer takes a tile (R192). -/
def streamOut (i : Image) (t : RunTask) (xs : List Nat) (sat : Bool) (s : State) : State :=
  match (i.engines[t.task.le]?).bind (fun e => i.engines[e.chain]?) with
  | some c => updVeUnit (2 * engineDie s c + c.unit) (fun v => { v with stream := v.stream ++ [streamTileOf s t xs sat] }) s
  | none => s

/-- The output tile of a task: OUT_INDEX of the OUT access. -/
def outRef (i : Image) (r : RunTask) : Option TileRef := tileRef i r (payloadField r.task 5 3) (payloadField r.task 255 224)

/-- OUT_ACTION applied to the result; `rb` is the reduction-buffer tile that RB_ADD has read. False where the write was refused. -/
def applyAction (who : Nat) (i : Image) (t : RunTask) (rb : List (Header × Bytes)) (res : List (Nat × Bool)) (s : State) : Bool × State :=
  let xs := res.map (·.1)
  let sat := res.any (·.2)
  match outAction t.task, outRef i t with
  | 1, some r => writeOutput who i t r xs sat s
  | 2, some r => writeOutput who i t r xs sat s
  | 3, some r => writeOutput who i t r (List.zipWith add32 ((rb.head?).elim [] (fun x => tileElems x.2)) xs) sat s
  | 4, _ => (true, streamOut i t xs sat s)
  | _, _ => (true, s)

/-! ## Events and registers (R226 to R234) -/

/-- The code of a matrix engine (R617). -/
def meCode (u : Nat) : Nat := engineCode (u / 2) (u % 2)

/-- Event 0x0600 for each replay, from an attempt on (R226). -/
def noteReplays (who idx mode : Nat) : Nat → Nat → State → State
  | 0, _, s => s
  | n + 1, attempt, s =>
    noteReplays who idx mode n (attempt + 1)
      (record 0x0600 (detail [(2, who), (2, idx), (1, attempt), (1, unsigned 8 (lambdaOf mode attempt))]) s)

/-- ME_STATUS, ME_MACS and ME_COUNTS after a task's attempts. -/
def MeUnit.counted (p : Product) (m : MeUnit) : MeUnit :=
  { m with replays := min 15 p.replays, macs := satAdd 64 m.macs p.macs, replayCount := satAdd 32 m.replayCount p.replays }

/-- An attempt 3 of FP16 mode ran among the attempts of a task that entered at attempt `first`. -/
def reran (mode first : Nat) (p : Product) : Bool := mode == 2 && p.attempt == 3 && first != 3

/-- ME_ACC_LAST (Table 6.7). -/
def accLast (t : TaskEntry) (first : Nat) (p : Product) (res : List (Nat × Bool)) : AccLast :=
  { taskIndex := t.idx, lambda := lambdaOf (accMode t) p.attempt, accSlot := accSlotOf t, attempt := p.attempt, excess := p.excess,
    exhausted := p.exhausted, rerun := reran (accMode t) first p, nonfinInput := p.nanInput,
    nonfinResult := res.any (fun x => nonfinite32 x.1), saturated := res.any (·.2) }

/-- Slots of a tile (R174). -/
def slotsUsed (mode : Nat) : Nat := if mode = 0 then 4 else if mode = 1 then 2 else 1

/-- The slot sets that share no slot with a task's own. -/
def otherSlots (m : SMap SlotSet) (t : TaskEntry) : SMap SlotSet :=
  m.filter (fun e => decide (e.1 + slotsUsed e.2.mode ≤ accSlotOf t) || decide (accSlotOf t + slotsUsed (accMode t) ≤ e.1))

/-- A matrix engine as its task ends. -/
def MeUnit.finished (t : RunTask) (last : AccLast) (set : SlotSet) (endAt fetchStall : Nat) (m : MeUnit) : MeUnit :=
  { m with
    run := none, phase := 0, last := last, slots := SMap.insert (otherSlots m.slots t.task) (accSlotOf t.task) set,
    busy := addBusy m.busy t.start endAt, stallFetch := satAdd 32 m.stallFetch fetchStall,
    exhausted := if last.exhausted || last.excess then satAdd 16 m.exhausted 1 else m.exhausted,
    reruns := if last.rerun then satAdd 16 m.reruns 1 else m.reruns,
    nonfinTasks := if last.nonfinResult then satAdd 32 m.nonfinTasks 1 else m.nonfinTasks }

/-- The slots after a task; after attempt 3 they are undefined (R225). -/
def leftSlots (s : State) (t : TaskEntry) (p : Product) : SlotSet :=
  let mode := accMode t
  if mode = 2 && p.attempt = 3 then slotSet mode 3 0 (undefinedPairs (s.freeCount + 1) (accSlotOf t) f16 2)
  else slotSet mode p.attempt (lambdaOf mode p.attempt) p.pairs

/-- The events of an exhausted sequence or an exceeded budget (R227, R228). -/
def noteExhausted (who : Nat) (t : RunTask) (p : Product) (s : State) : State :=
  let d := detail [(2, who), (2, t.task.idx), (4, t.planBeam)]
  if p.exhausted then record 0x4600 d s else if p.excess then record 0x4601 d s else s

/-- A task that ends with a non-finite element raises the indication, whatever its action (R232). -/
def indicateIf (b : Bool) (s : State) : State := if b then { s with num := { s.num with nonFinite := true } } else s

/-- The task's work is done: its action, its slots, its registers, its end. -/
def finishMatmul (u : Nat) (i : Image) (t : RunTask) (first : Nat) (p : Product) (rb : List (Header × Bytes)) (endAt fetchStall : Nat)
    (s : State) : State :=
  let who := meCode u
  let res := resultElems (accMode t.task) p
  let s1 := noteExhausted who t p (noteReplays who t.task.idx (accMode t.task) p.replays (first + 1) s)
  match applyAction who i t rb res (indicateIf (res.any (fun x => nonfinite32 x.1)) s1) with
  | (true, s2) =>
    let last := accLast t.task first p res
    let s3 := updMeUnit u (fun m => MeUnit.finished t last (leftSlots s2 t.task p) endAt fetchStall (MeUnit.counted p m)) s2
    finishTask who t.task.le t.task.idx endAt (if p.attempt = 3 then { s3 with freeCount := s3.freeCount + 1 } else s3)
  | (false, s2) => s2

/-- A task whose replays exceed its budget under ON_EXCESS 0 stops: fault 0x8600 (R228). -/
def excessFault (u : Nat) (t : RunTask) (first : Nat) (p : Product) (s : State) : State :=
  let who := meCode u
  let s1 := updMeUnit u (MeUnit.counted p) (noteReplays who t.task.idx (accMode t.task) p.replays (first + 1) s)
  raiseFault 0x8600 (detail [(2, who), (2, t.task.idx), (4, t.planBeam), (1, payloadField t.task 223 216)]) s1

/-! ## MATMUL -/

/-- An operand tile to be used: whether k runs along its stored columns, none for the reduction-buffer tile. -/
structure Operand where
  along : Option Bool
  ref : TileRef
  deriving DecidableEq, Repr

/-- An MX operand whose blocks do not run along k (R184, Table 5.5). -/
def axisBad (o : Operand) (h : Header) : Bool :=
  match o.along with
  | some a => (elemOf h.format).elim false (·.isMx) && h.axis == a
  | none => false

/-- Operand tiles used in order: the checks of R179, then the axis of an MX tile, fault 0x8500 (R184). -/
def useOperands (who le : Nat) : List Operand → State → TilesUse × State
  | [], s => (.all [], s)
  | o :: os, s =>
    match useTile who le 0x4500 0x8501 o.ref.entry o.ref.tile o.ref.budget s with
    | (.good h b, t) =>
      if axisBad o h then (.stop, raiseFault 0x8500 (detail [(2, who), (4, o.ref.entry.id), (4, o.ref.tile)]) t)
      else match useOperands who le os t with
        | (.all ts, u) => (.all ((h, b) :: ts), u)
        | (.waiting, u) => (.waiting, keepInbox s u)
        | x => x
    | (.held, t) => (.held o.ref.entry.id o.ref.tile, t)
    | (.waiting, t) => (.waiting, t)
    | (.stop, t) => (.stop, t)

/-- The engine holds for a tile (R181). -/
def holdMe (u buoy tile : Nat) (s : State) : State :=
  updMeUnit u (fun m => { m with held := some ⟨buoy, tile⟩, heldAt := s.beam.offset, crcFail := satAdd 32 m.crcFail 1 }) s

/-- The operand pairs of a task, A before B in each (R173). -/
def pairOperands (t : TaskEntry) : List TileRef → List TileRef → List Operand
  | a :: as, b :: bs => ⟨some (!t.payload.testBit 19), a⟩ :: ⟨some (t.payload.testBit 18), b⟩ :: pairOperands t as bs
  | _, _ => []

/-- The tiles that a task reads: operand pairs in order, and the reduction-buffer tile for RB_ADD (R179, R198). -/
def matmulOperands (i : Image) (t : RunTask) : Option (List Operand) :=
  let pairs :=
    if kTiles t.task = 0 then some []
    else match aRefs i t, bRefs i t with
      | some as, some bs => some (pairOperands t.task as bs)
      | _, _ => none
  if outAction t.task = 3 then
    match pairs, outRef i t with
    | some ps, some r => some (ps ++ [⟨none, r⟩])
    | _, _ => none
  else pairs

/-- The elements at even and at odd places. -/
def splitTurns {α : Type} : List α → List α × List α
  | a :: b :: r => (a :: (splitTurns r).1, b :: (splitTurns r).2)
  | xs => (xs, [])

/-- The task on its verified tiles. -/
def computeMatmul (u : Nat) (i : Image) (t : RunTask) (as bs rb : List (Header × Bytes)) (endAt fetchStall : Nat) (s : State) : State :=
  let e := entrySlots (SMap.get s.me u {}) t.task
  let p := multiply (accPolicy i t.task) t.task (operandPairs t.task as bs) e
  if p.stopped then excessFault u t e.attempt p s else finishMatmul u i t e.attempt p rb endAt fetchStall s

/-- The task's tiles are read and verified in order; then it computes (R178 to R184). -/
def runMatmul (u : Nat) (i : Image) (t : RunTask) (endAt fetchStall : Nat) (s : State) : State :=
  match matmulOperands i t with
  | none => s
  | some os =>
    match useOperands (meCode u) t.task.le os s with
    | (.held b k, x) => holdMe u b k x
    | (.waiting, x) => x
    | (.stop, x) => x
    | (.all ts, x) =>
      let n := 2 * kTiles t.task
      let ab := splitTurns (ts.take n)
      computeMatmul u i t ab.1 ab.2 (ts.drop n) endAt fetchStall x

/-- The task that a matrix engine runs, neither held nor stopped. -/
def meTask (s : State) (u : Nat) : Option (Image × RunTask) :=
  match s.img.live, (SMap.get s.me u {}).run with
  | some i, some t => if planRuns s && (SMap.get s.me u {}).held.isNone then some (i, t) else none
  | _, _ => none

/-- MATMUL (R187): the running matrix task does its work and ends at an offset of the beam; `fetchStall` clocks of it waited for an
operand. -/
def execMatmul (die : Fin 8) (u : Fin 2) (endAt fetchStall : Nat) (s : State) : Result :=
  .next (
    match meTask s (2 * die.val + u.val) with
    | some (i, t) => if mayEnd s endAt then runMatmul (2 * die.val + u.val) i t endAt fetchStall s else s
    | none => s)

end Sys2Proof.Machine
end

