-- ==== Sys2Proof/Machine/CheckTasks.lean ====
section
/-! DEFINITION. The image check: task descriptors and the rules of each engine (check 0x432F; R172 to R192, R205, R216, R219, R243, R244,
R252, R254, R255, R259, R279 to R308, R571 to R576). -/
namespace Sys2Proof.Machine

/-! ## What the engines share -/

/-- Bits hi to lo of a payload are zero. -/
def bitsZero (t : TaskEntry) (hi lo : Nat) : Bool := payloadField t hi lo == 0

/-- The access of a descriptor's field, with its buoy; none where it lies at or above ACC_COUNT. -/
def roleAccess (i : Image) (t : TaskEntry) (f : Nat × Nat) : Option (Access × BuoyEntry) :=
  (fieldAccess i t f.1 f.2).bind (fun a => (buoyEntry i a.buoy).map (fun e => (a, e)))

/-- An access plays a role: its MODE, a format permitted and the tile offsets named below TILE_COUNT. -/
def roleOk (i : Image) (t : TaskEntry) (f : Nat × Nat) (mode : Nat) (ok : BuoyEntry → Bool) (limit : Nat) : Bool :=
  (roleAccess i t f).any (fun x => x.1.mode == mode && ok x.2 && decide (limit ≤ x.1.count))

/-- One more than the greatest of n tile offsets that start at a base with a stride, of `len` tiles each. -/
def offsetLimit (base stride n len : Nat) : Nat := if n = 0 then 0 else base + (n - 1) * stride + len

/-- Tiles of a buoy, by their own indices, lie within an access. -/
def elemsInside (a : Access) (e n : Nat) : Bool :=
  (tilesOfElems e n).all (fun k => decide (a.first ≤ k) && decide (k < a.first + a.count))

/-- A use of a task overlaps the write range of another task of its plan beam that is not ordered with it (R259). -/
def rangeClash (i : Image) (p place : Nat) (t : TaskEntry) : Bool :=
  let us := usesAt i p
  let own := us.filter (fun u => u.place == place)
  us.any (fun v => v.place != place && accWrites v.acc && !areOrdered (tasksOf i p) t v.task
    && own.any (fun u => u.acc.buoy == v.acc.buoy && meets (u.acc.first, u.acc.first + u.acc.count) (v.acc.first, v.acc.first + v.acc.count)))

/-! ## Matrix tasks (R174, R175, R189) -/

/-- The output formats that an action permits (Table 5.7). -/
def outFormats (action : Nat) : List Nat :=
  match action with
  | 1 => [0x01, 0x02, 0x03, 0x04, 0x05, 0x08, 0x09, 0x0A, 0x0B, 0x0C]
  | 2 => [0x01, 0x03, 0x05]
  | 3 => [0x01]
  | _ => [0x00]

/-- A code of Table 4.1. -/
def isFormat (code : Nat) : Bool := (elemOf code).isSome

/-- A code of an MX format. -/
def isMxFormat (code : Nat) : Bool := (elemOf code).any (·.isMx)

/-- The operand fields of a matrix task are good: with K_TILES 0 only their encodings count (R175). -/
def operandsOk (i : Image) (t : TaskEntry) : Bool :=
  let fa := payloadField t 55 48
  let fb := payloadField t 47 40
  let k := meTiles t
  if k = 0 then isFormat fa && isFormat fb
  else
    matrixClass fa == matrixClass fb
      && (matrixP (matrixClass fa) (meMode t)).any (fun p => decide (p ≤ 4 * 2 ^ payloadField t 21 20))
      && roleOk i t (11, 9) 1 (fun e => e.format == fa) (offsetLimit (payloadField t 191 160) (payloadField t 111 96) k 1)
      && roleOk i t (8, 6) 1 (fun e => e.format == fb) (offsetLimit (payloadField t 159 128) (payloadField t 95 80) k 1)

/-- The output fields of a matrix task are good. -/
def outputOk (i : Image) (t : TaskEntry) : Bool :=
  let n := meAction t
  let f := payloadField t 39 32
  (outFormats n).contains f && (!t.payload.testBit 12 || isMxFormat f)
    && (if 1 ≤ n && n ≤ 3 then
          roleOk i t (5, 3) (if n = 3 then 3 else 2) (fun e => e.format == f) (payloadField t 255 224 + 1)
            && (n == 1 || (roleAccess i t (5, 3)).any (fun x => isBuffer i x.1.buoy && x.1.budget == 0))
        else true)

/-- A matrix task descriptor is good by itself. -/
def matrixOk (i : Image) (e : EngineEntry) (t : TaskEntry) : Bool :=
  bitsZero t 215 192 && bitsZero t 16 16 && bitsZero t 2 0 && payloadField t 63 56 == 1 && meMode t != 3 && payloadField t 21 20 != 3
    && decide (meAction t ≤ 4) && payloadField t 31 24 % slotsUsed (meMode t) == 0 && operandsOk i t && outputOk i t
    && (mePolicy i t).any (fun a => a.mode == meMode t) && (meAction t != 4 || e.chain != 0xFFFF)

/-- The reduction-buffer tile that a matrix task writes. -/
def bufferTile (i : Image) (t : TaskEntry) : Option (Nat × Nat) :=
  if meAction t = 2 || meAction t = 3 then (fieldAccess i t 5 3).map (fun a => (a.buoy, a.first + payloadField t 255 224)) else none

/-- Another task of the plan beam writes the same reduction-buffer tile and is not ordered with this one (R189). -/
def bufferClash (i : Image) (p place : Nat) (t : TaskEntry) : Bool :=
  (bufferTile i t).isSome && (placedTasks i p).any (fun x => x.1 != place && (taskEngine i x.2).any (fun e => e.kind == 1)
    && bufferTile i x.2 == bufferTile i t && !areOrdered (tasksOf i p) t x.2)

/-! ## Accumulation chains (R176, R205, R216, R219) -/

/-- A set of accumulator slots in use: its engine, first slot, mode, policy, the chain's length in pairs, and its last task. -/
structure SlotUse where
  le : Nat
  first : Nat
  mode : Nat
  policy : Nat
  pairs : Nat
  last : Nat
  deriving DecidableEq, Repr

/-- A slot belongs to a set. -/
def SlotUse.has (u : SlotUse) (le slot : Nat) : Bool := u.le == le && decide (u.first ≤ slot) && decide (slot < u.first + slotsUsed u.mode)

/-- The set that a task uses, after it; none where it breaks R176 or R205. The sets of a list are whole: one that lost a slot is no longer
in it. -/
def slotUseOf (us : List SlotUse) (place : Nat) (t : TaskEntry) : Option SlotUse :=
  let a := payloadField t 31 24
  let k := meTiles t * mePasses t
  if t.payload.testBit 17 then
    some { le := t.le, first := a, mode := meMode t, policy := payloadField t 223 216, pairs := k, last := place }
  else
    (us.find? (fun u => u.le == t.le && u.first == a && u.mode == meMode t && u.policy == payloadField t 223 216)).map
      (fun u => { u with pairs := u.pairs + k, last := place })

/-- A chain breaks its policy (R216, R219). -/
def chainBad (i : Image) (u : SlotUse) (t : TaskEntry) : Bool :=
  (mePolicy i t).any (fun a => decide (a.maxChain < u.pairs)
    || (a.mode == 2 && a.budget == 3 && (!t.payload.testBit 17 || meAction t == 0)))

/-- The sets after a task's: those that share a slot with it are gone. -/
def putUse (u : SlotUse) (us : List SlotUse) : List SlotUse :=
  u :: us.filter (fun v => !(v.le == u.le && meets (v.first, v.first + slotsUsed v.mode) (u.first, u.first + slotsUsed u.mode)))

/-- The place of the first matrix task, in plan order, that breaks a chain rule. -/
def firstChain (i : Image) : List (Nat × TaskEntry) → List SlotUse → Option Nat
  | [], _ => none
  | (k, t) :: xs, us =>
    if !(taskEngine i t).any (fun e => e.kind == 1) then firstChain i xs us
    else
      match slotUseOf us k t with
      | some u => if chainBad i u t then some k else firstChain i xs (putUse u us)
      | none => some k

/-- Every task of the plan with its place, in plan order. -/
def planTasks (i : Image) : List (Nat × TaskEntry) := (List.range (planBeams i)).flatMap (placedTasks i)

/-! ## Streams (R192, R252) -/

/-- The keys that a list of keys waits for, themselves included; the fuel bounds the visits. -/
def awaitKeys (ts : List TaskEntry) : Nat → List (Nat × Nat) → List (Nat × Nat) → List (Nat × Nat)
  | 0, _, seen => seen
  | _ + 1, [], seen => seen
  | n + 1, k :: r, seen =>
    if seen.contains k then awaitKeys ts n r seen
    else awaitKeys ts n (((ts.find? (fun x => taskKey x == k)).map (waitsFor (ts.map taskKey))).getD [] ++ r) (k :: seen)

/-- The tasks that a task waits for, through dependencies and the lists of the engines it passes (R65; DEDUCED, log 48). -/
def awaits (ts : List TaskEntry) (t : TaskEntry) : List (Nat × Nat) :=
  awaitKeys ts (8 * ts.length + 8) (waitsFor (ts.map taskKey) t) []

/-- The STREAM tasks of a plan beam to a logical engine, in task order. -/
def streamsTo (i : Image) (p c : Nat) : List (Nat × TaskEntry) :=
  (placedTasks i p).filter (fun x => (taskEngine i x.2).any (fun e => e.kind == 1 && e.chain == c) && meAction x.2 == 4)

/-- The TSTREAM instructions that a vector task executes. -/
def streamTakes (i : Image) (t : TaskEntry) : Nat := programSum 0 (fun _ x => b01 (opOf x == 0x61)) (taskProgram i t)

/-- The tasks that take the stream tiles of a consumer, one for each tile, up to n tiles. -/
def takers (i : Image) (p c n : Nat) : List (Nat × TaskEntry) :=
  ((placedTasks i p).filter (fun x => x.2.le == c && (taskEngine i x.2).any (fun e => e.kind == 2))).flatMap
    (fun x => List.replicate (min n (streamTakes i x.2)) x)

/-- The place of a task by which the streams of a plan beam to an engine break R192 or R252: the k-th tile taken is the k-th tile sent. -/
def streamFaultAt (i : Image) (p c : Nat) : Option Nat :=
  let ts := tasksOf i p
  let sent := streamsTo i p c
  let taken := takers i p c (sent.length + 1)
  let late := sent.zipIdx.find? (fun x => decide (2 ≤ x.2)
    && !(taken[x.2 - 2]?).any (fun y => (awaits ts x.1.2).contains (taskKey y.2)))
  let lost := taken.zipIdx.find? (fun x => !(sent[x.2]?).any (fun y => (awaits ts x.1.2).contains (taskKey y.2)))
  leastOf (late.map (·.1.1)) (lost.map (·.1.1))

/-! ## Vector tasks (R254, R255, R259) -/

/-- A floating-point format or INT8. -/
def realFormat (code : Nat) : Bool := isFormat code && code != 0x11 && code != 0x12

/-- An ET that VLD takes of a tile of a format (R254). -/
def vldFits (et sub code : Nat) : Bool :=
  if sub = 0 then (et == 0 && realFormat code) || [(3, 0x11), (3, 0x10), (4, 0x12)].contains (et, code)
  else [(1, 0x02), (2, 0x03), (3, 0x11), (4, 0x12), (5, 0x04), (5, 0x05), (5, 0x10)].contains (et, code)

/-- An ET that VST and VLDW take of a write buffer for a buoy of a format (R255). -/
def vstFits (et code : Nat) : Bool := if realFormat code then decide (et ≤ 2) else et == 3 || et == 4

/-- The format of what read buffer b last took, in program order: an access's buoy, or FP32 of a stream. -/
def readFormat (i : Image) (t : TaskEntry) (ws : List W64) (k b : Nat) : Option Nat :=
  ((ws.take k).reverse.find? (fun x => (opOf x == 0x60 || opOf x == 0x61) && (VWord.decode x).d.toNat % 4 == b)).bind (fun x =>
    if opOf x = 0x61 then some 0x01
    else ((checkAccs i t)[(VWord.decode x).a.toNat % 8]?).bind (fun a => (buoyEntry i a.buoy).map (·.format)))

/-- The format that a write buffer is open for. -/
def writeFormat (i : Image) (t : TaskEntry) (ws : List W64) (k d : Nat) : Option Nat :=
  ((checkAccs i t)[openAccess ws k d]?).bind (fun a => (buoyEntry i a.buoy).map (·.format))

/-- A word of a task's program breaks R259. -/
def vectorWordBad (i : Image) (t : TaskEntry) (ws : List W64) (k : Nat) (x : W64) : Bool :=
  let w := VWord.decode x
  let et := w.et.toNat
  let mode := ((checkAccs i t)[w.a.toNat % 8]?).map (·.mode)
  match opOf x with
  | 0x60 => mode.isNone || mode == some 2
  | 0x63 => mode.isNone || (if w.sub = 0 then mode == some 1 else mode != some 3)
  | 0x62 => !(readFormat i t ws k (w.a.toNat % 4)).any (vldFits et w.sub.toNat)
  | 0x64 => !(writeFormat i t ws k (w.d.toNat % 4)).any (vstFits et)
  | 0x65 => !(writeFormat i t ws k (w.a.toNat % 4)).any (vstFits et)
  | _ => false

/-- A vector task descriptor is good by itself. -/
def vectorOk (i : Image) (t : TaskEntry) : Bool :=
  let ws := taskProgram i t
  bitsZero t 15 0 && decide (payloadField t 63 48 < i.update.progs.length) && !(ws.zipIdx.any (fun x => vectorWordBad i t ws x.2 x.1))

/-! ## Attention tasks (R280 to R292, Table 8.2) -/

/-- A format of Q, K, V and dO (R282). -/
def attentionIn (e : BuoyEntry) : Bool := [0x02, 0x03, 0x04, 0x05].contains e.format

/-- A format of an attention output. -/
def attentionOut (e : BuoyEntry) : Bool := [0x01, 0x02, 0x03, 0x04, 0x05].contains e.format

/-- A statistics buoy (R290). -/
def isStatistics (e : BuoyEntry) : Bool := e.format == 0x01 && vectorShaped e && e.cls == 9

/-- Both formats are FP16, or neither; and their elements have one width (R282). -/
def pairFormats (a b : Option (Access × BuoyEntry)) : Bool :=
  match a, b with
  | some x, some y => payloadLen x.2.format == payloadLen y.2.format && (x.2.format == 0x03) == (y.2.format == 0x03)
  | _, _ => false

/-- All inputs are FP16, or none is. -/
def halfAlike (xs : List (Option (Access × BuoyEntry))) : Bool :=
  xs.all (fun x => x.any (fun y => y.2.format == 0x03)) || xs.all (fun x => !x.any (fun y => y.2.format == 0x03))

/-- The block numbers of a task are at most 131 071 (R289). -/
def blocksOk (t : TaskEntry) : Bool :=
  decide (qBlock t (aeCount t - 1) ≤ 131071) && decide (kBlock t (aeCount t - 1) ≤ 131071)

/-- One more than the greatest statistics tile that a backward task names. -/
def statLimit (t : TaskEntry) : Nat := ((List.range (aeCount t)).map (fun j => statTile (aeIter t j) + 1)).foldl max 0

/-- The accesses of a forward task. -/
def forwardOk (i : Image) (t : TaskEntry) (iter : Nat → Nat) : Bool :=
  let k := blockTiles t
  let fin := aeFinish t
  roleOk i t (23, 21) 1 attentionIn (aeFix t + k) && roleOk i t (20, 18) 1 attentionIn (iter (2 * k))
    && (!fin || (roleOk i t (17, 15) 2 attentionOut (aeFix t + k) && roleOk i t (14, 12) 3 isStatistics (statTile (aeFix t) + 1)))
    && pairFormats (roleAccess i t (23, 21)) (roleAccess i t (20, 18))

/-- The accesses of a backward task. -/
def backwardOk (i : Image) (t : TaskEntry) (iter : Nat → Nat) : Bool :=
  let k := blockTiles t
  roleOk i t (23, 21) 1 attentionIn (iter k) && roleOk i t (20, 18) 1 attentionIn (aeFix t + 2 * k) && roleOk i t (17, 15) 1 attentionIn (iter k)
    && roleOk i t (14, 12) 1 isStatistics (statLimit t) && roleOk i t (11, 9) 3 (fun e => e.format == 0x01) (iter k)
    && (!aeFinish t || roleOk i t (8, 6) 2 attentionOut (aeFix t + 2 * k))
    && pairFormats (roleAccess i t (23, 21)) (roleAccess i t (20, 18)) && pairFormats (roleAccess i t (17, 15)) (roleAccess i t (20, 18))
    && halfAlike [roleAccess i t (23, 21), roleAccess i t (20, 18), roleAccess i t (17, 15)]

/-- An attention task descriptor is good by itself. -/
def attentionOk (i : Image) (t : TaskEntry) : Bool :=
  let iter := fun len => offsetLimit (payloadField t 171 152) (payloadField t 151 136) (aeCount t) len
  let op := payloadField t 40 33
  bitsZero t 2 0 && (op == 1 || op == 2) && payloadField t 29 28 != 3 && blocksOk t
    && (!t.payload.testBit 24
        || (decide (payloadField t 60 41 + aeCount t ≤ 524288) && roleOk i t (5, 3) 1 (fun e => e.format == 0x12 && vectorShaped e) 1))
    && (if op = 1 then forwardOk i t iter else backwardOk i t iter)

/-- What every task of an attention chain has in common: CTX, OPCODE, HD, FIX_T, the fixed block and the buoys (R285). -/
def chainKey (i : Image) (t : TaskEntry) : List Nat :=
  let buoy := fun f => ((roleAccess i t f).map (fun x => x.1.buoy)).getD 0
  [payloadField t 40 33, payloadField t 29 28, aeFix t, if isBwd t then kBlock t 0 else qBlock t 0, buoy (23, 21), buoy (20, 18)]
    ++ (if isBwd t then [buoy (17, 15), buoy (14, 12), buoy (11, 9)] else [])

/-- The place of the first attention task, in plan order, that breaks R285; `opened` holds the open chains by engine and context with
their keys and last tasks. -/
def firstContext (i : Image) : List (Nat × TaskEntry) → List ((Nat × Nat) × List Nat × Nat) → Option Nat
  | [], opened => opened.head?.map (fun x => x.2.2)
  | (k, t) :: xs, opened =>
    if !(taskEngine i t).any (fun e => e.kind == 3) then firstContext i xs opened
    else
      let key := (t.le, aeCtxNo t)
      let old := opened.find? (fun x => x.1 == key)
      let rest := opened.filter (fun x => x.1 != key)
      let good := if t.payload.testBit 27 then old.isNone else old.any (fun x => x.2.1 == chainKey i t)
      if !good then some k
      else firstContext i xs (if aeFinish t then rest else (key, chainKey i t, k) :: rest)

/-! ## Gather-scatter and layout tasks (R301 to R308) -/

/-- An index buoy (R301). -/
def isIndex (e : BuoyEntry) : Bool := (e.format == 0x11 || e.format == 0x12) && vectorShaped e && e.cls == 10

/-- Elements of an access's buoy lie within the access. -/
def elemsOk (i : Image) (t : TaskEntry) (f : Nat × Nat) (e n : Nat) : Bool := (roleAccess i t f).any (fun x => elemsInside x.1 e n)

/-- A gather-scatter task descriptor is good by itself. -/
def gatherOk (i : Image) (t : TaskEntry) : Bool :=
  let op := payloadField t 51 44
  let w := rowWidth t
  let n := gseCount t
  let dst := payloadField t 139 135
  bitsZero t 114 52 && bitsZero t 34 0 && (op == 1 || op == 2) && decide (payloadField t 134 131 ≤ 9)
    && roleOk i t (43, 41) 1 isIndex 0 && elemsOk i t (43, 41) (gseIdx0 t) n
    && (if op = 1 then
          dst == 0 && roleOk i t (40, 38) 1 vectorShaped 0 && roleOk i t (37, 35) 2 vectorShaped 0 && (gseRow0 t * w) % 16384 == 0
            && (n * w) % 16384 == 0
        else
          decide (1 ≤ dst) && decide (dst ≤ 16) && roleOk i t (37, 35) 1 vectorShaped 0
            && roleOk i t (40, 38) 3 (fun e => e.format == 0x01 && vectorShaped e) (payloadField t 159 140 + dst))
    && elemsOk i t (37, 35) (gseRow0 t * w) (n * w)

/-- A layout task descriptor is good by itself; SPLIT64 and JOIN64 work on matrix tiles as TRANSPOSE does (DEDUCED, log 48). -/
def layoutOk (i : Image) (t : TaskEntry) : Bool :=
  let op := lyeOp t
  let shape := fun (e : BuoyEntry) => !(op == 2 || op == 3 || op == 4) || !vectorShaped e
  let lim := fun base stride => offsetLimit base stride (lyeCount t) 1
  bitsZero t 112 0 && decide (1 ≤ op) && decide (op ≤ 5)
    && roleOk i t (121, 119) 1 shape (lim (payloadField t 255 236) (payloadField t 179 164))
    && (op != 4 || roleOk i t (118, 116) 1 shape (lim (payloadField t 235 216) (payloadField t 179 164)))
    && roleOk i t (115, 113) 2 (fun e => shape e && (!t.payload.testBit 122 || isMxFormat e.format))
        (lim (payloadField t 215 196) (payloadField t 163 148))

/-! ## Copy tasks (R576) -/

/-- The data range of a copy task in local T1. -/
def copyData (h : HostSite) (i : Image) (t : TaskEntry) : Nat × Nat :=
  (h.regionBase + copyHostOff t, copyCount t * ((roleAccess i t (54, 52)).map (fun x => buoyPitch x.2)).getD 0)

/-- The record line of a copy task, empty where it writes none. -/
def copyRecord (h : HostSite) (t : TaskEntry) : Nat × Nat := (h.regionBase + copyRecOff t, if copyRecords t then 64 else 0)

/-- Two runs share a byte, and neither is empty. -/
def runsShare (a b : Nat × Nat) : Bool := a.2 != 0 && b.2 != 0 && runsMeet a b

/-- The runs that a copy task writes. -/
def copyWrites (h : HostSite) (i : Image) (t : TaskEntry) : List (Nat × Nat) := (if copyOp t = 1 then [copyData h i t] else []) ++ [copyRecord h t]

/-- What a copy task writes overlaps a home, or a run of another copy task of its plan beam that is not ordered with it. -/
def copyClash (h : HostSite) (i : Image) (p place : Nat) (t : TaskEntry) : Bool :=
  let own := copyWrites h i t
  own.any (fun r => r.2 != 0 && overHome i r)
    || (placedTasks i p).any (fun x => x.1 != place && (taskEngine i x.2).any (fun e => e.kind == 9) && !areOrdered (tasksOf i p) t x.2
        && own.any (fun r => [copyData h i x.2, copyRecord h x.2].any (runsShare r)))

/-- A copy task descriptor is good by itself. -/
def copyOk (h : HostSite) (i : Image) (e : EngineEntry) (t : TaskEntry) : Bool :=
  let op := copyOp t
  let inside := fun (r : Nat × Nat) => r.2 == 0 || decide (r.1 + r.2 ≤ h.regionBase + regionSize h)
  bitsZero t 51 0 && (if e.unit < 4 then op == 1 else op == 2) && copyHostOff t % 64 == 0 && copyRecOff t % 64 == 0
    && inside (copyData h i t) && inside (copyRecord h t)
    && roleOk i t (54, 52) (if op = 1 then 1 else 2) (fun _ => true) (copyFirst t + copyCount t)
    && (roleAccess i t (54, 52)).any (fun x => x.1.budget == 1)

/-! ## The check -/

/-- A task breaks a rule of its engine; a task on an engine for which no chapter defines a descriptor has no valid one (DEDUCED, log 48). -/
def taskBad (h : HostSite) (i : Image) (p place : Nat) (t : TaskEntry) : Bool :=
  match taskEngine i t with
  | none => false
  | some e =>
    match e.kind with
    | 1 => !matrixOk i e t || bufferClash i p place t
    | 2 => !vectorOk i t || rangeClash i p place t
    | 3 => !attentionOk i t || rangeClash i p place t
    | 4 => !gatherOk i t || rangeClash i p place t
    | 5 => !layoutOk i t || rangeClash i p place t
    | 9 => !copyOk h i e t || copyClash h i p place t
    | _ => true

/-- The place of the first task that breaks a rule of its own engine. -/
def firstBadTask (h : HostSite) (i : Image) : Option Nat :=
  (List.range (planBeams i)).findSome? (fun p => ((placedTasks i p).find? (fun x => taskBad h i p x.1 x.2)).map (·.1))

/-- Check 0x432F: the engines that may not chain, then the first task that breaks a rule. -/
def checkTasks (h : HostSite) (i : Image) : Option CheckFail :=
  failAt 0x432F 2 i.engines (fun e => [2, 3, 4, 5, 9].contains e.kind && e.chain != 0xFFFF)
  <|> (lowest ([firstBadTask h i, firstChain i (planTasks i) [], firstContext i (planTasks i) []].filterMap id
        ++ (List.range (planBeams i)).flatMap (fun p => (List.range i.engines.length).filterMap (streamFaultAt i p)))).map
        (fun k => { event := 0x432F, part := 5, entry := k })

end Sys2Proof.Machine
end

