-- ==== Sys2Proof/Machine/CheckPlans.lean ====
section
/-! DEFINITION. The image check: the plan itself, the latest ends of its tasks and the counted draw of its beams (checks 0x4330, 0x4331
and 0x5410; R66, R69, R98, R113, R641). -/
namespace Sys2Proof.Machine

/-! ## The beam index (Table 3.7) -/

/-- The first task that a plan beam's index record should name: the records cover the tasks in order (DEDUCED, log 49). -/
def firstDue (i : Image) (p : Nat) : Nat := ((i.plans.beams.take p).map (·.count)).sum

/-- A plan beam's record is bad: the step-gate flag elsewhere than on the last alone, a reserved flag, tasks out of order, or a hold point
that the section lacks. -/
def recordBad (i : Image) (p : Nat) (r : BeamRec) : Bool :=
  r.flags.testBit 0 != (p + 1 == planBeams i) || decide (64 ≤ r.flags) || r.first != firstDue i p
    || (r.hold != 0xFFFF && decide (i.plans.holds.length ≤ r.hold))

/-! ## Task entries (Tables 3.8 and 3.9) -/

/-- A task entry's bytes hold a count out of range, or a non-zero byte that is reserved or unused. -/
def taskBytesBad (b : Bytes) : Bool :=
  let n := natAt b 8 1
  decide (4 < n) || decide (8 < natAt b 9 1) || !zeroAt b 0xA 2 || !zeroAt b (0x10 + 4 * n) (16 - 4 * n)

/-- A dependency word is bad for a task of a plan beam whose tasks have some keys. -/
def depBad (keys : List (Nat × Nat)) (t : TaskEntry) (d : Nat) : Bool :=
  match bits d 31 30 with
  | 0 =>
    let k := (bits d 29 16, bits d 15 0)
    !keys.contains k || (k.1 == t.le && decide (t.idx ≤ k.2))
  | 1 => bits d 29 22 != 0 || decide (47 < bits d 21 16) || decide (bits d 15 0 < 1) || decide (255 < bits d 15 0)
  | _ => true

/-- A task breaks the order of R98 after those before it in its plan beam. -/
def orderBad (before : List TaskEntry) (t : TaskEntry) : Bool :=
  (match before.getLast? with
    | some u => !(decide (u.le < t.le) || (u.le == t.le && decide (u.idx < t.idx)))
    | none => false)
  || t.idx != (before.filter (fun u => u.le == t.le)).length

/-- A task waits for itself, through dependencies and the lists of engines (R65). -/
def onCycle (ts : List TaskEntry) (t : TaskEntry) : Bool := (awaits ts t).contains (taskKey t)

/-- A task of a plan beam is bad beside the others. -/
def taskPlanBad (limit : Nat) (i : Image) (p : Nat) (k : Nat) (t : TaskEntry) : Bool :=
  let ts := tasksOf i p
  decide (limit ≤ t.release) || (taskEngine i t).isNone || decide (i.plans.accs.length < t.accFirst + t.accCount)
    || orderBad (ts.take k) t || t.deps.any (depBad (ts.map taskKey) t) || onCycle ts t

/-- The place of the first task of a plan beam that is bad. -/
def firstPlanTask (limit : Nat) (i : Image) (p : Nat) : Option Nat :=
  ((placedTasks i p).zipIdx.find? (fun x => taskPlanBad limit i p x.2 x.1.2)).map (·.1.1)

/-- The first task that no plan beam holds. -/
def strayTask (i : Image) : Option Nat :=
  if firstDue i (planBeams i) < i.plans.tasks.length then some (firstDue i (planBeams i)) else none

/-- The place of the first bad task; task bytes are those that the image carries. -/
def firstBadPlace (b : Bytes) (limit : Nat) (i : Image) : Option Nat :=
  lowest ([firstBad taskBytesBad (entriesOf (rawSection b 5) 64), strayTask i].filterMap id
    ++ (List.range (planBeams i)).filterMap (firstPlanTask limit i))

/-- Check 0x4330. -/
def checkPlan (b : Bytes) (t : Timing) : Option CheckFail :=
  let i := t.img
  failWhen (planBeams i == 0) 0x4330 5 noEntry
  <|> failAtPlace 0x4330 5 i.plans.beams (recordBad i)
  <|> (firstBadPlace b t.limit i).map (fun k => { event := 0x4330, part := 5, entry := k })

/-! ## Latest ends (R69, R113) -/

/-- The clocks by which a task of a plan beam can end after P − E; none where it cannot. -/
def excessOf (t : Timing) (es : List TaskEnd) (place : Nat) : Option Nat :=
  let stop := latestEnd t es place
  if t.limit < stop then some (stop - t.limit) else none

/-- The first task of a plan beam that can end late, with its excess. -/
def lateTask (t : Timing) (p : Nat) : Option (TaskEntry × Nat) :=
  let es := beamEnds t p
  (placedTasks t.img p).findSome? (fun x => (excessOf t es x.1).map (fun c => (x.2, c)))

/-- Check 0x4331, with the plan beam, the logical engine, the task index and the excess clocks. -/
def checkEnds (t : Timing) : Option CheckFail :=
  (List.range (planBeams t.img)).findSome? (fun p => (lateTask t p).map (fun x =>
    { event := 0x4331, part := 5, entry := p, more := detail [(4, p), (2, x.1.le), (2, x.1.idx), (8, x.2)] }))

/-! ## The counted draw (R641) -/

/-- k(e) in watts (Table 20.2). -/
def wattsOf (kind : Nat) : Nat :=
  match kind with
  | 1 => 45
  | 2 => 12
  | 3 => 20
  | 4 => 6
  | 5 => 4
  | _ => 0

/-- The counted clocks of a logical engine's tasks. -/
def busyClocks (es : List TaskEnd) (le : Nat) : Nat := ((es.filter (fun e => e.task.le == le)).map (·.clocks)).sum

/-- W × P of a plan beam. -/
def drawTimesPeriod (n : Nor) (t : Timing) (p : Nat) : Nat :=
  let es := beamEnds t p
  (520 + n.hostWatts + n.partnerWatts) * t.period
    + (t.img.engines.zipIdx.map (fun x => wattsOf x.1.kind * min (busyClocks es x.2) t.limit)).sum

/-- Check 0x5410, with the plan beam and the draw in whole watts. -/
def checkDraw (n : Nor) (t : Timing) : Option CheckFail :=
  ((List.range (planBeams t.img)).find? (fun p => decide (1750 * t.period < drawTimesPeriod n t p))).map (fun p =>
    { event := 0x5410, part := 5, entry := p, more := detail [(4, p), (2, drawTimesPeriod n t p / t.period)] })

end Sys2Proof.Machine
end

