-- ==== Sys2Proof/Machine/Staging.lean ====
section
/-! DEFINITION. Staging an image: the commands of IMG_CTRL, appending, arming, aborting and releasing (R83, R104 to R109, R117, R119, R123). -/
namespace Sys2Proof.Machine

/-- A command or an arm that the stage or the module state does not allow (R108). -/
def refuseStage (s : State) : State := recordImg 0x4300 [] s

/-- A command of IMG_CTRL through a port (Table 3.14). -/
def imgCommand (p : Port) (cmd : Nat) (act : State → State) (s : State) : Result := .next (regCommand p .imgCtrl cmd act s)

/-! ## Filling (R105, R106) -/

/-- The staging area opens for an image of a kind (R105, R543). -/
def beginStage (kind : StageKind) (s : State) : State :=
  if s.img.stage = .empty || s.img.stage = .failed then
    let t := dropRestore s
    { t with img := { t.img with stage := .filling, kind := kind, staging := [], load := none, checked := none, checkedDigest := [],
                                 checkedBinding := [] } }
  else refuseStage s

/-- BEGIN_FULL (R105). -/
def execBeginFull (p : Port) (s : State) : Result := imgCommand p 1 (beginStage .full) s

/-- BEGIN_DELTA (R105). -/
def execBeginDelta (p : Port) (s : State) : Result := imgCommand p 2 (beginStage .delta) s

/-- 2 GiB, the size of an area of the image store (R104). -/
def areaSize : Nat := 2147483648

/-- An append of n bytes is accepted now (R105). -/
def mayAppend (s : State) (n : Nat) : Bool :=
  s.img.stage == .filling && s.img.load.isNone && decide (s.img.staging.length + n ≤ areaSize)

/-- Bytes join the staging area. -/
def appendStage (b : Bytes) (s : State) : State := { s with img := { s.img with staging := s.img.staging ++ b } }

/-- A refused append (R105). -/
def refuseAppend (s : State) : State := recordImg 0x4303 [] s

/-- IMG_LOAD asks for a range of the host region (R105). -/
def requestLoad (v : Nat) (s : State) : State :=
  let off := bits v 63 32 * 4096
  let n := bits v 19 0 * 4096
  if mayAppend s n && decide (off + n ≤ regionSize s.host) then
    if n = 0 then s else { s with img := { s.img with load := some (off, n) } }
  else refuseAppend s

/-- IMG_LOAD (R105). -/
def execImgLoad (p : Port) (v : W64) (s : State) : Result := .next (regWrite p .imgLoad v (fun _ => 0) requestLoad s)

/-- IMG_LOAD_COMPLETE (R106): the pull ends. -/
def execImgLoadComplete (s : State) : Result :=
  .next (
    match s.img.load with
    | some (off, n) =>
      let r := t1Read (engineCode 8 9) (s.host.regionBase + off) n s
      appendStage r.1.data { r.2 with img := { r.2.img with load := none } }
    | none => s)

/-- IMG_DATA appends eight bytes, least significant first (Table 3.16). -/
def appendWord (v : Nat) (s : State) : State := if mayAppend s 8 then appendStage (leBytes 8 v) s else refuseAppend s

/-- IMG_DATA (R105). -/
def execImgData (p : Port) (v : W64) (s : State) : Result := .next (regWrite p .imgData v (fun _ => 0) appendWord s)

/-! ## CHECK and DISCARD (R108, R109) -/

/-- The set that would be live after commit: a full image, a delta merged with the live image, or the live image under new shadows. -/
def mergedSet (m : ImgState) : Image :=
  match m.kind with
  | .full => parseImage m.staging none
  | .delta => parseImage m.staging m.live
  | _ => m.live.getD (parseImage [] none)

/-- The shadows as a check begins: REGS values, and a full image's period and eclipse, reach them; a register delta has none (R102, R103). -/
def stagedRegs (m : ImgState) (r : Rws) : Rws :=
  match m.kind with
  | .full => stageShadows .full (mergedSet m) r
  | .delta => stageShadows .delta (mergedSet m) r
  | _ => r

/-- The check begins: of the shadow copies alone in EMPTY, of the image begun in FILLING; a load in progress ends (R109). -/
def startCheck (s : State) : State :=
  if s.img.stage = .empty then { s with img := { s.img with stage := .checking, kind := .regs } }
  else if s.img.stage = .filling then { s with shadow := stagedRegs s.img s.shadow, img := { s.img with stage := .checking, load := none } }
  else refuseStage s

/-- CHECK (R109). -/
def execCheck (p : Port) (s : State) : Result := imgCommand p 3 startCheck s

/-- The staged set is emptied, outside ARMED (R108, R543). -/
def discardStage (s : State) : State := if s.img.stage = .armed then refuseStage s else emptyStage (dropRestore s)

/-- DISCARD (R108). -/
def execDiscard (p : Port) (s : State) : Result := imgCommand p 5 discardStage s

/-! ## Arming and aborting (R83, R117, R119) -/

/-- The beam number under the staged period (R117). -/
def stagedBeam (s : State) : Nat := s.beam.count.toNat / beamTicks s.shadow

/-- COMMIT_BEAM of the staged image's header; a register delta has none. -/
def headerBeam (s : State) : Nat :=
  if s.img.kind = .regs then 0 else (s.img.checked.map (·.commitBeam)).getD 0

/-- The stage and the module state in which an arm is accepted: a full image in READY, a delta in RUNNING, with no release pending (R117). -/
def mayArm (s : State) : Bool :=
  s.img.stage == .checked && s.img.release.isNone
    && (if s.img.kind = .full then s.glb.state == .ready else s.glb.state == .running)

/-- The staged set is armed for a commit beam (R117). -/
def armStage (b : Nat) (s : State) : State :=
  let t := recordImg 0x0301 (detail [(8, b)]) { s with img := { s.img with
    stage := .armed, armedBeam := b, ownArm := none, voteSent := false, voteResult := none } }
  if s.img.kind = .full then setState .armed t else t

/-- A write of IMG_ARM (R83, R117, R543). -/
def requestArm (v : Nat) (s : State) : State :=
  let b := if v = 0 then headerBeam s else v
  if !mayArm s then refuseStage s
  else if s.orbit.restore = 1 then record 0x4F04 [] s
  else if headerBeam s ≠ 0 && b != headerBeam s then recordImg 0x4306 [] s
  else if b < stagedBeam s + 4 then record 0x4205 [] s
  else armStage b s

/-- IMG_ARM (R117). -/
def execImgArm (p : Port) (v : W64) (s : State) : Result := .next (regWrite p .imgArm v (fun _ => 0) requestArm s)

/-- An armed set is aborted before its vote is sent (R119). -/
def abortArm (s : State) : State :=
  if s.img.stage ≠ .armed then refuseStage s
  else if s.img.voteSent then recordImg 0x4302 [] s
  else recordImg 0x0303 [] (disarm s)

/-- ABORT (R119). -/
def execAbort (p : Port) (s : State) : Result := imgCommand p 4 abortArm s

/-! ## Release (R123) -/

/-- The cause for which a release is refused, the lowest that applies (R123, Table 18.15). -/
def releaseRefusal (b : Nat) (s : State) : Option Nat :=
  if s.glb.state ≠ .running then some 1
  else if s.img.stage = .armed then some 2
  else if s.img.release.isSome then some 3
  else if b < beamNumber s + 4 then some 4
  else none

/-- A write of IMG_RELEASE (R123). -/
def requestRelease (v : Nat) (s : State) : State :=
  let b := if v = 0 then beamNumber s + 4 else v
  match releaseRefusal b s with
  | some c => recordImg 0x4307 (detail [(1, c)]) s
  | none => { s with img := { s.img with release := some b, ownRelease := none, releaseResult := none } }

/-- IMG_RELEASE (R123). -/
def execImgRelease (p : Port) (v : W64) (s : State) : Result := .next (regWrite p .imgRelease v (fun _ => 0) requestRelease s)

end Sys2Proof.Machine
end

