-- ==== Sys2Proof/Machine/Check.lean ====
section
/-! DEFINITION. The image check as a whole (R103, R109 to R113, Table 3.12). -/
namespace Sys2Proof.Machine

/-! ## The merged set (R112) -/

/-- The binding that the check uses: found for a full image, the live one else (R113, R115). -/
def mergedBinding (s : State) : List Nat :=
  if s.img.kind = .full then (findBinding s.glb (mergedSet s.img)).getD [] else s.img.binding

/-- What the timing of a set depends on. -/
def timingOf (s : State) : Timing :=
  { img := mergedSet s.img, binding := mergedBinding s, rws := s.shadow, units := s.lpd.units.length }

/-! ## Table 3.12 in order -/

/-- The checks that a full image alone undergoes before those of its banks. -/
def checkFullStructure (s : State) (b : Bytes) (i : Image) : Option CheckFail :=
  checkPeriod s.shadow <|> checkGroup s.fab b <|> checkRank s.glb b i <|> checkRegs b <|> checkBinding s.glb b i

/-- The checks that a delta image undergoes in their place. -/
def checkDeltaStructure (s : State) (b : Bytes) (i : Image) : Option CheckFail :=
  checkBase s.img b <|> checkDeltaRules s b (s.img.live.getD i) i <|> checkRegs b

/-- The checks of the memory of a set, for every kind: 0x4325 and 0x5010 to 0x5012. -/
def checkShared (s : State) (i : Image) : Option CheckFail := checkDemand s i <|> checkHostSite s i

/-- The checks of a plan and of what it uses, from 0x4326 on. -/
def checkPlanned (s : State) (b : Bytes) (i : Image) : Option CheckFail :=
  let t := timingOf s
  checkAccesses b i <|> checkPlacement t.binding s.img.live i <|> checkDeep s.deep i <|> checkFabric s b t
    <|> checkExchange s b s.img.live t <|> checkOrbit s.host b t <|> checkPrograms i <|> checkTasks s.host i <|> checkPlan b t
    <|> checkEnds t <|> checkDraw s.nor t <|> checkHaltBound s t

/-- The check of a full image. -/
def checkFull (s : State) : Option CheckFail :=
  let b := s.img.staging
  let i := mergedSet s.img
  checkEnvelope 1 s.nor b <|> checkFullStructure s b i <|> checkBanks s.nor (mergedBinding s) b i <|> checkRoutes b i
    <|> checkBuoys s.host b i <|> checkShared s i <|> checkPlanned s b i

/-- The check of a delta image. -/
def checkDelta (s : State) : Option CheckFail :=
  let b := s.img.staging
  let i := mergedSet s.img
  checkEnvelope 2 s.nor b <|> checkDeltaStructure s b i <|> checkBanks s.nor (mergedBinding s) b i <|> checkBuoys s.host b i
    <|> checkShared s i <|> checkPlanned s b i

/-- The check of a register delta: the period and the eclipse stay, and the memory of the merged set. -/
def checkRegDelta (s : State) : Option CheckFail := failWhen (!periodKept s) 0x4318 0 0 <|> checkShared s (mergedSet s.img)

/-- The first failure of a staged set. -/
def firstFailure (s : State) : Option CheckFail :=
  match s.img.kind with
  | .full => checkFull s
  | .delta => checkDelta s
  | _ => checkRegDelta s

/-! ## The end of the check -/

/-- The code of a kind in events and in IMG_STATUS (Table 3.13). -/
def stageKindCode (k : StageKind) : Nat :=
  match k with
  | .none => 0
  | .full => 1
  | .delta => 2
  | .regs => 3

/-- The image digest of the staged bytes (R93). -/
def imageDigest (m : ImgState) : Bytes := if m.kind = .regs then [] else sha512 (m.staging.take (m.staging.length - 4096))

/-- The low 64 bits of the image digest as event 0x0300 carries them; a register delta has no image, and they are a free value (log 50). -/
def passMark (s : State) : Nat :=
  if s.img.kind = .regs then (Config.fresh s.freeCount).toNat % 2 ^ 64 else natAt (imageDigest s.img) 0 8

/-- The staged set has passed (R112). -/
def passCheck (s : State) : State :=
  let m := s.img
  let t : State := { s with
    freeCount := s.freeCount + 1
    img := { m with stage := .checked, checked := some (mergedSet m), checkedDigest := imageDigest m, checkedBinding := mergedBinding s } }
  recordImg 0x0300 (detail [(1, stageKindCode m.kind), (8, passMark s)]) t

/-- The staged set has failed a check (R112). -/
def failCheck (f : CheckFail) (s : State) : State :=
  recordImg f.event f.more { s with img := { s.img with stage := .failed, detail := (f.event, f.part, f.entry) } }

/-- The check ends in a pass or at its first failure (R112). -/
def endCheck (s : State) : State :=
  match firstFailure s with
  | some f => failCheck f s
  | none => passCheck s

/-- CHECK_COMPLETE (R112). -/
def execCheckComplete (s : State) : Result := .next (if s.img.stage = .checking then endCheck s else s)

end Sys2Proof.Machine
end

