-- ==== Sys2Proof/Machine/Keeper.lean ====
section
/-! DEFINITION. Keeper: watchdog, lockstep, shedding, transfers and firmware (R598 to R605, R608, R609). -/
namespace Sys2Proof.Machine

/-! ## Watchdog, lockstep, shedding -/

/-- Keeper runs: powered, past slot verification, not replaced by the boot ROM. -/
def keeperRuns (s : State) : Bool :=
  !s.kpr.romService &&
  match s.glb.state with
  | .off => false
  | .lantern => s.lnt.power && decide (2 ≤ s.glb.bootStage)
  | _ => true

/-- Keeper has failed: a fault in ARMED and RUNNING, whose halt sequence restarts it, and a restart at once elsewhere (R600, R601). -/
def keeperFails (code : Nat) (s : State) : State :=
  if inJob s then raiseFault code [] { s with kpr := { s.kpr with restartDue := true } }
  else record 0x5103 [] (restartKeeper s)

/-- WATCHDOG_EXPIRY (R600). -/
def execWatchdogExpiry (s : State) : Result := .next (if keeperRuns s then keeperFails 0x9100 s else s)

/-- LOCKSTEP_MISMATCH (R601). -/
def execLockstepMismatch (s : State) : Result := .next (if keeperRuns s then keeperFails 0x9101 s else s)

/-- The shed level rises by one class: from level 0 event 0x5101 carries it (R598, R599). -/
def shedMore (s : State) : State :=
  let l := min (s.kpr.shed + 1) 4
  let t : State := { s with kpr := { s.kpr with shed := l, band := 1 } }
  if s.kpr.shed = 0 then record 0x5101 (detail [(1, l)]) t else t

/-- The shed level falls by one class; its return to 0 is event 0x1101. -/
def shedLess (s : State) : State :=
  let t : State := { s with kpr := { s.kpr with shed := s.kpr.shed - 1 } }
  if s.kpr.shed = 1 then record 0x1101 [] t else t

/-- SHED_EVALUATION (R598), at the end of 16 beams: above 90 % the level rises, and each further time; below 70 % it falls for each 16
beams that the occupancy has stayed there (DEDUCED, log 17). -/
def evaluateShed (percent : Nat) (s : State) : State :=
  let t : State := { s with kpr := { s.kpr with occupancy := min percent 100 } }
  if 90 < percent then shedMore t
  else if percent < 70 then
    if s.kpr.band = 2 then shedLess t else { t with kpr := { t.kpr with band := 2 } }
  else { t with kpr := { t.kpr with band := 0 } }

/-- SHED_EVALUATION (R598). -/
def execShedEvaluation (percent : Nat) (s : State) : Result := .next (if keeperRuns s then evaluateShed percent s else s)

/-! ## Transfer commands (R602, Table 17.4) -/

/-- The states in which Table 17.4 allows an object in a direction. -/
def objectAllowed (obj : Nat) (write : Bool) (m : ModState) : Bool :=
  let always := m != .off && m != .lantern
  let quiet := m == .ready || m == .recovery
  match obj, write with
  | 1, true => always
  | 2, false => always
  | 3, false => always
  | 4, false => always
  | 5, false => always
  | 5, true => quiet
  | 6, true => quiet
  | _, _ => false

/-- A command is refused (R602). -/
def refuseXfer (s : State) : State := record 0x5104 [] s

/-- A port may give a transfer command: it owns the open transfer, if one is open; the host is not shed (R598, R602). -/
def xferPort (p : Port) (s : State) : Bool :=
  (s.kpr.xfer.owner == none || s.kpr.xfer.owner == some p) && !(p == .host && s.kpr.shed == 4)

/-- What a read object holds as its transfer opens. -/
def logObject (n : Nor) : Bytes := ((n.log.take n.unread).reverse).flatMap EvRecord.bytes

/-- SHA-512 of the enrolled moduli (Table 17.6, AUTH_DIGEST). -/
def authDigest (n : Nor) : Bytes :=
  sha512 ((List.range 8).flatMap (fun i => beBytes 512 (SMap.get n.authorities i 0)) ++ beBytes 512 (n.operator.getD 0))

/-- Bytes 0x000 to 0x1FF of an attestation report, sampled now (Table 17.6). -/
def reportBody (s : State) : Bytes :=
  let body := ascii "ATST" ++ leBytes 2 1 ++ [0, 0]
    ++ (List.range 4).flatMap (fun i => leBytes 8 (SMap.get s.kpr.nonce i 0).toNat)
    ++ leBytes 8 (readReg .glbId s).toNat ++ leBytes 8 s.nor.serial ++ leBytes 8 s.lnt.rtc.toNat ++ leBytes 8 s.beam.count.toNat
    ++ leBytes 1 (ModState.code s.glb.state) ++ leBytes 1 (b01 s.nor.active) ++ leBytes 1 s.env.rollback ++ [0]
    ++ leBytes 4 s.lnt.zeroizeCount.toNat
    ++ bytesAt (slotBytes s.nor s.nor.active) 0x18 64
    ++ bytesAt s.img.liveDigest 0 64
    ++ sha512 (s.nor.policy.getD [])
    ++ authDigest s.nor
    ++ leBytes 8 (readReg .glbDieStatus s).toNat ++ leBytes 8 (readReg .kprFw s).toNat
    ++ leBytes 8 (s.img.live.elim 0 (fun i => i.jobId.toNat))
  bytesAt body 0 512

/-- An attestation report: signed with the identity key (R609). -/
def report (s : State) : Bytes :=
  reportBody s ++ bytesAt (Config.signature s.env.deviceSecret (reportBody s) (Config.fresh s.freeCount).toNat) 0 512

/-- The contents of a read object. -/
def objectData (obj : Nat) (s : State) : Bytes :=
  match obj with
  | 2 => logObject s.nor
  | 3 => report s
  | 4 => s.nor.certs
  | 5 => s.nor.policy.getD []
  | _ => []

/-- A slot's bytes replaced. -/
def setSlot (b : Bool) (x : Bytes) (n : Nor) : Nor := if b then { n with slotB := x } else { n with slotA := x }

/-- A slot's valid bit. -/
def setValid (b v : Bool) (s : State) : State :=
  { s with kpr := if b then { s.kpr with bValid := v } else { s.kpr with aValid := v } }

/-- A firmware write opens: the inactive slot is erased. -/
def eraseInactive (s : State) : State :=
  setValid (!s.nor.active) false { s with nor := setSlot (!s.nor.active) [] s.nor }

/-- A transfer opens; its object is prepared (Table 17.14, STATE 1). -/
def openXfer (p : Port) (obj : Nat) (write : Bool) (s : State) : State :=
  let data := if write then [] else objectData obj s
  let t := if write && obj == 1 then eraseInactive s else s
  { t with
    kpr := { t.kpr with xfer := { owner := some p, object := obj, write := write, state := 1, data := data } }
    freeCount := if obj = 3 && !write then t.freeCount + 1 else t.freeCount }

/-- OPEN_READ or OPEN_WRITE (R602). The boot ROM accepts firmware writes alone (R595). -/
def tryOpen (p : Port) (obj : Nat) (write : Bool) (s : State) : State :=
  if xferPort p s && s.kpr.xfer.owner == none && objectAllowed obj write s.glb.state && (!s.kpr.romService || (obj == 1 && write))
  then openXfer p obj write s else refuseXfer s

/-- OPEN_READ (R602). -/
def execOpenRead (p : Port) (obj : Nat) (s : State) : Result :=
  .next (regCommand p .kprXferCtrl (at_ 8 (obj % 256) + 1) (tryOpen p (obj % 256) false) s)

/-- OPEN_WRITE (R602). -/
def execOpenWrite (p : Port) (obj : Nat) (s : State) : Result :=
  .next (regCommand p .kprXferCtrl (at_ 8 (obj % 256) + 2) (tryOpen p (obj % 256) true) s)

/-- The object is prepared: the transfer reads READY; a report is signed with event 0x1103. -/
def xferReady (s : State) : State :=
  let t : State := { s with kpr := { s.kpr with xfer := { s.kpr.xfer with state := 2 } } }
  if s.kpr.xfer.object = 3 then record 0x1103 [] t else t

/-- XFER_PREPARED (R602). -/
def execXferPrepared (s : State) : Result :=
  .next (if s.kpr.xfer.owner.isSome && s.kpr.xfer.state == 1 then xferReady s else s)

/-! ## Records (R605, R612) -/

/-- The magic of the signature block of Table 3.4. -/
def emsMagic : Bytes := ascii "EMSSIGN" ++ [0]

/-- A record's bytes before its signature block. -/
def recordSigned (b : Bytes) : Bytes := b.take (b.length - 4096)

/-- A record's signature block verifies for a signer. -/
def recordVerifies (modulus : Nat) (b : Bytes) : Bool :=
  4096 ≤ b.length && blockVerifies emsMagic modulus (recordSigned b) (b.drop (b.length - 4096))

/-- The operator authority has signed a record. -/
def operatorSigned (s : State) (b : Bytes) : Bool :=
  match s.nor.operator with
  | some m => recordVerifies m b
  | none => false

/-- The Basfel service authority has signed a record; its key digest is fused (R605). -/
def serviceSigned (s : State) (b : Bytes) : Bool :=
  sha512 (beBytes 512 s.env.serviceModulus) == s.env.serviceKey && recordVerifies s.env.serviceModulus b

/-- A policy record is well formed (R612). -/
def policyOk (b : Bytes) : Bool :=
  let n := natAt b 4 4
  b.length == 64 + 4 * n + 4096 && b.take 4 == ascii "ALRM" && (bytesAt b 8 56).all (· == 0)
    && (List.range n).all (fun i =>
      let l := natAt b (64 + 4 * i + 2) 1
      decide (1 ≤ l) && decide (l ≤ 3) && natAt b (64 + 4 * i + 3) 1 == 0)

/-- A record fails its verification: event 0x5105, and the transfer reads failed. -/
def recordFails (s : State) : State :=
  record 0x5105 [] { s with kpr := { s.kpr with xfer := { state := 5 } } }

/-- A written policy record: sealed where it is valid. -/
def closePolicy (b : Bytes) (s : State) : State :=
  if policyOk b && operatorSigned s b then
    record 0x1104 [] { s with nor := { s.nor with policy := some b }, kpr := { s.kpr with xfer := {} } }
  else recordFails s

/-- An authority change applied: a place enrolled or revoked, or the operator authority replaced. -/
def applyAuthority (place : Nat) (m : Option Nat) (n : Nor) : Nor :=
  if place = 8 then { n with operator := m }
  else match m with
    | some x => { n with authorities := SMap.insert n.authorities place x }
    | none => { n with authorities := SMap.erase n.authorities place }

/-- A written authority record: applied where it is valid (R605). The operator authority's own enrolment is signed by the service
authority or, as a replacement, by the operator authority it replaces. -/
def closeAuthority (b : Bytes) (s : State) : State :=
  match Config.authority b with
  | some (place, m) =>
    if (place < 8 && operatorSigned s b) || (place == 8 && (serviceSigned s b || operatorSigned s b)) then
      record 0x1104 [] { s with nor := applyAuthority place m s.nor, kpr := { s.kpr with xfer := {} } }
    else recordFails s
  | none => recordFails s

/-- Records that a read has delivered are marked read (Table 17.4). -/
def markRead (s : State) : State :=
  { s with nor := { s.nor with unread := s.nor.unread - s.kpr.xfer.position / 64 }, kpr := { s.kpr with xfer := {} } }

/-- CLOSE by the owner, in a state that allows the object. -/
def closeXfer (s : State) : State :=
  let x := s.kpr.xfer
  match x.object, x.write with
  | 2, _ => markRead s
  | 5, true => closePolicy x.data s
  | 6, true => closeAuthority x.data s
  | _, _ => { s with kpr := { s.kpr with xfer := {} } }

/-- CLOSE (R602). -/
def execClose (p : Port) (s : State) : Result :=
  .next (regCommand p .kprXferCtrl 3 (fun s =>
    if xferPort p s && s.kpr.xfer.owner == some p && objectAllowed s.kpr.xfer.object s.kpr.xfer.write s.glb.state
    then closeXfer s else refuseXfer s) s)

/-- ABORT (R602). -/
def execXferAbort (p : Port) (s : State) : Result :=
  .next (regCommand p .kprXferCtrl 4 (fun s =>
    if xferPort p s && s.kpr.xfer.owner == some p then closeTransfer s else refuseXfer s) s)

/-! ## Firmware (R595, R604) -/

/-- VERIFY_FW of the slot that is not active; a pass under the boot ROM boots again (R595). -/
def verifySlot (s : State) : State :=
  let b := !s.nor.active
  if slotValid s b then
    let t := setValid b true s
    if s.kpr.romService then resetFrom .recovery t else t
  else record 0x5105 [] (setValid b false { s with kpr := { s.kpr with xfer := { s.kpr.xfer with state := 5 } } })

/-- VERIFY_FW (R604). -/
def execVerifyFw (p : Port) (s : State) : Result :=
  .next (regCommand p .kprXferCtrl 5 (fun s => if xferPort p s && s.glb.state != .lantern then verifySlot s else refuseXfer s) s)

/-- The valid bit of a slot. -/
def slotFlag (s : State) (b : Bool) : Bool := if b then s.kpr.bValid else s.kpr.aValid

/-- ACTIVATE_FW (R604): a valid inactive slot becomes pending. -/
def execActivateFw (p : Port) (s : State) : Result :=
  .next (regCommand p .kprXferCtrl 6 (fun s =>
    if xferPort p s && s.glb.state != .lantern && !s.kpr.romService && slotFlag s (!s.nor.active)
    then { s with nor := { s.nor with pending := some (!s.nor.active) } } else refuseXfer s) s)

/-- Keeper restarts on a pending slot, on trial; the management port is unserved meanwhile (R604). -/
def switchTo (b : Bool) (s : State) : State :=
  let t := restartKeeper s
  { t with
    nor := { t.nor with pending := none }
    kpr := { t.kpr with trial := true, trialSlot := b, restarting := true } }

/-- FIRMWARE_SWITCH (R604). -/
def execFirmwareSwitch (s : State) : Result :=
  .next (match s.nor.pending with
    | some b => if fenceState s.glb.state && !s.kpr.romService && !s.kpr.trial then switchTo b s else s
    | none => s)

/-- The slot on trial passes: it is active, and the rollback counter rises to its ROLLBACK (R604). -/
def trialPasses (s : State) : State :=
  let b := s.kpr.trialSlot
  record 0x1100 (detail [(1, b01 b), (4, natAt (slotBytes s.nor b) 8 4)])
    { s with
      nor := { s.nor with active := b }
      env := { s.env with rollback := max s.env.rollback (natAt (slotBytes s.nor b) 0x0C 1) }
      kpr := { s.kpr with trial := false, restarting := false } }

/-- The slot on trial fails: RECOVERY, the previous slot stays active, event 0x5102, and a module reset (R604). -/
def trialFails (s : State) : State :=
  resetFrom .recovery (record 0x5102 [] (ensureRecovery .firmwareTrial { s with kpr := { s.kpr with trial := false } }))

/-- FIRMWARE_TRIAL (R604). -/
def execFirmwareTrial (ok : Bool) (s : State) : Result :=
  .next (if s.kpr.trial then (if ok then trialPasses s else trialFails s) else s)

/-! ## KPR_XFER_DATA (R603) -/

/-- A port's read of KPR_XFER_DATA: the next 8 bytes of the read object, or 0 with event 0x5106 (R603). -/
def xferRead (p : Port) (s : State) : W64 × State :=
  let x := s.kpr.xfer
  if x.owner = some p && x.position < xferLength x then
    (w64 (leNat (bytesAt x.data x.position 8)), { s with kpr := { s.kpr with xfer := { x with position := x.position + 8 } } })
  else (0, record 0x5106 [] s)

/-- Keeper drains the buffer. -/
def drain (s : State) : State :=
  { s with
    kpr := { s.kpr with xfer := { s.kpr.xfer with undrained := s.kpr.xfer.undrained - 8 * (Config.drained (s.freeCount + 1)).toNat } }
    freeCount := s.freeCount + 1 }

/-- The capacity of a firmware slot (Table 17.1). -/
def slotCapacity : Nat := 16 * 2 ^ 20

/-- Bytes of a firmware write reach the slot that is not active. -/
def appendSlot (v : W64) (s : State) : State :=
  let b := !s.nor.active
  { s with nor := setSlot b ((slotBytes s.nor b ++ leBytes 8 v.toNat).take slotCapacity) s.nor }

/-- Eight bytes are appended to the buffer of a write (R603). -/
def xferAppend (v : W64) (s : State) : State :=
  let x := s.kpr.xfer
  let t : State := { s with kpr := { s.kpr with xfer := { x with
    state := 3, position := (x.position + 8) % 2 ^ 32, undrained := x.undrained + 8,
    data := if x.object = 1 then [] else x.data ++ leBytes 8 v.toNat } } }
  if x.object = 1 then appendSlot v t else t

/-- A write with no space: event 0x5106, or a NACK over I3C (R603). -/
def xferFull (p : Port) (s : State) : State :=
  if p = .mgmt then { s with out := .nack :: s.out } else record 0x5106 [] s

/-- A port's write of KPR_XFER_DATA (R603). -/
def xferWrite (p : Port) (v : W64) (s : State) : State :=
  let t := drain s
  if t.kpr.xfer.owner = some p && xferSpace t.kpr.xfer ≠ 0 then xferAppend v t else xferFull p t

/-- The offset of KPR_XFER_DATA. -/
def xferDataOffset : Nat := 0x0A00030

/-- A port's read is taken: the host is served, or the target answers (R658). -/
def readServed (p : Port) (s : State) : Bool :=
  match p with
  | .host => hostServed s
  | .mgmt => mgmtServed s

/-- KPR_XFER_DATA read (R603). -/
def execKprXferDataRead (p : Port) (s : State) : Result :=
  .next (if readServed p s then
      { (xferRead p s).2 with out := .csr p xferDataOffset (xferRead p s).1 :: (xferRead p s).2.out }
    else if p = .mgmt then { s with out := .nack :: s.out }
    else s)

/-- KPR_XFER_DATA write (R603). -/
def execKprXferDataWrite (p : Port) (v : W64) (s : State) : Result :=
  .next (regWrite p .kprXferData v (fun _ => 0) (fun _ s => xferWrite p v s) s)

end Sys2Proof.Machine
end

