-- ==== Sys2Proof/Machine/HostSite.lean ====
section
/-! DEFINITION. The host site: firewall, host region, aperture, root ports, host-site link and HOST_LOST recovery (chapter 16). -/
namespace Sys2Proof.Machine

/-! ## The firewall (R582 to R584) -/

/-- The first of a requester's 32 windows (Table 16.11). -/
def firstWindow (who : Nat) : Nat := if who = 2 then 32 else 0

/-- A window grants a kind of access to a line (R583, Tables 16.31 and 16.32). -/
def windowGrants (r : Rws) (n : Nat) (write : Bool) (line : Nat) : Bool :=
  let range := (SMap.get r.fwlRange n 0).toNat
  let perm := (SMap.get r.fwlPerm n 0).toNat
  perm.testBit 2 && perm.testBit (if write then 1 else 0)
    && decide (bits range 28 0 ≤ line / 1024) && decide (line / 1024 ≤ bits range 60 32)

/-- A requester may access a line: one of its windows grants it (R583). -/
def lineAllowed (r : Rws) (who : Nat) (write : Bool) (line : Nat) : Bool :=
  (List.range 32).any (fun k => windowGrants r (firstWindow who + k) write line)

/-- The first line of an access that no window grants. -/
def firstBarred (r : Rws) (who : Nat) (write : Bool) (a n : Nat) : Option Nat :=
  (linesOf a n).find? (fun x => !lineAllowed r who write x)

/-- A violation: counted, latched, and recorded for the requester's first in this signalling period (R584). -/
def violate (who : Nat) (write : Bool) (line : Nat) (s : State) : State :=
  let h := s.host
  let t : State := { s with host := { h with
    violations := satAdd 32 h.violations 1, thisSecond := satAdd 32 h.thisSecond 1,
    fwlLast := w64 (at_ 61 who + at_ 60 (b01 write) + line * 64 % 2 ^ 45),
    violated := if h.violated.contains who then h.violated else who :: h.violated } }
  if h.violated.contains who then t else record 0x5001 (detail [(1, who), (1, b01 write), (8, line * 64)]) t

/-- All-ones bytes. -/
def ones (n : Nat) : Bytes := List.replicate n 0xFF

/-! ## CXL.mem (R549, R584, R658) -/

/-- The host reads a line of the host region. -/
def memRead (line : Nat) (s : State) : State :=
  let a := s.host.regionBase + 64 * line
  if s.glb.state = .hostLost then { s with out := .memData line (ones 64) true :: s.out }
  else
    match firstBarred s.live 0 false a 64 with
    | some x => let t := violate 0 false x s
      { t with out := .memData line (ones 64) true :: t.out }
    | none => let r := t1Read (requesterCode 0) a 64 s
      { r.2 with out := .memData line r.1.data r.1.poison :: r.2.out }

/-- The HDM decoder covers a line: it lies in the host region (R549). -/
def hdmCovers (s : State) (line : Nat) : Bool := decide (64 * line + 64 ≤ regionSize s.host)

/-- CXL_MEM_READ (R549). -/
def execCxlMemRead (line : Nat) (s : State) : Result :=
  .next (if hostServed s && hdmCovers s line then memRead line s else s)

/-- The bytes of a write that its byte mask enables, in T1; the host's own lines need no back-invalidate. -/
def maskedStore (a : Nat) (mask : Nat) (data : Bytes) (l : Lpd) : Lpd :=
  (List.range 64).foldl (fun l k => if mask.testBit k then t1Store l (a + k) [data.getD k 0] none else l) l

/-- The host writes a line of the host region (R397, R549). -/
def memWrite (line : Nat) (mask : W64) (data : Bytes) (s : State) : State :=
  let a := s.host.regionBase + 64 * line
  if s.glb.state = .hostLost then s
  else
    match firstBarred s.live 0 true a 64 with
    | some x => violate 0 true x s
    | none => { s with lpd := maskedStore a mask.toNat data s.lpd }

/-- CXL_MEM_WRITE (R549): the controller has accepted the write, then it completes. -/
def execCxlMemWrite (line : Nat) (mask : W64) (data : Bytes) (s : State) : Result :=
  .next (if hostServed s && hdmCovers s line then
      { memWrite line mask data s with out := .memDone line :: (memWrite line mask data s).out }
    else s)

/-! ## The aperture (R553 to R556) -/

/-- A site's aperture requests reach the device (R658). -/
def siteServed (site : Site) (s : State) : Bool :=
  match site with
  | .host => hostServed s
  | .partner => s.host.partnerUp && (hostServed { s with host := { s.host with hostUp := true } })

/-- The code of a site as a firewall requester (Table 16.11). -/
def siteRequester : Site → Nat
  | .host => 1
  | .partner => 2

/-- The code of a site in event 0x5006. -/
def siteCode : Site → Nat
  | .host => 0
  | .partner => 1

/-- The local offset of an aperture offset (R553). -/
def apertureAt (s : State) (off : Nat) : Nat := bits s.host.aperture.toNat 12 0 * 2 ^ 32 + off

/-- The image store: the 4 GiB below T1_CAP as the module reset fixed it, directly above the host region (R24, R548). -/
def imageStore (h : HostSite) : Nat × Nat := (h.regionBase + regionSize h, h.regionBase + regionSize h + 4 * 2 ^ 30)

/-- The aperture does not reach an access: the host region, the image store, or unbacked (R553). -/
def apertureBarred (s : State) (a n : Nat) : Bool :=
  !backed s.lpd a n || meets (a, a + n) (s.host.regionBase, (imageStore s.host).2)

/-- An access through the aperture is refused with event 0x5006. -/
def refuseAperture (site : Site) (off : Nat) (s : State) : State := record 0x5006 (detail [(1, siteCode site), (8, off)]) s

/-- The read buffer of a site. -/
def apertureBuf (s : State) : Site → List (Nat × Bytes × Bool)
  | .host => s.host.bufHost
  | .partner => s.host.bufPartner

/-- The read buffer of a site replaced. -/
def setApertureBuf (site : Site) (b : List (Nat × Bytes × Bool)) (s : State) : State :=
  match site with
  | .host => { s with host := { s.host with bufHost := b } }
  | .partner => { s with host := { s.host with bufPartner := b } }

/-- The lines that a read buffer holds (R554). -/
def bufLines : Nat := 1024

/-- A line placed in a site's buffer; which line a full buffer gives up is open, so it is a free value (R554). -/
def bufferLine (site : Site) (x : Nat × Bytes × Bool) (s : State) : State :=
  let b := (apertureBuf s site).filter (fun y => y.1 != x.1)
  if b.length < bufLines then setApertureBuf site (x :: b) s
  else setApertureBuf site (x :: b.eraseIdx (Config.replaced (s.freeCount + 1)).val) { s with freeCount := s.freeCount + 1 }

/-- A line fetched into a site's buffer (R397, R554). -/
def fetchLine (site : Site) (line : Nat) (s : State) : State :=
  let r := t1Read (requesterCode (siteCode site)) (line * 64) 64 s
  bufferLine site (line, r.1.data, r.1.poison) r.2

/-- A line prefetched, where the site may read it and the buffer does not hold it. -/
def prefetchLine (site : Site) (s : State) (line : Nat) : State :=
  if apertureBarred s (line * 64) 64 || !lineAllowed s.live (siteRequester site) false line
      || (apertureBuf s site).any (fun y => y.1 == line) then s
  else fetchLine site line s

/-- A line of an aperture read: from the buffer, or fetched, with up to 16 following lines (R554). -/
def apertureLine (site : Site) (line : Nat) (s : State) : (Bytes × Bool) × State :=
  match (apertureBuf s site).find? (fun y => y.1 == line) with
  | some y => (y.2, s)
  | none =>
    let t := fetchLine site line { s with freeCount := s.freeCount + 1 }
    let x := (((apertureBuf t site).find? (fun y => y.1 == line)).map (·.2)).getD ([], false)
    (x, (List.range (Config.prefetched (s.freeCount + 1)).val).foldl (fun s k => prefetchLine site s (line + 1 + k)) t)

/-- The lines of an aperture read in turn. -/
def apertureLines (site : Site) : List Nat → State → (Bytes × Bool) × State
  | [], s => (([], false), s)
  | x :: xs, s =>
    let r := apertureLine site x s
    let q := apertureLines site xs r.2
    ((r.1.1 ++ q.1.1, r.1.2 || q.1.2), q.2)

/-- A read through the aperture (R553, R554, R584, R658). -/
def readAperture (site : Site) (off n : Nat) (s : State) : State :=
  let a := apertureAt s off
  if s.glb.state = .hostLost ∨ apertureBarred s a n = true then
    let t := refuseAperture site off s
    { t with out := .apertureData site (ones n) false false :: t.out }
  else
    match firstBarred s.live (siteRequester site) false a n with
    | some x =>
      let t := violate (siteRequester site) false x s
      { t with out := .apertureData site (ones n) false true :: t.out }
    | none =>
      let r := apertureLines site (linesOf a n) s
      { r.2 with out := .apertureData site ((r.1.1.drop (a % 64)).take n) r.1.2 false :: r.2.out }

/-- An access lies in BAR2 (Table 16.2). -/
def inBar2 (off n : Nat) : Bool := n != 0 && decide (off + n ≤ 2 ^ 32)

/-- APERTURE_READ (R554). -/
def execApertureRead (site : Site) (off len : Nat) (s : State) : Result :=
  .next (if siteServed site s && inBar2 off len then readAperture site off len s else s)

/-! ## Landing windows as their writers meet them (R564, R566, R660) -/

/-- A window's span and producer: as it was locked, else as it is set; none where it is disabled. -/
def windowNow (s : State) (n : Nat) : Option (Nat × Nat × Nat) :=
  match SMap.find? s.host.locked n with
  | some w => some (w.base, w.size, w.producer)
  | none => if winEnabled s.live n then some (winBase s.live n, winSize s.live n, winProducer s.live n) else none

/-- The window that a line lies in, with its span and producer. -/
def windowOf (s : State) (line : Nat) : Option (Nat × Nat × Nat × Nat) :=
  ((List.range 16).filterMap (fun n => (windowNow s n).map (fun w => (n, w)))).find?
    (fun x => decide (x.2.1 ≤ line * 64) && decide (line * 64 < x.2.1 + x.2.2.1))

/-- What a landing window says of a line of a write. -/
inductive WindowSays where
  /-- the line lies in no window -/
  | outside
  /-- the producer's write to a window that is not locked -/
  | allowed
  /-- the producer's write to a locked window -/
  | locked (n : Nat)
  /-- a firewall violation (R564) -/
  | barred
  deriving DecidableEq, Repr

/-- A write of bytes [a, a + n) by a root port (1 or 2), or by another agent (0), as the window of one of its lines takes it: no one
but the producer writes a window, and not its record line's bytes 0x08 to 0x3F (R564). -/
def windowSays (s : State) (producer a n line : Nat) : WindowSays :=
  match windowOf s line with
  | none => .outside
  | some (w, base, size, p) =>
    let rec_ := recordLine base size
    if p ≠ producer ∨ (line * 64 = rec_ ∧ a < rec_ + 64 ∧ rec_ + 8 < a + n) then .barred
    else if (SMap.find? s.host.locked w).isSome then .locked w
    else .allowed

/-- The first line of a write that the firewall or a landing window bars (R564, R583). -/
def firstRefused (s : State) (who producer a n : Nat) : Option Nat :=
  (linesOf a n).find? (fun x =>
    match windowSays s producer a n x with
    | .outside => !lineAllowed s.live who true x
    | .barred => true
    | _ => false)

/-- The locked windows that a write touches. -/
def lockedTouched (s : State) (producer a n : Nat) : List Nat :=
  ((linesOf a n).filterMap (fun x =>
    match windowSays s producer a n x with
    | .locked w => some w
    | _ => none)).eraseDups

/-- A write to a locked window has no effect; the first of each lock is recorded (R566). -/
def dropWrite (s : State) (n : Nat) : State :=
  match SMap.find? s.host.locked n with
  | some w =>
    if w.dropped then s
    else record 0x5005 (detail [(1, n)]) { s with host := { s.host with locked := SMap.insert s.host.locked n { w with dropped := true } } }
  | none => s

/-- A write of an agent outside the device's own work: barred, dropped or performed (R397, R564, R566, R584). -/
def guardedWrite (who producer a : Nat) (data : Bytes) (act : State → State) (s : State) : State :=
  match firstRefused s who producer a data.length with
  | some x => violate who true x s
  | none =>
    match lockedTouched s producer a data.length with
    | [] => act (t1Write a data none s)
    | ws => ws.foldl dropWrite s

/-- The lines of a write leave the read buffers of both sites (R556). -/
def dropBuffered (a n : Nat) (s : State) : State :=
  let keep (b : List (Nat × Bytes × Bool)) := b.filter (fun y => !(linesOf a n).contains y.1)
  { s with host := { s.host with bufHost := keep s.host.bufHost, bufPartner := keep s.host.bufPartner } }

/-- A write through the aperture (R553, R556, R584, R658). -/
def writeAperture (site : Site) (off : Nat) (data : Bytes) (s : State) : State :=
  let a := apertureAt s off
  if s.glb.state = .hostLost ∨ inJob s = true ∨ apertureBarred s a data.length = true then refuseAperture site off s
  else guardedWrite (siteRequester site) 0 a data (dropBuffered a data.length) s

/-- APERTURE_WRITE (R556). -/
def execApertureWrite (site : Site) (off : Nat) (data : Bytes) (s : State) : Result :=
  .next (if siteServed site s && inBar2 off data.length then writeAperture site off data s else s)

/-- A drain counted at its site. -/
def countDrain (site : Site) (s : State) : State :=
  match site with
  | .host => { s with host := { s.host with drainsHost := satAdd 32 s.host.drainsHost 1 } }
  | .partner => { s with host := { s.host with drainsPartner := satAdd 32 s.host.drainsPartner 1 } }

/-- Drains of a site. -/
def drainsOf (s : State) : Site → Nat
  | .host => s.host.drainsHost
  | .partner => s.host.drainsPartner

/-- A read of APERTURE_DRAIN through a site empties that site's buffer (R555, Table 16.15). -/
def drainAperture (site : Site) (s : State) : W64 × State :=
  let t := countDrain site (setApertureBuf site [] s)
  (w64 (at_ 32 (drainsOf t site) + (apertureBuf s site).length), t)

/-- APERTURE_DRAIN (R555). -/
def execApertureDrain (site : Site) (s : State) : Result :=
  .next (if siteServed site s then
      { (drainAperture site s).2 with out := .drained site (drainAperture site s).1 :: (drainAperture site s).2.out }
    else s)

/-! ## Root ports (R557 to R562) -/

/-- A root port's link. -/
def rootPort (s : State) (port : Nat) : PortLink := if port = 0 then s.host.port0 else s.host.port1

/-- A root port's link changed. -/
def updPort (port : Nat) (f : PortLink → PortLink) (s : State) : State :=
  if port = 0 then { s with host := { s.host with port0 := f s.host.port0 } }
  else { s with host := { s.host with port1 := f s.host.port1 } }

/-- An inbound request receives Unsupported Request (R558). -/
def inboundUnsupported (s : State) (addr n : Nat) : Bool := decide (2 ^ 45 ≤ addr) || !backed s.lpd addr n

/-- A peer's read (R558, R584). -/
def readInbound (port addr n : Nat) (s : State) : State :=
  if inboundUnsupported s addr n then { s with out := .unsupported port :: s.out }
  else
    match firstBarred s.live (3 + port) false addr n with
    | some x =>
      let t := violate (3 + port) false x s
      { t with out := .peerData port (ones n) false true :: t.out }
    | none =>
      let r := t1Read (requesterCode 2) addr n s
      { r.2 with out := .peerData port r.1.data r.1.poison false :: r.2.out }

/-- INBOUND_READ (R559). -/
def execInboundRead (port : Fin 2) (addr len : Nat) (s : State) : Result :=
  .next (if (rootPort s port.val).up then readInbound port.val addr len s else s)

/-- INBOUND_WRITE (R558, R564, R566). -/
def execInboundWrite (port : Fin 2) (addr : Nat) (data : Bytes) (s : State) : Result :=
  .next (
    if !(rootPort s port.val).up then s
    else if inboundUnsupported s addr data.length then { s with out := .unsupported port.val :: s.out }
    else guardedWrite (3 + port.val) (port.val + 1) addr data id s)

/-- The bus address and the port of a BAR4 offset (R560). -/
def bar4At (off : Nat) : Nat × Nat := (off / 2 ^ 29, 0x200000000000 + off % 2 ^ 29)

/-- A host access through BAR4 passes to the peer; a read returns what the peer answers. -/
def accessPeer (off : Nat) (data : Option Bytes) (reply : Bytes) (s : State) : State :=
  let p := bar4At off
  let up := (rootPort s p.1).up
  let t : State := if up then { s with out := .peerAccess p.1 p.2 data :: s.out } else s
  match data with
  | some _ => t
  | none => { t with out := .bar4Data (if up then reply else ones reply.length) :: t.out }

/-- BAR4_ACCESS (R560). -/
def execBar4Access (off : Nat) (data : Option Bytes) (reply : Bytes) (s : State) : Result :=
  .next (if hostServed s && decide (off < 2 ^ 30) then accessPeer off data reply s else s)

/-- The root port that APT_CFG_ADDR names (Table 16.19). -/
def cfgPort (s : State) : Nat := bits s.host.cfgAddr.toNat 28 28

/-- APT_CFG_DATA after a configuration access: its data, or all ones and FAILED (Table 16.20). -/
def noteCfg (r : Option W32) (s : State) : State :=
  { s with host := { s.host with cfgData := r.getD 0xFFFFFFFF, cfgFailed := r.isNone } }

/-- A configuration request leaves where the port's link is up. -/
def sendCfg (data : Option W32) (s : State) : State :=
  if (rootPort s (cfgPort s)).up then { s with out := .cfgAccess s.host.cfgAddr data :: s.out } else s

/-- A configuration read at APT_CFG_ADDR: the register's value afterwards (R560). -/
def cfgRead (reply : Option W32) (s : State) : W64 × State :=
  let t := noteCfg (if (rootPort s (cfgPort s)).up then reply else none) (sendCfg none s)
  (w64 (at_ 32 (b01 t.host.cfgFailed) + t.host.cfgData.toNat), t)

/-- The offset of APT_CFG_DATA. -/
def cfgDataOffset : Nat := 0xD00048

/-- A read of APT_CFG_DATA over a port (R560). -/
def execAptCfgDataRead (p : Port) (reply : Option W32) (s : State) : Result :=
  .next (match writePath p .aptCfgData 0 s with
    | .open => { (cfgRead reply s).2 with out := .csr p cfgDataOffset (cfgRead reply s).1 :: (cfgRead reply s).2.out }
    | .nack => { s with out := .nack :: s.out }
    | .silent => if p = .mgmt then { s with out := .csr p cfgDataOffset 0 :: s.out } else s
    | .event _ _ => s)

/-- A configuration write at APT_CFG_ADDR (R560). -/
def cfgWrite (x : Nat) (ok : Bool) (s : State) : State :=
  let d : W32 := BitVec.ofNat 32 x
  noteCfg (if ok && (rootPort s (cfgPort s)).up then some d else none) (sendCfg (some d) s)

/-- APT_CFG_DATA written (R560). -/
def execAptCfgDataWrite (p : Port) (v : W64) (ok : Bool) (s : State) : Result :=
  .next (regWrite p .aptCfgData v (fun _ => 0) (fun x s => cfgWrite x ok s) s)

/-- ROOT_PORT_LINK_DOWN (R562): cause 2 is an uncorrectable error, any other a link that went down; the link has trained again. -/
def execRootPortLinkDown (port : Fin 2) (cause : Nat) (s : State) : Result :=
  .next (if (rootPort s port.val).up then
      record 0x5007 (detail [(1, port.val), (1, if cause = 2 then 2 else 1)])
        (updPort port.val (fun p => { p with errors := satAdd 16 p.errors 1 }) s)
    else s)

/-! ## The host-site link (R587, R588) -/

/-- HOST_LOST can be entered (Table 1.8), and has not arisen yet. -/
def mayLoseHost (s : State) : Bool :=
  (s.glb.state == .ready || s.glb.state == .halted || inJob s) && s.glb.hostLostAtHalt.isNone

/-- The host-site link is down. -/
def hostLinkDown (cause : Nat) (s : State) : State :=
  let t : State := { s with host := { s.host with hostUp := false } }
  if mayLoseHost s then loseHost cause t else t

/-- HOST_LINK_TIMEOUT (R588). -/
def execHostLinkTimeout (s : State) : Result := .next (if s.host.hostUp then hostLinkDown 1 s else s)

/-- HOST_DIE_RESET (R588). -/
def execHostDieReset (s : State) : Result := .next (if s.host.hostUp then hostLinkDown 2 s else s)

/-- The host-site link has a die to train with: the module is powered past boot stage 0x06. -/
def hostTrains (s : State) : Bool :=
  s.glb.state != .off && s.glb.state != .lantern && (s.glb.state != .recovery || s.glb.bootStage == 0 || decide (6 ≤ s.glb.bootStage))

/-- HOST_LINK_RETRAIN (R587): RETRAINS, and event 0x1000 with the duration in microseconds. -/
def execHostLinkRetrain (micros : Nat) (s : State) : Result :=
  .next (if hostTrains s then
      record 0x1000 (detail [(4, micros)]) { s with host := { s.host with hostUp := true, retrains := satAdd 16 s.host.retrains 1 } }
    else s)

/-! ## RECLAIM and SCRUB (R590) -/

/-- A command of APT_HOST_CMD: outside HOST_LOST it has no effect but event 0x5008. -/
def hostCommand (act : State → State) (s : State) : State := if s.glb.state = .hostLost then act s else record 0x5008 [] s

/-- The memories leave self-refresh as the module leaves HOST_LOST (R402). -/
def wakeMemory (s : State) : State := { s with lpd := { s.lpd with selfRefresh := false } }

/-- RECLAIM: RECOVERY, T1 kept. -/
def reclaimHost (s : State) : State := enterRecoveryFor .reclaim (wakeMemory s)

/-- SCRUB: RECOVERY, SCRUB_BUSY while the memories are cleared. -/
def scrubHost (s : State) : State :=
  enterRecoveryFor .scrub (wakeMemory { s with host := { s.host with scrubBusy := true } })

/-- A write of APT_HOST_CMD. -/
def hostControl (x : Nat) (s : State) : State :=
  match bits x 7 0 with
  | 1 => hostCommand reclaimHost s
  | 2 => hostCommand scrubHost s
  | _ => s

/-- RECLAIM (R590). -/
def execReclaim (p : Port) (s : State) : Result := .next (regWrite p .aptHostCmd 1 (fun _ => 0) hostControl s)

/-- SCRUB (R590). -/
def execScrub (p : Port) (s : State) : Result := .next (regWrite p .aptHostCmd 2 (fun _ => 0) hostControl s)

/-- Zero in all backed T1 and every tile store (R590). -/
def scrubMemories (s : State) : State :=
  zeroT1 { s with tst := SMap.mapAll s.tst {} (fun x => { x with cells := [], undef := [], save := [] }) }

/-- A root port's link trains again, as it had trained before. -/
def PortLink.retrained (p : PortLink) : PortLink := { p with up := p.width != 0 }

/-- The root ports retrain (R590). -/
def retrainRootPorts (s : State) : State :=
  { s with host := { s.host with port0 := PortLink.retrained s.host.port0, port1 := PortLink.retrained s.host.port1 } }

/-- READY after RECLAIM or SCRUB: JOIN first, event 0x1001 (R568, R590). -/
def hostRecovered (cmd : Nat) (s : State) : State :=
  let t : State := { s with host := { s.host with scrubBusy := false }, glb := { s.glb with recovery := .none } }
  record 0x1001 (detail [(1, cmd)]) (enterReady (retrainRootPorts (sendJoin t)))

/-- RECOVERY_COMPLETE (R590). -/
def execRecoveryComplete (s : State) : Result :=
  .next (
    match s.glb.state, s.glb.recovery with
    | .recovery, .reclaim => hostRecovered 1 s
    | .recovery, .scrub => hostRecovered 2 (scrubMemories s)
    | _, _ => s)

end Sys2Proof.Machine
end

