-- ==== Sys2Proof/Machine/Service.lean ====
section
/-! DEFINITION. Service commands, the end of the halt sequence, engine faults, MSI-X periods and telemetry (chapter 18, R585). -/
namespace Sys2Proof.Machine

/-! ## GLB_SERVICE (R628, Table 18.5) -/

/-- A service command is refused (R628). -/
def refuseService (cmd : Nat) (s : State) : State := record 0x5200 (detail [(1, cmd)]) s

/-- A service command of a port: performed where the state allows it, refused otherwise. -/
def service (p : Port) (cmd arg : Nat) (allowed : State → Bool) (act : State → State) (s : State) : State :=
  regCommand p .glbService (at_ 32 (arg % 2 ^ 32) + cmd) (fun s => if allowed s then act s else refuseService cmd s) s

/-- ENTER_RECOVERY: at once, or at the halt tick of the halt it raises. -/
def commandRecovery (s : State) : State :=
  if inJob s then raiseHalt { s with glb := { s.glb with recoveryAtHalt := true } } else enterRecoveryFor .service s

/-- ENTER_RECOVERY (R628). -/
def execEnterRecovery (p : Port) (s : State) : Result :=
  .next (service p 1 0 (fun s => s.glb.state != .off && s.glb.state != .lantern && s.glb.state != .recovery) commandRecovery s)

/-- LEAVE_RECOVERY (R628): READY without a module reset. -/
def execLeaveRecovery (p : Port) (s : State) : Result :=
  .next (service p 2 0 (fun s => s.glb.state == .recovery && s.glb.recovery == .service)
    (fun s => enterReady { s with glb := { s.glb with recovery := .none } }) s)

/-- A fence command names a die, outside OFF and LANTERN. -/
def fenceAllowed (die : Nat) (s : State) : Bool := decide (die < 8) && s.glb.state != .off && s.glb.state != .lantern

/-- A fence change of a die by its number. -/
def askFence (k : FenceKind) (die : Nat) (s : State) : State := requestFence ⟨Fin.ofNat 8 die, k⟩ s

/-- FENCE_ENGINE (R628, R31). -/
def execFenceEngine (p : Port) (die : Nat) (s : State) : Result :=
  .next (service p 3 die (fenceAllowed die) (askFence .engine die) s)

/-- FENCE_FULL (R628, R31). -/
def execFenceFull (p : Port) (die : Nat) (s : State) : Result :=
  .next (service p 4 die (fenceAllowed die) (askFence .full die) s)

/-- UNFENCE (R628, R31). -/
def execUnfence (p : Port) (die : Nat) (s : State) : Result :=
  .next (service p 5 die (fenceAllowed die) (askFence .lift die) s)

/-- CLEAR_RETIRED names a part: unit, bank or channel. -/
def retiredPartOk (arg : Nat) : Bool :=
  let n := bits arg 15 0
  match bits arg 31 24 with
  | 0 => decide (n < 256)
  | 1 => decide (n < 8 * 32 + 16)
  | 2 => decide (n < 16)
  | _ => false

/-- The retirement record of a part is cleared; the part stays out of service until the next module reset (Table 18.5). -/
def clearRecord (arg : Nat) (s : State) : State :=
  let n := bits arg 15 0
  match bits arg 31 24 with
  | 0 => { s with nor := { s.nor with retiredUnits := s.nor.retiredUnits.filter (· != n), trained := s.nor.trained.filter (· != n) } }
  | 1 =>
    if s.nor.retiredBanks.contains n then
      { s with nor := { s.nor with retiredBanks := s.nor.retiredBanks.filter (· != n), clearedBanks := n :: s.nor.clearedBanks } }
    else s
  | _ => { s with nor := { s.nor with retiredChannels := s.nor.retiredChannels.filter (· != n) } }

/-- CLEAR_RETIRED (R628). -/
def execClearRetired (p : Port) (arg : Nat) (s : State) : Result :=
  .next (service p 6 arg (fun s => fenceState s.glb.state && retiredPartOk (arg % 2 ^ 32)) (clearRecord (arg % 2 ^ 32)) s)

/-! ## The end of the halt sequence (R20, R624, R625) -/

/-- Spare lanes of a group already in use (R18). -/
def sparesUsed (n : Nor) (p : DiePort) (g : Nat) : Nat := (n.laneMaps.filter (fun x => x.1 == p && x.2.1 == g)).length

/-- A failed lane of a port that trains: a spare is switched in, while the group has one of its four left (R18, R20). -/
def repairLane (x : DiePort × Nat × Nat) (s : State) : State :=
  if sparesUsed s.nor x.1 x.2.1 < 4 then { s with nor := { s.nor with laneMaps := s.nor.laneMaps ++ [x] } } else s

/-- The die that is fenced when a port cannot be repaired (R30); for a ring port the die it starts at (DEDUCED, log 8). -/
def portDie : DiePort → Fin 8
  | .hub n => n
  | .ring n => n

/-- A port's group has no spare left for one more failed lane. -/
def portWornOut (s : State) (p : DiePort) : Bool :=
  s.glb.failedLanes.any (fun x => x.1 == p && decide (4 ≤ sparesUsed s.nor p x.2.1))

/-- One port retrains. -/
def retrainPort (unrepaired : List DiePort) (p : DiePort) (s : State) : State :=
  let bad := unrepaired.contains p || portWornOut s p
  let t := (s.glb.failedLanes.filter (fun x => x.1 == p)).foldl (fun s x => repairLane x s) s
  let u : State := { t with glb := { t.glb with failedLanes := t.glb.failedLanes.filter (fun x => x.1 != p) } }
  if bad then fenceFullNow (portDie p) u else u

/-- The ports that the halt sequence retrains (R20). -/
def retrainPorts (unrepaired : List DiePort) (s : State) : State :=
  s.glb.retrain.foldl (fun s p => retrainPort unrepaired p s) { s with glb := { s.glb with retrain := [] } }

/-- The actions that step 4 of R624 finds to do, as event 0x1200 encodes them (Table 18.15). -/
def haltActions (s : State) : Nat :=
  b01 s.kpr.restartDue + 2 * b01 (!s.glb.retrain.isEmpty) + 4 * b01 (!s.glb.heldFences.isEmpty) + 8 * b01 (!(failingBanks s).isEmpty)

/-- Step 4 of R624. -/
def haltWork (unrepaired : List DiePort) (s : State) : State :=
  let t := if s.kpr.restartDue then restartKeeper s else s
  retireFailing (applyHeld (retrainPorts unrepaired t))

/-- HALT_SEQUENCE_END (R624): step 4, event 0x1200 with the duration in microseconds and the actions, and READY. -/
def execHaltSequenceEnd (micros : Nat) (unrepaired : List DiePort) (s : State) : Result :=
  .next (
    if s.glb.state = .halted then
      let t := record 0x1200 (detail [(4, micros), (1, haltActions s)]) (haltWork unrepaired s)
      enterReady { t with glb := { t.glb with haltStarted := false } }
    else s)

/-! ## Engine faults (R623) -/

/-- Nanoseconds of a number of hours. -/
def hourNs (h : Nat) : Nat := h * 3600000000000

/-- GLB_FENCE_POLICY.COUNT. -/
def fenceCount (s : State) : Nat := bits s.ev.fencePolicy.toNat 7 0

/-- GLB_FENCE_POLICY.WINDOW_H, in nanoseconds. -/
def fenceWindow (s : State) : Nat := hourNs (bits s.ev.fencePolicy.toNat 31 16)

/-- Faults 0x9200 of an engine within the window that ends now. -/
def recentFaults (s : State) (engine : Nat) : Nat :=
  (s.nor.engineFaults.filter (fun f => f.engine == engine && decide ((s.lnt.rtc - f.rtc).toNat ≤ fenceWindow s))).length

/-- The time of a fault is kept (R623). -/
def noteEngineFault (engine : Nat) (s : State) : State :=
  { s with nor := { s.nor with engineFaults := s.nor.engineFaults ++ [⟨engine, s.lnt.rtc⟩] } }

/-- COUNT faults within the window request an engine fence of the die; the hub has none. -/
def fenceByFaults (engine : Nat) (s : State) : State :=
  if fenceCount s ≠ 0 && fenceCount s ≤ recentFaults s engine && engine / 256 < 8 then
    requestFence ⟨Fin.ofNat 8 (engine / 256), .engine⟩ (record 0x5202 (detail [(2, engine)]) s)
  else s

/-- ENGINE_ERROR (R623): an engine by its code of R617. -/
def execEngineError (engine : Nat) (s : State) : Result :=
  .next (fenceByFaults engine (raiseFault 0x9200 (detail [(2, engine)]) (noteEngineFault engine s)))

/-! ## MSI-X periods (R620) -/

/-- A vector as the next period starts: an owed message goes out. -/
def startPeriod (v : Nat) (s : State) : State :=
  let m := SMap.get s.ev.msix v {}
  if m.owed && s.host.hostUp then
    { s with ev := { s.ev with msix := SMap.set s.ev.msix v { sent := true, owed := false } {} }, out := .msix v :: s.out }
  else { s with ev := { s.ev with msix := SMap.set s.ev.msix v { sent := false, owed := m.owed } {} } }

/-- SIGNALLING_PERIOD (R620); each requester's first violation of the period is recorded anew (R584). -/
def execSignallingPeriod (s : State) : Result :=
  .next ((List.range 5).foldl (fun s v => startPeriod v s) { s with host := { s.host with violated := [] } })

/-! ## The firewall's rate (R585) -/

/-- The second's violations become the last second's (Table 16.28). -/
def closeSecond (s : State) : State := { s with host := { s.host with lastSecond := s.host.thisSecond, thisSecond := 0 } }

/-- FIREWALL_RATE (R585): once per second. -/
def execFirewallRate (s : State) : Result :=
  .next (
    let rate := s.host.alarmRate.toNat
    if rate ≠ 0 && rate < s.host.thisSecond then raiseAlarm 0xD000 [] (closeSecond s) else closeSecond s)

/-! ## Telemetry (R621, R622) -/

/-- The first byte of the telemetry area within the host region. -/
def telemBase (s : State) : Nat := bits s.ev.telem.toNat 53 32 * 65536

/-- The bytes of the telemetry area. -/
def telemSize (s : State) : Nat := bits s.ev.telem.toNat 21 0 * 65536

/-- Telemetry is enabled: the area is not empty and lies in the host region (Table 18.10). -/
def telemEnabled (s : State) : Bool := telemSize s != 0 && inRegion s.host (telemBase s) (telemSize s)

/-- Entries of the area. -/
def telemCapacity (s : State) : Nat := telemSize s / 64 - 1

/-- READ_SEQ as host software has written it (R621). -/
def telemRead (s : State) : Nat := leNat (t1Bytes s.lpd (s.host.regionBase + telemBase s + 8) 8)

/-- Entries that fit before the area holds its capacity of unread ones. -/
def telemRoom (s : State) : Nat := telemCapacity s - (s.ev.writeSeq + 2 ^ 64 - telemRead s) % 2 ^ 64

/-- The n-th entry of a step is written (R621). -/
def writeEntry (q : Nat) (b : Bytes) (s : State) : State :=
  t1Write (s.host.regionBase + telemBase s + 64 + 64 * (q % telemCapacity s)) (bytesAt b 0 64) none s

/-- Entries in order, numbered from q. -/
def writeEntries : Nat → List Bytes → State → State
  | _, [], s => s
  | q, b :: bs, s => writeEntries (q + 1) bs (writeEntry q b s)

/-- WRITE_SEQ advances, after the entries, and signals vector 4 (R620, R622). -/
def advanceSeq (n : Nat) (s : State) : State :=
  let q := s.ev.writeSeq + n
  signal 4 (t1Write (s.host.regionBase + telemBase s) (leBytes 8 q) none { s with ev := { s.ev with writeSeq := q } })

/-- The queue of a step's entries empties. -/
def dropQueue (s : State) : State := { s with ev := { s.ev with telemQueue := [] } }

/-- The entries that fit are written; the rest are dropped with event 0x5201 (R622). -/
def writeTelemetry (s : State) : State :=
  let es := s.ev.telemQueue.take (telemRoom s)
  let t := advanceSeq es.length (writeEntries s.ev.writeSeq es s)
  dropQueue (if es.length < s.ev.telemQueue.length then record 0x5201 (detail [(4, s.ev.telemStep)]) t else t)

/-- TELEMETRY_WRITE (R622): shed from level 1 (Table 17.3). -/
def execTelemetryWrite (s : State) : Result :=
  .next (
    if s.ev.telemQueue.isEmpty then s
    else if telemEnabled s && s.kpr.shed == 0 then writeTelemetry s
    else dropQueue s)

end Sys2Proof.Machine
end

