-- ==== Sys2Proof/Machine/TileStores.lean ====
section
/-! DEFINITION. The lane window and the background test of the tile stores (R326, R327, R331 to R334). -/
namespace Sys2Proof.Machine

/-! ## The lane window (R326, R327) -/

/-- BANK of TST_LANE_ADDR. -/
def laneBank (x : TileStore) : Nat := bits x.laneAddr.toNat 26 22

/-- LANE of TST_LANE_ADDR. -/
def laneIndex (x : TileStore) : Nat := bits x.laneAddr.toNat 21 3

/-- The word of the addressed lane, by bank × 65 536 + word. -/
def laneWord (x : TileStore) : Nat := laneBank x * bankWords + laneIndex x / 8

/-- The window refuses every operation on the addressed bank: it is OFF, in RETAIN, which allows no access (DEDUCED, log 15), or
retired, or lies outside the tile store (R327, Table 9.5). -/
def laneBarred (s : State) (t : Nat) : Bool :=
  let x := tstOf s t
  bankCount t ≤ laneBank x || bankRetired s.nor t (laneBank x) || (ownerOf x (laneBank x)).power != 0

/-- The window refuses a change: also while ARMED or RUNNING (R327). -/
def laneChangeBarred (s : State) (t : Nat) : Bool := inJob s || laneBarred s t

/-- The stored value of the addressed lane. -/
def laneValue (x : TileStore) : W64 := w64 (natAt (wordBytes x (laneWord x)) (8 * (laneIndex x % 8)) 8)

/-- A word with one of its lanes replaced. -/
def withLane (b : Bytes) (lane : Nat) (v : W64) : Bytes := splice b (8 * lane) (leBytes 8 v.toNat)

/-- The addressed lane is written; a word that is undefined stays so until it is written whole (R329). -/
def laneStore (v : W64) (x : TileStore) : TileStore :=
  if SMap.get x.undef (laneWord x) 0 ≠ 0 then x
  else putWord x (laneWord x) (withLane (wordBytes x (laneWord x)) (laneIndex x % 8) v)

/-- A read of the lane window: the lane, or 0 and event 0x4902 where it is refused; a word with an uncorrectable error gives a free
value (R327, R329). -/
def laneRead (t : Nat) (s : State) : W64 × State :=
  if laneBarred s t then (0, record 0x4902 [] s)
  else
    let w := laneWord (tstOf s t)
    if eccOf s t w = 2 then
      ((Config.fresh (s.freeCount + 1)).truncate 64, countWaits t 11 (noteEcc t w { s with freeCount := s.freeCount + 1 }))
    else (laneValue (tstOf s t), countWaits t 11 (noteEcc t w s))

/-- A change through the lane window, or event 0x4902 where it is refused (R327). -/
def laneChange (t : Nat) (f : W64 → W64) (s : State) : State :=
  if laneChangeBarred s t then record 0x4902 [] s
  else countWaits t 11 (updTst t (fun x => laneStore (f (laneValue x)) x) s)

/-- The offset of a tile-store register (Table 19.3). -/
def tstOffset (t r : Nat) : Nat := (if t = 8 then 0x308000 else 0x1007000 + t * 0x100000) + r

/-- A read of TST_LANE_DATA over a port (R327); it returns zero while the boot ROM serves the management port (R658). -/
def execTstLaneDataRead (p : Port) (t : Fin 9) (s : State) : Result :=
  .next (match writePath p (.tst t .laneData) 0 s with
    | .open => { (laneRead t s).2 with out := .csr p (tstOffset t 0x28) (laneRead t s).1 :: (laneRead t s).2.out }
    | .silent => if p = .mgmt then { s with out := .csr p (tstOffset t 0x28) 0 :: s.out } else s
    | .event _ _ => s
    | .nack => { s with out := .nack :: s.out })

/-- A write of TST_LANE_DATA: a plain store of the lane (R327). -/
def execTstLaneDataWrite (p : Port) (t : Fin 9) (v : W64) (s : State) : Result :=
  .next (regWrite p (.tst t .laneData) v (fun _ => 0) (fun x s => laneChange t (fun _ => w64 x) s) s)

/-- TST_LANE_SET: bit-set of the lane (R326). -/
def execTstLaneSet (p : Port) (t : Fin 9) (v : W64) (s : State) : Result :=
  .next (regWrite p (.tst t .laneSet) v (fun _ => 0) (fun x s => laneChange t (fun l => l ||| w64 x) s) s)

/-- TST_LANE_CLR: bit-clear of the lane (R326). -/
def execTstLaneClr (p : Port) (t : Fin 9) (v : W64) (s : State) : Result :=
  .next (regWrite p (.tst t .laneClr) v (fun _ => 0) (fun x s => laneChange t (fun l => l &&& ~~~ (w64 x)) s) s)

/-! ## The background test (R331 to R334) -/

/-- TST_TEST_CTRL.ENABLE. -/
def testEnabled (x : TileStore) : Bool := x.testCtrl.getLsbD 0

/-- TST_TEST_CTRL.GAP_BEAMS. -/
def testGap (x : TileStore) : Nat := bits x.testCtrl.toNat 31 16

/-- A bank is tested: it is in service and ON. -/
def testable (s : State) (t b : Nat) : Bool := !bankRetired s.nor t b && (ownerOf (tstOf s t) b).power == 0

/-- The first bank from b on that is tested. -/
def nextTestBank (s : State) (t b : Nat) : Option Nat :=
  ((List.range (bankCount t)).find? (fun i => b ≤ i && testable s t i))

/-- The tile store's die is powered and not fully fenced (Table 1.7, R29). -/
def storePowered (s : State) (t : Nat) : Bool :=
  s.glb.state != .off && s.glb.state != .lantern && !(t < 8 && s.glb.fullFenced.getLsbD t)

/-- The test may start a region: enabled, not shed (Table 17.3), no region failed or under way, the gap over, and work of class 2 may
start (R331, R333, R334). -/
def testMayStart (s : State) (t : Nat) : Bool :=
  let x := tstOf s t
  storePowered s t && testEnabled x && decide (s.kpr.shed < 3) && !x.testing && x.failedRegion.isNone && decide (x.gap = 0)
    && (!s.beam.countValid || decide (s.beam.offset < eclipseStart s.live))

/-- A pass has visited every bank: event 0x0900, and a new pass starts from the first bank (R333). -/
def passComplete (t : Nat) (s : State) : State :=
  let n := satAdd 32 (tstOf s t).passes 1
  record 0x0900 (detail [(1, t), (4, n)])
    (updTst t (fun x => { x with passes := n, bank := (nextTestBank s t 0).getD 0, region := 0 }) s)

/-- The 65 536 bytes of a region, by their first word. -/
def regionCells (m : SMap Byte) (base : Nat) : SMap Byte :=
  (SMap.slice m (base * 64) 65536).map (fun e => (e.1 - base * 64, e.2))

/-- A region's test starts: its words go into the save buffer, from which it is served until RESTORE ends (R331, R332). -/
def startRegion (b r : Nat) (x : TileStore) : TileStore :=
  { x with bank := b, region := r, testing := true, phase := 1, save := regionCells x.cells (b * bankWords + r * 1024) }

/-- BACKGROUND_TEST_REGION: the next region's test starts; with no bank left in this pass the pass ends first (R331, R333). -/
def execBackgroundTestRegion (t : Fin 9) (s : State) : Result :=
  .next (if !testMayStart s t then s else
    let x := tstOf s t
    match nextTestBank s t x.bank with
    | some b => updTst t (startRegion b (if b = x.bank then x.region else 0)) s
    | none =>
      let s' := passComplete t s
      match nextTestBank s' t 0 with
      | some b => updTst t (startRegion b 0) s'
      | none => s')

/-- RESTORE has written the saved words back (R331). -/
def restoreRegion (x : TileStore) : TileStore :=
  let base := x.bank * bankWords + x.region * 1024
  { x with testing := false, phase := 0, save := [], gap := testGap x,
           cells := SMap.overlay (SMap.shift x.save (base * 64)) (SMap.clear x.cells (base * 64) 65536) }

/-- The test goes on to the next region, the next bank, or the end of the pass (R333). -/
def advanceTest (t : Nat) (s : State) : State :=
  let x := tstOf s t
  if x.region < 63 then updTst t (fun x => { x with region := x.region + 1 }) s
  else match nextTestBank s t (x.bank + 1) with
    | some b => updTst t (fun x => { x with bank := b, region := 0 }) s
    | none => passComplete t s

/-- A region has failed: it stays redirected, the test stops, and the bank awaits its retirement (R334). -/
def failRegion (x : TileStore) : TileStore :=
  { x with testing := false, phase := 4, failedRegion := some (x.bank * bankWords + x.region * 1024),
           failing := x.failing ||| (1#32 <<< x.bank) }

/-- BACKGROUND_TEST_REGION_END (R331, R334). -/
def execBackgroundTestRegionEnd (t : Fin 9) (pass : Bool) (s : State) : Result :=
  .next (let x := tstOf s t
    if !x.testing then s
    else if pass then advanceTest t (updTst t restoreRegion s)
    else record 0x4901 (detail [(1, t), (1, x.bank), (1, x.region)]) (updTst t failRegion s))

end Sys2Proof.Machine
end

