-- ==== Sys2Proof/Machine/Csr.lean ====
section
/-! DEFINITION. A write and a read of the CSR space over a port (R4 to R8, R547, R658), and the I3C target (R606, R607). -/
namespace Sys2Proof.Machine

/-! ## The RWS registers (R8, R107, Table 19.5) -/

/-- A write of an RWS register reaches its shadow copy, except while CHECKING or ARMED (R8, R107). -/
def writeShadow (x : Reg) (v : Nat) (s : State) : State :=
  if s.img.stage = .checking ∨ s.img.stage = .armed then record 0x4301 [] s
  else { s with shadow := Rws.put x (w64 v) s.shadow }

/-! ## RW and W1C registers without a row of their own -/

/-- LATCHED bits cleared (Table 17.21, R10). -/
def clearLatched (x : Nat) (s : State) : State :=
  { s with lnt := { s.lnt with latched := s.lnt.latched &&& ~~~(BitVec.ofNat 6 (bits x 13 8)) } }

/-- FAB_LOCATION, kept in the serial NOR too (R474). -/
def setLocation (x : Nat) (s : State) : State :=
  { s with fab := { s.fab with location := w64 x }, nor := { s.nor with location := w64 x } }

/-- What a plain RW register holds; none for any other. -/
def plainValue (s : State) : Reg → Option W64
  | .glbTelem => some s.ev.telem
  | .glbFencePolicy => some s.ev.fencePolicy
  | .beamMasterPrio => some s.beam.prio
  | .fabLocation => some s.fab.location
  | .rdxSilent => some (w64 s.num.silentSel)
  | .deepWritePolicy => some s.deep.policy
  | .kprNonce n => some (SMap.get s.kpr.nonce n 0)
  | .fwlAlarmRate => some s.host.alarmRate
  | .aptCfgAddr => some s.host.cfgAddr
  | .tst t .testCtrl => some (tstOf s t).testCtrl
  | .tst t .laneAddr => some (tstOf s t).laneAddr
  | _ => none

/-- A plain RW register takes what its fields hold after a write. -/
def setPlain (r : Reg) (x : Nat) (s : State) : State :=
  match r with
  | .glbTelem => { s with ev := { s.ev with telem := w64 x } }
  | .glbFencePolicy => { s with ev := { s.ev with fencePolicy := w64 x } }
  | .beamMasterPrio => { s with beam := { s.beam with prio := w64 x } }
  | .fabLocation => setLocation x s
  | .rdxSilent => { s with num := { s.num with silentSel := x } }
  | .deepWritePolicy => { s with deep := { s.deep with policy := w64 x } }
  | .kprNonce n => { s with kpr := { s.kpr with nonce := SMap.set s.kpr.nonce n (w64 x) 0 } }
  | .fwlAlarmRate => { s with host := { s.host with alarmRate := w64 x } }
  | .aptCfgAddr => { s with host := { s.host with cfgAddr := w64 x } }
  | .tst t .testCtrl => updTst t (fun y => { y with testCtrl := w64 x }) s
  | .tst t .laneAddr => updTst t (fun y => { y with laneAddr := w64 x }) s
  | _ => s

/-! ## Registers whose writes have rows of their own -/

/-- The state that a command leaves. -/
def after (r : Result) (s : State) : State :=
  match r with
  | .next t => t
  | _ => s

/-- The command of an IMG_CTRL write (Table 3.14). -/
def imgControl (p : Port) (x : Nat) (s : State) : State :=
  match x with
  | 1 => after (execBeginFull p s) s
  | 2 => after (execBeginDelta p s) s
  | 3 => after (execCheck p s) s
  | 4 => after (execAbort p s) s
  | 5 => after (execDiscard p s) s
  | _ => s

/-- The command of a KPR_XFER_CTRL write (Table 17.13). -/
def xferControl (p : Port) (x : Nat) (s : State) : State :=
  match bits x 7 0 with
  | 1 => after (execOpenRead p (bits x 15 8) s) s
  | 2 => after (execOpenWrite p (bits x 15 8) s) s
  | 3 => after (execClose p s) s
  | 4 => after (execXferAbort p s) s
  | 5 => after (execVerifyFw p s) s
  | 6 => after (execActivateFw p s) s
  | _ => s

/-- The command of a GLB_SERVICE write (Table 18.5). -/
def serviceControl (p : Port) (x : Nat) (s : State) : State :=
  match bits x 7 0 with
  | 1 => after (execEnterRecovery p s) s
  | 2 => after (execLeaveRecovery p s) s
  | 3 => after (execFenceEngine p (bits x 63 32) s) s
  | 4 => after (execFenceFull p (bits x 63 32) s) s
  | 5 => after (execUnfence p (bits x 63 32) s) s
  | 6 => after (execClearRetired p (bits x 63 32) s) s
  | _ => s

/-- A register number as a unit of a die: 0 or 1. -/
def unitOf (u : Nat) : Fin 2 := if u = 0 then 0 else 1

/-- A register number as a die. -/
def dieOf (d : Nat) : Fin 8 := ⟨d % 8, Nat.mod_lt _ (by decide)⟩

/-- A register number as a tile store. -/
def storeNo (t : Nat) : Fin 9 := ⟨t % 9, Nat.mod_lt _ (by decide)⟩

/-- A write of a command register, or of a register whose write latches, clears or acts: the effect of its own row. -/
def writeActing (p : Port) (r : Reg) (v : W64) (s : State) : Option State :=
  let command (act : Nat → State → State) : Option State := some (regWrite p r v (fun _ => 0) act s)
  match r with
  | .evSel => some (after (execGlbEventSel p v s) s)
  | .imgCtrl => command (imgControl p)
  | .imgLoad => some (after (execImgLoad p v s) s)
  | .imgData => some (after (execImgData p v s) s)
  | .imgArm => some (after (execImgArm p v s) s)
  | .imgRelease => some (after (execImgRelease p v s) s)
  | .glbService => command (serviceControl p)
  | .pleBuoySel => some (after (execPleBuoySel p v s) s)
  | .pleClear => some (after (execPleClear p v s) s)
  | .cpyClear => some (clearCpy p v s)
  | .fabLinkDisable => some (after (execFabLinkDisable p v s) s)
  | .fabLinkSel => some (after (execFabLinkSel p v s) s)
  | .fabRouteSel => some (after (execFabRouteSel p v s) s)
  | .fabClear => some (after (execFabClear p v s) s)
  | .rdxEpochSel => some (after (execRdxEpochSel p v s) s)
  | .rdxLayerSel => some (after (execRdxLayerSel p v s) s)
  | .rdxClear => some (after (execRdxClear p v s) s)
  | .rdxCensusSel => some (after (execRdxCensusSel p v s) s)
  | .rdxOrbitHost => command orbitHost
  | .rdxCapture => command captureControl
  | .rdxRestore => some (after (execRdxRestore p v s) s)
  | .lpdUnitSel => some (after (execLpdUnitSel p v s) s)
  | .lpdClear => some (after (execLpdClear p v s) s)
  | .deepErase => some (after (execDeepErase p v s) s)
  | .kprXferCtrl => command (xferControl p)
  | .kprXferData => some (after (execKprXferDataWrite p v s) s)
  | .lntRtcAdjust => some (after (execLntRtcAdjust p v s) s)
  | .lntComp => command clearLatched
  | .aptAperture => some (after (execAptAperture p v s) s)
  | .aptHostFlags => some (after (execAptHostFlags p v s) s)
  | .aptHostCmd => command hostControl
  | .aptCfgData => some (after (execAptCfgDataWrite p v (Config.peerReply (s.freeCount + 1)).isSome { s with freeCount := s.freeCount + 1 }) s)
  | .me d u .clear => some (after (execMeClear p (dieOf d) (unitOf u) v s) s)
  | .ve d u .clear => some (after (execVeClear p (dieOf d) (unitOf u) v s) s)
  | .ae d .clear => some (after (execAeClear p (dieOf d) v s) s)
  | .gse d .clear => some (after (execGseClear p (dieOf d) v s) s)
  | .lye d .clear => some (after (execLyeClear p (dieOf d) v s) s)
  | .tst t .clear => some (after (execTstClear p (storeNo t) v s) s)
  | .tst t .laneData => some (after (execTstLaneDataWrite p (storeNo t) v s) s)
  | .tst t .laneSet => some (after (execTstLaneSet p (storeNo t) v s) s)
  | .tst t .laneClr => some (after (execTstLaneClr p (storeNo t) v s) s)
  | _ => none

/-- A 64-bit write of a register by its access code (R8). -/
def writeReg (p : Port) (r : Reg) (v : W64) (s : State) : State :=
  match writeActing p r v s with
  | some t => t
  | none =>
    match Rws.value s.shadow r, plainValue s r with
    | some x, _ => regWrite p r v (fun _ => x.toNat) (writeShadow r) s
    | none, some x => regWrite p r v (fun _ => x.toNat) (setPlain r) s
    | none, none => regWrite p r v (fun _ => 0) (fun _ s => s) s

/-- An access of a width at an offset is one that the device performs (R5). -/
def wholeAccess (off width : Nat) : Bool := width == 8 && off % 8 == 0

/-- The boot ROM does not respond at an offset (R658). -/
def romSilent (p : Port) (off : Nat) (s : State) : Bool :=
  p == .mgmt && s.kpr.romService && !(((regAt off).map romServes).getD false)

/-- A port's write of the CSR space (R5, R6, R8, R658). -/
def csrStore (p : Port) (off width : Nat) (v : W64) (s : State) : State :=
  if !readServed p s then (if p = .mgmt then { s with out := .nack :: s.out } else s)
  else if romSilent p off s then s
  else if !wholeAccess off width then record 0x4000 [] s
  else
    match regAt off with
    | some r => writeReg p r v s
    | none => s

/-- CSR_WRITE (R8). -/
def execCsrWrite (p : Port) (off width : Nat) (v : W64) (s : State) : Result := .next (csrStore p off width v s)

/-! ## Reads (R5, R6, R8) -/

/-- A read of APERTURE_DRAIN over a port: the host's goes through the host site; the management port's goes through neither site. -/
def drainOver (p : Port) (s : State) : W64 × State :=
  match p with
  | .host => drainAperture .host s
  | .mgmt => (0, s)

/-- A 64-bit read of an offset: its value, and its effect on the registers that a read moves. -/
def csrLoad (p : Port) (off : Nat) (s : State) : W64 × State :=
  if romSilent p off s then (0, s)
  else
    match regAt off with
    | none => (0, s)
    | some (.tst t .laneData) => laneRead t s
    | some .kprXferData => xferRead p s
    | some .apertureDrain => drainOver p s
    | some .aptCfgData => cfgRead (Config.peerReply (s.freeCount + 1)) { s with freeCount := s.freeCount + 1 }
    | some r => (readReg r s, s)

/-- What a port's read puts out. -/
def replyCsr (p : Port) (off : Nat) (r : W64 × State) : State := { r.2 with out := .csr p off r.1 :: r.2.out }

/-- A port's read of the CSR space: a narrow or misaligned one returns zero and records event 0x4000 (R5). -/
def csrFetch (p : Port) (off width : Nat) (s : State) : State :=
  if !readServed p s then (if p = .mgmt then { s with out := .nack :: s.out } else s)
  else if romSilent p off s || wholeAccess off width then replyCsr p off (csrLoad p off s)
  else replyCsr p off (0, record 0x4000 [] s)

/-- NARROW_CSR_READ (R5); of a whole width at an aligned offset it is an ordinary read. -/
def execNarrowCsrRead (p : Port) (off width : Nat) (s : State) : Result := .next (csrFetch p off width s)

/-! ## The I3C target (R606, R607, R598, R658) -/

/-- The target does not acknowledge. -/
def nack (s : State) : State := { s with out := .nack :: s.out }

/-- A transfer to the target's own address: it answers once it has a dynamic address and the management port is served. -/
def addressed (act : State → State) (s : State) : State := if mgmtServed s && s.kpr.dynAddr.isSome then act s else nack s

/-- A broadcast, which the target takes while it works. -/
def broadcast (act : State → State) (s : State) : State := if mgmtPowered s then act s else s

/-- The n writes of a private write. -/
def privateStores (off : Nat) (ws : List W64) (s : State) : State := ws.foldl (fun s v => csrStore .mgmt off 8 v s) s

/-- PRIVATE_WRITE (R607). -/
def execPrivateWrite (off : Nat) (words : List W64) (s : State) : Result :=
  .next (addressed (fun s => privateStores (off % 2 ^ 32) words { s with kpr := { s.kpr with mgmtOffset := off % 2 ^ 32 } }) s)

/-- n reads of an offset: the bytes read. A misaligned offset reads as zero, with event 0x4000 (R5). -/
def privateLoads (off : Nat) : Nat → State → Bytes × State
  | 0, s => ([], s)
  | n + 1, s =>
    let r := if romSilent .mgmt off s || off % 8 == 0 then csrLoad .mgmt off s else (0, record 0x4000 [] s)
    let q := privateLoads off n r.2
    (leBytes 8 r.1.toNat ++ q.1, q.2)

/-- PRIVATE_READ (R607). -/
def execPrivateRead (n : Nat) (s : State) : Result :=
  .next (addressed (fun s => { (privateLoads s.kpr.mgmtOffset n s).2 with
    out := .i3c (privateLoads s.kpr.mgmtOffset n s).1 :: (privateLoads s.kpr.mgmtOffset n s).2.out }) s)

/-- The target's dynamic address. -/
def setAddr (a : Option (BitVec 7)) (s : State) : State := { s with kpr := { s.kpr with dynAddr := a } }

/-- The target's bytes in answer to a CCC. -/
def answer (b : Bytes) (s : State) : State := { s with out := .i3c b :: s.out }

/-- ENTDAA (R606): a target without a dynamic address sends its identifier, BCR and DCR, and takes the address. -/
def execEntdaa (addr : BitVec 7) (s : State) : Result :=
  .next (broadcast (fun s =>
    if s.kpr.dynAddr.isNone then setAddr (some addr) (answer (bytesAt s.env.i3cId 0 6 ++ [s.env.bcr, s.env.dcr]) s) else s) s)

/-- SETDASA (R606), sent to the static address, which the target answers while it has no dynamic one. -/
def execSetdasa (addr : BitVec 7) (s : State) : Result :=
  .next (if mgmtServed s && s.kpr.dynAddr.isNone then setAddr (some addr) s else nack s)

/-- RSTDAA (R606). -/
def execRstdaa (s : State) : Result := .next (broadcast (setAddr none) s)

/-- GETPID (R606). -/
def execGetpid (s : State) : Result := .next (addressed (fun s => answer (bytesAt s.env.i3cId 0 6) s) s)

/-- GETBCR (R606). -/
def execGetbcr (s : State) : Result := .next (addressed (fun s => answer [s.env.bcr] s) s)

/-- GETDCR (R606). -/
def execGetdcr (s : State) : Result := .next (addressed (fun s => answer [s.env.dcr] s) s)

/-- GETSTATUS (R606): the bytes are the standard's own, a free value here. -/
def execGetstatus (s : State) : Result :=
  .next (addressed (fun s => answer (Config.i3cStatus (s.freeCount + 1)) { s with freeCount := s.freeCount + 1 }) s)

/-- GETMXDS (R606). -/
def execGetmxds (s : State) : Result := .next (addressed (fun s => answer (bytesAt s.env.mxds 0 2) s) s)

/-- ENEC (R606): in-band interrupts are enabled. -/
def execEnec (s : State) : Result := .next (broadcast (fun s => { s with kpr := { s.kpr with ibi := true } }) s)

/-- DISEC (R606). -/
def execDisec (s : State) : Result := .next (broadcast (fun s => { s with kpr := { s.kpr with ibi := false } }) s)

end Sys2Proof.Machine
end

