-- ==== Sys2Proof/Machine/Flags.lean ====
section
/-! DEFINITION. The arithmetic of the vector elements with the flags that each operation sets (R260 to R271). -/
namespace Sys2Proof.Machine

/-- A result that sets no flag. -/
def quiet (x : Nat) : Nat × BitVec 5 := (x, 0)

/-- Two's complement of a 32-bit element. -/
def int32 (x : Nat) : Int := signed 32 x

/-- The two-operand operations of Table 7.6 whose ET is F32, BF16, F16, I32 or U32. -/
inductive Bin where
  | add | sub | mul | min | max
  deriving DecidableEq, Repr

/-- A two-operand operation on floating-point elements (R260, R261). -/
def binFloat (f : Fmt) (o : Bin) (a b : Nat) : Nat × BitVec 5 :=
  match o with
  | .add => f.add a b
  | .sub => f.sub a b
  | .mul => f.mul a b
  | .min => quiet (f.min a b)
  | .max => quiet (f.max a b)

/-- A two-operand operation on 32-bit integers: it wraps and sets no flag (R261). -/
def binInt (isSigned : Bool) (o : Bin) (a b : Nat) : Nat × BitVec 5 :=
  let le := if isSigned then decide (int32 a ≤ int32 b) else decide (a ≤ b)
  quiet (match o with
    | .add => (a + b) % 2 ^ 32
    | .sub => (a + 2 ^ 32 - b) % 2 ^ 32
    | .mul => a * b % 2 ^ 32
    | .min => if le then a else b
    | .max => if le then b else a)

/-- A two-operand operation by its element type. -/
def binElem (et : Nat) (o : Bin) (a b : Nat) : Nat × BitVec 5 :=
  match etFmt et with
  | some f => binFloat f o a b
  | none => binInt (et == 3) o a b

/-- |a| by its element type: the sign bit cleared, or the integer's magnitude modulo 2^32. -/
def absElem (et a : Nat) : Nat × BitVec 5 :=
  match etFmt et with
  | some f => quiet (a % 2 ^ (f.width - 1))
  | none => quiet ((int32 a).natAbs % 2 ^ 32)

/-- −a by its element type: the sign bit changed, or the integer's negative modulo 2^32. -/
def negElem (et a : Nat) : Nat × BitVec 5 :=
  match etFmt et with
  | some f => quiet (a ^^^ 2 ^ (f.width - 1))
  | none => quiet ((2 ^ 32 - a) % 2 ^ 32)

/-- The bitwise operations and shifts, by opcode 0x30 to 0x34. -/
def bitElem (op et a b : Nat) : Nat × BitVec 5 :=
  quiet (match op with
    | 0x30 => a &&& b
    | 0x31 => a ||| b
    | 0x32 => a ^^^ b
    | 0x33 => a * 2 ^ (b % 32) % 2 ^ 32
    | _ => if et = 3 then unsigned 32 (int32 a / (2 ^ (b % 32) : Nat)) else a / 2 ^ (b % 32))

/-- The predicate of VCMP by its element type (R264). -/
def compareElem (et sub a b : Nat) : Bool :=
  match etFmt et with
  | some f => Fl.compare sub (f.decode a) (f.decode b)
  | none =>
    let v (x : Nat) : Int := if et = 3 then int32 x else (x : Int)
    Fl.compare sub (Fl.ofInt false (v a) 0) (Fl.ofInt false (v b) 0)

/-! ## Compensated sums (R209, R263, R268) -/

/-- Neumaier's update with the flags of its FP32 operations. -/
def pairAdd (p : Pair) (x : Nat) : Pair × BitVec 5 :=
  let t := f32.add p.s x
  if !f32.finite t.1 then (⟨t.1, 0⟩, t.2)
  else
    let big := Fl.absGe (f32.decode p.s) (f32.decode x)
    let d := if big then f32.sub p.s t.1 else f32.sub x t.1
    let e := if big then f32.add d.1 x else f32.add d.1 p.s
    let c := f32.add p.c e.1
    (⟨t.1, c.1⟩, t.2 ||| d.2 ||| e.2 ||| c.2)

/-- Two pairs combined, with flags. -/
def pairMerge (p q : Pair) : Pair × BitVec 5 :=
  let r := pairAdd p q.s
  let c := f32.add r.1.c q.c
  (⟨r.1.s, c.1⟩, r.2 ||| c.2)

/-! ## Reductions (R267 to R269) -/

/-- One lane takes an element, if it is active. -/
def laneTake {β : Type} (f : β → Nat → β × BitVec 5) (acc : β × BitVec 5) (x : Bool × Nat) : β × BitVec 5 :=
  if x.1 then ((f acc.1 x.2).1, acc.2 ||| (f acc.1 x.2).2) else acc

/-- Two partials merged. -/
def laneMerge {β : Type} (g : β → β → β × BitVec 5) (a b : β × BitVec 5) : β × BitVec 5 :=
  ((g a.1 b.1).1, a.2 ||| b.2 ||| (g a.1 b.1).2)

/-- A reduction in the fixed lane order, from the identity z. -/
def reduceLanes {β : Type} (f : β → Nat → β × BitVec 5) (g : β → β → β × BitVec 5) (z : β) (as : List Bool) (xs : List Nat) :
    β × BitVec 5 :=
  laneReduce (laneTake f) (laneMerge g) (z, 0) (as.zip xs)

/-- VRSUM: plain FP32 sums. -/
def reduceSum (as : List Bool) (xs : List Nat) : Nat × BitVec 5 := reduceLanes f32.add f32.add 0 as xs

/-- A final pair folded, with its flags. -/
def foldPair (p : Pair × BitVec 5) : Nat × BitVec 5 :=
  let r := f32.add p.1.s p.1.c
  (r.1, p.2 ||| r.2)

/-- VRSUMC. -/
def reducePairs (as : List Bool) (xs : List Nat) : Nat × BitVec 5 := foldPair (reduceLanes pairAdd pairMerge {} as xs)

/-- The square of an element and its addition, with flags (VRSSQC). -/
def pairSquare (p : Pair) (x : Nat) : Pair × BitVec 5 :=
  let q := f32.mul x x
  let r := pairAdd p q.1
  (r.1, q.2 ||| r.2)

/-- VRSSQC. -/
def reduceSquares (as : List Bool) (xs : List Nat) : Nat × BitVec 5 := foldPair (reduceLanes pairSquare pairMerge {} as xs)

/-- VRMAX and VRMIN select (R261). -/
def reduceMax (as : List Bool) (xs : List Nat) : Nat × BitVec 5 :=
  reduceLanes (fun a x => quiet (f32.max a x)) (fun a b => quiet (f32.max a b)) (f32.infCode true) as xs

/-- VRMIN. -/
def reduceMin (as : List Bool) (xs : List Nat) : Nat × BitVec 5 :=
  reduceLanes (fun a x => quiet (f32.min a x)) (fun a b => quiet (f32.min a b)) (f32.infCode false) as xs

/-- The larger magnitude, of finite elements alone (R269). -/
def amaxTake (a x : Nat) : Nat := if f32.finite x then max a (x % 2 ^ 31) else a

/-- VRAMAX. -/
def reduceAmax (as : List Bool) (xs : List Nat) : Nat × BitVec 5 :=
  reduceLanes (fun a x => quiet (amaxTake a x)) (fun a b => quiet (max a b)) 0 as xs

/-! ## Conversions (R265, R266) -/

/-- What one side of a conversion holds: an element type, and for B8 a format code. -/
def sideElem (et code : Nat) : Option Elem :=
  match et with
  | 0 => some (.fp f32)
  | 1 => some (.fp bf16)
  | 2 => some (.fp f16)
  | 3 => some .int32
  | 4 => some .uint32
  | _ => if code = 0x04 || code = 0x05 || code = 0x10 then elemOf code else none

/-- The rounding of a conversion (R265). -/
def cvtRound (x : Nat) : Rnd := if x = 1 then .rtz else .rne

/-- A value converted into an element of a type: it saturates; only NV and OF are set (R266). -/
def convertInto (e : Elem) (mode : Rnd) (v : Fl) : Nat × BitVec 5 :=
  let r : Nat × NarrowNote :=
    match e with
    | .fp f => f.narrow mode 0 v
    | .mx f => f.narrow mode 0 v
    | .int8 => ((fun p => (unsigned 8 p.1, p.2)) (narrowInt mode (-127) 127 0 v))
    | .int32 => ((fun p => (unsigned 32 p.1, p.2)) (narrowInt mode (-(2 ^ 31 - 1)) (2 ^ 31 - 1) 0 v))
    | .uint32 => ((fun p => (unsigned 32 p.1, p.2)) (narrowInt mode 0 (2 ^ 32 - 1) 0 v))
  let of := if v.isFinite && r.2.sat then flagOF else 0
  let nv := if e.isInt32 && !v.isFinite then flagNV else 0
  (r.1, of ||| nv)

end Sys2Proof.Machine
end

