-- ==== Sys2Proof/Machine/Vector.lean ====
section
/-! DEFINITION. The vector instructions on registers, masks and flags (chapter 07, R236 to R271). -/
namespace Sys2Proof.Machine

/-! ## The running task -/

/-- A vector engine, by 2 × die + u. -/
def veUnit (s : State) (u : Nat) : VeUnit := SMap.get s.ve u {}

/-- The architectural state of a vector engine changed. -/
def updRegs (u : Nat) (f : VeRegs → VeRegs) (s : State) : State := updVeUnit u (fun e => { e with regs := f e.regs }) s

/-- The code of a vector engine (R617). -/
def veCode (u : Nat) : Nat := engineCode (u / 2) (2 + u % 2)

/-- The program of a task (Table 7.3). -/
def programOf (i : Image) (t : TaskEntry) : Option ProgDesc := i.update.progs[payloadField t 63 48]?

/-- The word of a program at a word index (R242). -/
def programWord (i : Image) (t : TaskEntry) (pc : Nat) : Option W64 :=
  match programOf i t with
  | some p => if pc < p.count then i.update.words[p.first + pc]? else none
  | none => none

/-- The task that a vector engine runs: the plan beam runs, and the engine does not hold (R73, R253). -/
def veTask (s : State) (u : Nat) : Option (Image × RunTask) :=
  match s.img.live, (veUnit s u).run with
  | some i, some t => if planRuns s && (veUnit s u).held.isNone then some (i, t) else none
  | _, _ => none

/-- The engine is at a word of its program (R244). -/
def atWord (s : State) (u : Nat) (x : W64) : Bool :=
  match veTask s u with
  | some p => programWord p.1 p.2.task (veUnit s u).regs.pc == some x
  | none => false

/-- The instruction at the engine's word: it acts where it is the one that the command names (R244). -/
def vectorStep (u : Nat) (x : W64) (act : Image → RunTask → State → State) (s : State) : State :=
  match veTask s u with
  | some (i, t) =>
    if programWord i t.task (veUnit s u).regs.pc == some x then
      act i t (updVeUnit u (fun e => { e with pcLast := e.regs.pc, phase := 1 }) s)
    else s
  | none => s

/-- The engine goes on to the next word. -/
def goOn (u : Nat) (s : State) : State := updRegs u nextWord s

/-- An instruction that changes registers alone. -/
def onRegs (u op : Nat) (w : VWord) (f : VeRegs → VeRegs) (s : State) : State :=
  vectorStep u (VWord.encode (BitVec.ofNat 8 op) w) (fun _ _ s => updRegs u (fun r => nextWord (f r)) s) s

/-! ## Control and scalars (Table 7.6) -/

/-- NOP. -/
def execNop (u : Fin 16) (w : VWord) (s : State) : Result := .next (onRegs u.val 0x00 w id s)

/-- SETVL: a larger request sets LC. -/
def setVl (w : VWord) (r : VeRegs) : VeRegs :=
  let x := immOrScalar w r w.imm.toNat
  raise (if 4096 < x then flagLC else 0) { r with vl := min x 4096 }

/-- SETVL (R247). -/
def execSetvl (u : Fin 16) (w : VWord) (s : State) : Result := .next (onRegs u.val 0x02 w (setVl w) s)

/-- LOOP (R249). -/
def execLoopN (u : Fin 16) (body : BitVec 16) (count : BitVec 32) (s : State) : Result :=
  .next (vectorStep u.val (loopWord body count) (fun _ _ s => updRegs u.val (enterLoop body.toNat count.toNat) s) s)

/-- An instruction that writes a scalar register. -/
def scalarOp (f : VeRegs → Nat × BitVec 5) (w : VWord) (r : VeRegs) : VeRegs :=
  raise (f r).2 (setSreg w.d.toNat (f r).1 r)

/-- s[A] and s[B]. -/
def sA (w : VWord) (r : VeRegs) : Nat := sreg r w.a.toNat
/-- s[B]. -/
def sB (w : VWord) (r : VeRegs) : Nat := sreg r w.b.toNat

/-- SLIL (R247). -/
def execSlil (u : Fin 16) (w : VWord) (s : State) : Result :=
  .next (onRegs u.val 0x08 w (scalarOp (fun r => quiet (sreg r w.d.toNat / 65536 * 65536 + w.imm.toNat % 65536)) w) s)

/-- SLIH (R247). -/
def execSlih (u : Fin 16) (w : VWord) (s : State) : Result :=
  .next (onRegs u.val 0x09 w (scalarOp (fun r => quiet (w.imm.toNat % 65536 * 65536 + sreg r w.d.toNat % 65536)) w) s)

/-- SADD (R247). -/
def execSadd (u : Fin 16) (w : VWord) (s : State) : Result :=
  .next (onRegs u.val 0x0A w (scalarOp (fun r => quiet ((sA w r + immOrScalar w r (immSigned w)) % 2 ^ 32)) w) s)

/-- SSUB (R247). -/
def execSsub (u : Fin 16) (w : VWord) (s : State) : Result :=
  .next (onRegs u.val 0x0B w (scalarOp (fun r => quiet ((sA w r + 2 ^ 32 - immOrScalar w r (immSigned w)) % 2 ^ 32)) w) s)

/-- SMUL (R247). -/
def execSmul (u : Fin 16) (w : VWord) (s : State) : Result :=
  .next (onRegs u.val 0x0C w (scalarOp (fun r => quiet (sA w r * sB w r % 2 ^ 32)) w) s)

/-- The program of a task carries the UPDATE flag. -/
def updateTask (i : Image) (t : TaskEntry) : Bool := (programOf i t).elim false (·.update)

/-- A special source (Table 7.7, R248); none for a reserved one, which no checked program holds (R247). -/
def specialSource (s : State) (i : Image) (t : TaskEntry) (r : VeRegs) (x : Nat) : Option Nat :=
  let layer := payloadField t 31 16
  let upd (v : Nat) : Nat := if updateTask i t then v else 0
  match x with
  | 0 => some (jobStep s % 2 ^ 32)
  | 1 => some (jobStep s / 2 ^ 32 % 2 ^ 32)
  | 2 => some layer
  | 3 => some (upd (layerRate s i layer))
  | 4 => some (upd (layerClip s i layer))
  | 5 => some (upd (layerDecay i layer))
  | 6 => some (SMap.get r.l 0 0).toNat
  | 7 => some (SMap.get r.l 1 0).toNat
  | 8 => some (SMap.get r.l 2 0).toNat
  | 9 => some (SMap.get r.l 3 0).toNat
  | 10 => some r.vl
  | 11 => some (i.memberRank % 2 ^ 32)
  | _ => none

/-- SGET writes its source. -/
def getSpecial (u : Nat) (w : VWord) (i : Image) (t : RunTask) (s : State) : State :=
  match specialSource s i t.task (veUnit s u).regs (w.imm.toNat % 256) with
  | some v => updRegs u (setSreg w.d.toNat v) s
  | none => s

/-- SGET (R248). -/
def execSget (u : Fin 16) (w : VWord) (s : State) : Result :=
  .next (vectorStep u.val (VWord.encode 0x0D w) (fun i t s => goOn u.val (getSpecial u.val w i t s)) s)

/-- SFADD (R260). -/
def execSfadd (u : Fin 16) (w : VWord) (s : State) : Result :=
  .next (onRegs u.val 0x10 w (scalarOp (fun r => f32.add (sA w r) (sB w r)) w) s)

/-- SFSUB (R260). -/
def execSfsub (u : Fin 16) (w : VWord) (s : State) : Result :=
  .next (onRegs u.val 0x11 w (scalarOp (fun r => f32.sub (sA w r) (sB w r)) w) s)

/-- SFMUL (R260). -/
def execSfmul (u : Fin 16) (w : VWord) (s : State) : Result :=
  .next (onRegs u.val 0x12 w (scalarOp (fun r => f32.mul (sA w r) (sB w r)) w) s)

/-- SFDIV (R260). -/
def execSfdiv (u : Fin 16) (w : VWord) (s : State) : Result :=
  .next (onRegs u.val 0x13 w (scalarOp (fun r => f32.div (sA w r) (sB w r)) w) s)

/-- SFSQRT (R260). -/
def execSfsqrt (u : Fin 16) (w : VWord) (s : State) : Result :=
  .next (onRegs u.val 0x14 w (scalarOp (fun r => f32.sqrt (sA w r)) w) s)

/-- SFRSQRT (R260). -/
def execSfrsqrt (u : Fin 16) (w : VWord) (s : State) : Result :=
  .next (onRegs u.val 0x15 w (scalarOp (fun r => f32.rsqrt (sA w r)) w) s)

/-- SFMAX (R261). -/
def execSfmax (u : Fin 16) (w : VWord) (s : State) : Result :=
  .next (onRegs u.val 0x16 w (scalarOp (fun r => quiet (f32.max (sA w r) (sB w r))) w) s)

/-- SFMIN (R261). -/
def execSfmin (u : Fin 16) (w : VWord) (s : State) : Result :=
  .next (onRegs u.val 0x17 w (scalarOp (fun r => quiet (f32.min (sA w r) (sB w r))) w) s)

/-- The non-finite indication of the step (R512). -/
def indicate (s : State) : State := { s with num := { s.num with nonFinite := true } }

/-- SNF: a non-finite s[A] raises the indication and NF (R271). -/
def signalNonfinite (u : Nat) (w : VWord) (s : State) : State :=
  if nonfinite32 (sA w (veUnit s u).regs) then updRegs u (raise flagNF) (indicate s) else s

/-- SNF (R271). -/
def execSnf (u : Fin 16) (w : VWord) (s : State) : Result :=
  .next (vectorStep u.val (VWord.encode 0x18 w) (fun _ _ s => goOn u.val (signalNonfinite u.val w s)) s)

/-! ## Element-wise instructions -/

/-- n of a vector instruction (R239). -/
def vlen (w : VWord) (r : VeRegs) : Nat := lenOf r (vlMax w.et.toNat)

/-- Operand a. -/
def opA (w : VWord) (r : VeRegs) : List Nat := vElems r w.a.toNat (etBytes w.et.toNat) 0 (vlen w r)

/-- Operand b. -/
def opB (w : VWord) (r : VeRegs) : List Nat := operandB w r w.et.toNat (vlen w r)

/-- Operand c. -/
def opC (w : VWord) (r : VeRegs) : List Nat := vElems r w.c.toNat (etBytes w.et.toNat) 0 (vlen w r)

/-- An element-wise instruction: with n = 0 it has no effect (R241). -/
def elementwise (results : VeRegs → List (Nat × BitVec 5)) (w : VWord) (r : VeRegs) : VeRegs :=
  if vlen w r = 0 then r else putResults w w.et.toNat (results r) r

/-- One source. -/
def unary (f : Nat → Nat × BitVec 5) (w : VWord) : VeRegs → VeRegs := elementwise (fun r => (opA w r).map f) w

/-- Two sources. -/
def binary (f : Nat → Nat → Nat × BitVec 5) (w : VWord) : VeRegs → VeRegs :=
  elementwise (fun r => List.zipWith f (opA w r) (opB w r)) w

/-- VADD (R260). -/
def execVadd (u : Fin 16) (w : VWord) (s : State) : Result := .next (onRegs u.val 0x20 w (binary (binElem w.et.toNat .add) w) s)
/-- VSUB (R260). -/
def execVsub (u : Fin 16) (w : VWord) (s : State) : Result := .next (onRegs u.val 0x21 w (binary (binElem w.et.toNat .sub) w) s)
/-- VMUL (R260). -/
def execVmul (u : Fin 16) (w : VWord) (s : State) : Result := .next (onRegs u.val 0x22 w (binary (binElem w.et.toNat .mul) w) s)

/-- a × b + c of an element type. -/
def fmaElem (et : Nat) (x : Nat × Nat) (c : Nat) : Nat × BitVec 5 := ((etFmt et).getD f32).fma x.1 x.2 c

/-- VFMA: d ← a × b + c, rounded once. -/
def fused (w : VWord) : VeRegs → VeRegs :=
  elementwise (fun r => List.zipWith (fmaElem w.et.toNat) ((opA w r).zip (opB w r)) (opC w r)) w

/-- VFMA (R260). -/
def execVfma (u : Fin 16) (w : VWord) (s : State) : Result := .next (onRegs u.val 0x23 w (fused w) s)
/-- VMIN (R261). -/
def execVmin (u : Fin 16) (w : VWord) (s : State) : Result := .next (onRegs u.val 0x24 w (binary (binElem w.et.toNat .min) w) s)
/-- VMAX (R261). -/
def execVmax (u : Fin 16) (w : VWord) (s : State) : Result := .next (onRegs u.val 0x25 w (binary (binElem w.et.toNat .max) w) s)
/-- VABS (R247). -/
def execVabs (u : Fin 16) (w : VWord) (s : State) : Result := .next (onRegs u.val 0x26 w (unary (absElem w.et.toNat) w) s)
/-- VNEG (R247). -/
def execVneg (u : Fin 16) (w : VWord) (s : State) : Result := .next (onRegs u.val 0x27 w (unary (negElem w.et.toNat) w) s)
/-- VDIV (R260). -/
def execVdiv (u : Fin 16) (w : VWord) (s : State) : Result := .next (onRegs u.val 0x28 w (binary f32.div w) s)
/-- VSQRT (R260). -/
def execVsqrt (u : Fin 16) (w : VWord) (s : State) : Result := .next (onRegs u.val 0x29 w (unary f32.sqrt w) s)
/-- VRSQRT (R260). -/
def execVrsqrt (u : Fin 16) (w : VWord) (s : State) : Result := .next (onRegs u.val 0x2A w (unary f32.rsqrt w) s)
/-- VRCP (R260). -/
def execVrcp (u : Fin 16) (w : VWord) (s : State) : Result := .next (onRegs u.val 0x2B w (unary f32.rcp w) s)
/-- VEXP2 (R260). -/
def execVexp2 (u : Fin 16) (w : VWord) (s : State) : Result := .next (onRegs u.val 0x2C w (unary f32.exp2 w) s)
/-- VLOG2 (R260). -/
def execVlog2 (u : Fin 16) (w : VWord) (s : State) : Result := .next (onRegs u.val 0x2D w (unary f32.log2 w) s)

/-- VADDC: s in v[D] and c in v[D + 1] take x in v[A] (R263). -/
def addPairs (w : VWord) (r : VeRegs) : VeRegs :=
  let n := vlen w r
  if n = 0 then r else
  let ss := vElems r w.d.toNat 4 0 n
  let cs := vElems r (w.d.toNat + 1) 4 0 n
  let rs := List.zipWith (fun (p : Nat × Nat) x => pairAdd ⟨p.1, p.2⟩ x) (ss.zip cs) (opA w r)
  let as := activeBits w r n
  raise (activeFlags as (rs.map (·.2)) ||| clampFlag r 1024)
    (setElems (w.d.toNat + 1) 4 0 (mergeActive as (rs.map (·.1.c)) cs)
      (setElems w.d.toNat 4 0 (mergeActive as (rs.map (·.1.s)) ss) r))

/-- VADDC (R263). -/
def execVaddc (u : Fin 16) (w : VWord) (s : State) : Result := .next (onRegs u.val 0x2E w (addPairs w) s)

/-- VFOLD: d ← RNE(v[A] + v[A + 1]). -/
def foldPairs (w : VWord) : VeRegs → VeRegs :=
  elementwise (fun r => List.zipWith f32.add (opA w r) (vElems r (w.a.toNat + 1) 4 0 (vlen w r))) w

/-- VFOLD (R263). -/
def execVfold (u : Fin 16) (w : VWord) (s : State) : Result := .next (onRegs u.val 0x2F w (foldPairs w) s)
/-- VAND (R247). -/
def execVand (u : Fin 16) (w : VWord) (s : State) : Result := .next (onRegs u.val 0x30 w (binary (bitElem 0x30 w.et.toNat) w) s)
/-- VOR (R247). -/
def execVor (u : Fin 16) (w : VWord) (s : State) : Result := .next (onRegs u.val 0x31 w (binary (bitElem 0x31 w.et.toNat) w) s)
/-- VXOR (R247). -/
def execVxor (u : Fin 16) (w : VWord) (s : State) : Result := .next (onRegs u.val 0x32 w (binary (bitElem 0x32 w.et.toNat) w) s)
/-- VSHL (R247). -/
def execVshl (u : Fin 16) (w : VWord) (s : State) : Result := .next (onRegs u.val 0x33 w (binary (bitElem 0x33 w.et.toNat) w) s)
/-- VSHR (R247). -/
def execVshr (u : Fin 16) (w : VWord) (s : State) : Result := .next (onRegs u.val 0x34 w (binary (bitElem 0x34 w.et.toNat) w) s)

/-- VSEL: bit i of m[MR] chooses a or b, for every element (M is 0). -/
def select (w : VWord) : VeRegs → VeRegs :=
  elementwise (fun r => (mergeActive (maskBits r w.mr.toNat (vlen w r)) (opA w r) (opB w r)).map quiet) { w with m := false }

/-- VSEL (R247). -/
def execVsel (u : Fin 16) (w : VWord) (s : State) : Result := .next (onRegs u.val 0x35 w (select w) s)

/-- VMOV: a, or with BS 1 the scalar broadcast. -/
def move (w : VWord) : VeRegs → VeRegs := elementwise (fun r => (if w.bs then opB w r else opA w r).map quiet) w

/-- VMOV (R247). -/
def execVmov (u : Fin 16) (w : VWord) (s : State) : Result := .next (onRegs u.val 0x36 w (move w) s)

/-- VIDX: d[i] ← i + IMM sign-extended. -/
def indices (w : VWord) : VeRegs → VeRegs :=
  elementwise (fun r => (List.range (vlen w r)).map (fun k => quiet ((k + immSigned w) % 2 ^ 32))) w

/-- VIDX (R247). -/
def execVidx (u : Fin 16) (w : VWord) (s : State) : Result := .next (onRegs u.val 0x37 w (indices w) s)

/-! ## Conversions (R265, R266) -/

/-- Element of a side of a conversion at which it starts: packed sides start at 1 024 × PART. -/
def sideStart (et part : Nat) : Nat := if etBytes et = 4 then 0 else 1024 * part

/-- VCVT: SUB is the source type, ET the destination's (R265). -/
def convertRegs (w : VWord) (r : VeRegs) : VeRegs :=
  let n := lenOf r 1024
  let imm := w.imm.toNat
  let src := w.sub.toNat
  let dst := w.et.toNat
  let part := bits imm 5 4
  match sideElem src (bits imm 15 8), sideElem dst (bits imm 15 8) with
  | some x, some y =>
    if n = 0 then r else
    let xs := vElems r w.a.toNat (etBytes src) (sideStart src part) n
    let rs := xs.map (fun v => convertInto y (cvtRound (bits imm 1 0)) (x.value v))
    let as := activeBits w r n
    let old := vElems r w.d.toNat (etBytes dst) (sideStart dst part) n
    raise (activeFlags as (rs.map (·.2)) ||| clampFlag r 1024)
      (setElems w.d.toNat (etBytes dst) (sideStart dst part) (mergeActive as (rs.map (·.1)) old) r)
  | _, _ => r

/-- VCVT (R265). -/
def execVcvt (u : Fin 16) (w : VWord) (s : State) : Result := .next (onRegs u.val 0x38 w (convertRegs w) s)

/-! ## Masks (R264, Table 7.6) -/

/-- The first bits of a mask register replaced where they are active. -/
def putMask (w : VWord) (n : Nat) (bs : List Bool) (r : VeRegs) : VeRegs :=
  setMask w.d.toNat (mergeActive (activeBits w r n) bs (maskBits r w.d.toNat n)) r

/-- VCMP: bit i of m[D] is the predicate of a[i] and b[i]. -/
def compareRegs (w : VWord) (r : VeRegs) : VeRegs :=
  if vlen w r = 0 then r
  else raise (clampFlag r (vlMax w.et.toNat))
    (putMask w (vlen w r) (List.zipWith (compareElem w.et.toNat w.sub.toNat) (opA w r) (opB w r)) r)

/-- VCMP (R264). -/
def execVcmp (u : Fin 16) (w : VWord) (s : State) : Result := .next (onRegs u.val 0x40 w (compareRegs w) s)

/-- The mask operation SUB on two bits. -/
def mopBit (sub : Nat) (a b : Bool) : Bool :=
  match sub with
  | 0 => a && b
  | 1 => a || b
  | 2 => a != b
  | 3 => a && !b
  | 4 => !a
  | 5 => true
  | _ => false

/-- MOP on the bits below min(VL, 4 096). -/
def maskOp (w : VWord) (r : VeRegs) : VeRegs :=
  let n := lenOf r 4096
  putMask w n (List.zipWith (mopBit w.sub.toNat) (maskBits r w.a.toNat n) (maskBits r w.b.toNat n)) r

/-- MOP (R247). -/
def execMop (u : Fin 16) (w : VWord) (s : State) : Result := .next (onRegs u.val 0x41 w (maskOp w) s)

/-- Set bits of m[A] below n. -/
def maskCount (w : VWord) (r : VeRegs) : Nat :=
  let n := lenOf r 4096
  (((activeBits w r n).zip (maskBits r w.a.toNat n)).filter (fun x => x.1 && x.2)).length

/-- MPOP (R247). -/
def execMpop (u : Fin 16) (w : VWord) (s : State) : Result :=
  .next (onRegs u.val 0x42 w (scalarOp (fun r => quiet (maskCount w r)) w) s)

/-! ## Reductions (R241, R267 to R269) -/

/-- A reduction of the active elements of a into s[D]. -/
def reduction (f : List Bool → List Nat → Nat × BitVec 5) (w : VWord) (r : VeRegs) : VeRegs :=
  scalarOp (fun r => ((f (activeBits w r (vlen w r)) (opA w r)).1,
    (f (activeBits w r (vlen w r)) (opA w r)).2 ||| clampFlag r (vlMax w.et.toNat))) w r

/-- VRSUM (R267). -/
def execVrsum (u : Fin 16) (w : VWord) (s : State) : Result := .next (onRegs u.val 0x48 w (reduction reduceSum w) s)
/-- VRSUMC (R268). -/
def execVrsumc (u : Fin 16) (w : VWord) (s : State) : Result := .next (onRegs u.val 0x49 w (reduction reducePairs w) s)
/-- VRMAX (R267). -/
def execVrmax (u : Fin 16) (w : VWord) (s : State) : Result := .next (onRegs u.val 0x4A w (reduction reduceMax w) s)
/-- VRMIN (R267). -/
def execVrmin (u : Fin 16) (w : VWord) (s : State) : Result := .next (onRegs u.val 0x4B w (reduction reduceMin w) s)
/-- VRAMAX (R269). -/
def execVramax (u : Fin 16) (w : VWord) (s : State) : Result := .next (onRegs u.val 0x4C w (reduction reduceAmax w) s)
/-- VRSSQC (R268). -/
def execVrssqc (u : Fin 16) (w : VWord) (s : State) : Result := .next (onRegs u.val 0x4D w (reduction reduceSquares w) s)

end Sys2Proof.Machine
end

