-- ==== Sys2Proof/Machine/VecTiles.lean ====
section
/-! DEFINITION. The vector instructions on tiles: read buffers, write buffers, the stream buffer, and the end of a task (R244, R251 to
R257, R270, R272). -/
namespace Sys2Proof.Machine

/-! ## Faults of a program (R272, Table 7.16) -/

/-- VE_FAULT of a fault at the present word. -/
def noteVeFault (u sub : Nat) (s : State) : State := updVeUnit u (fun e => { e with fault := (e.taskIndex, e.regs.pc, sub) }) s

/-- Fault 0x8700 with a subcode of Table 7.9; no part of the instruction is performed. -/
def programFault (u sub : Nat) (t : RunTask) (s : State) : State :=
  raiseFault 0x8700 (detail [(2, veCode u), (2, t.task.idx), (2, (veUnit s u).regs.pc), (1, sub)]) (noteVeFault u sub s)

/-! ## Tiles (R251, R253) -/

/-- The tile that an instruction names: access A[2:0], at IMM + (BS ? s[B] : 0). -/
def vecTile (i : Image) (t : RunTask) (w : VWord) (r : VeRegs) : Option TileRef :=
  tileRef i t (w.a.toNat % 8) (immPlusScalar w r w.imm.toNat)

/-- A tile of a buoy fails its identity check at use, and no check before that. -/
def failsIdentity (who le : Nat) (r : TileRef) (s : State) : Bool :=
  match (fetchTile who le r.entry r.tile r.budget s).1 with
  | .tile b => !numericBad (Header.parse b) r.entry.format (vectorShaped r.entry) && identityBad (Header.parse b) r.entry.id r.tile
  | _ => false

/-- The engine holds at an instruction for a tile (R253). -/
def holdVe (u : Nat) (r : TileRef) (s : State) : State :=
  updVeUnit u (fun e => { e with held := some ⟨r.entry.id, r.tile⟩, crcFail := satAdd 32 e.crcFail 1 }) s

/-- A tile read and verified by a vector engine. -/
def loadVe (u : Nat) (t : RunTask) (r : TileRef) (s : State) : Option (Header × Bytes) × State :=
  match useTile (veCode u) t.task.le 0x4700 0x8701 r.entry r.tile r.budget s with
  | (.good h b, x) => (some (h, b), x)
  | (.held, x) => (none, holdVe u r x)
  | (.waiting, x) => (none, x)
  | (.stop, x) => (none, if failsIdentity (veCode u) t.task.le r s then noteVeFault u 0xFF x else x)

/-- The tile that an instruction names, verified, given to what follows. -/
def withTile (u : Nat) (w : VWord) (i : Image) (t : RunTask) (act : TileRef → Header → Bytes → State → State) (s : State) : State :=
  match vecTile i t w (veUnit s u).regs with
  | none => programFault u 2 t s
  | some r =>
    match loadVe u t r s with
    | (some (h, b), x) => act r h b x
    | (none, x) => x

/-- A read buffer filled. -/
def fillRead (d : Nat) (b : Bytes) (r : VeRegs) : VeRegs := { r with rb := SMap.set r.rb (d % 4) b [] }

/-- TLOAD (R251). -/
def execTload (u : Fin 16) (w : VWord) (s : State) : Result :=
  .next (vectorStep u.val (VWord.encode 0x60 w) (fun i t s =>
    withTile u.val w i t (fun _ _ b s => updRegs u.val (fun r => nextWord (fillRead w.d.toNat b r)) s) s) s)

/-! ## The stream buffer (R252) -/

/-- The oldest stream tile leaves its place. -/
def takeStream (u : Nat) (s : State) : State := updVeUnit u (fun e => { e with stream := e.stream.tail }) s

/-- Fault 0x8702: a stream tile that fails its CRC-32C cannot be repaired. -/
def streamFault (u : Nat) (x : StreamTile) (s : State) : State :=
  raiseFault 0x8702 (detail [(2, veCode u), (2, x.sender), (2, x.idx)]) (noteVeFault u 0xFE s)

/-- The oldest stream tile is verified and taken into b[D]. -/
def takeTileStream (u d : Nat) (x : StreamTile) (s : State) : State :=
  let h := Header.parse x.bytes
  if x.bytes.length != tilePitch 0x01 || !tileCrcOk x.bytes then streamFault u x s
  else if numericBad h 0x01 false then raiseFault 0x8400 (detail [(2, veCode u), (4, 0), (4, x.idx)]) s
  else if identityBad h 0 x.idx then
    raiseFault 0x8701 (detail [(2, veCode u), (4, 0), (4, h.buoy), (4, x.idx)]) (noteVeFault u 0xFF s)
  else updRegs u (fun r => nextWord (fillRead d x.bytes r)) (takeStream u s)

/-- TSTREAM (R252). -/
def execTstream (u : Fin 16) (w : VWord) (s : State) : Result :=
  .next (vectorStep u.val (VWord.encode 0x61 w) (fun _ t s =>
    match (veUnit s u.val).stream with
    | [] => programFault u.val 4 t s
    | x :: _ => takeTileStream u.val w.d.toNat x s) s)

/-! ## Elements (R254, R255, R257) -/

/-- e0 of VLD, VST and VLDW. -/
def firstElem (w : VWord) (r : VeRegs) : Nat := immPlusScalar w r (w.imm.toNat % 65536)

/-- The elements that VLD reads of a tile, as they stand in a register; none where the tile breaks R254. -/
def loadedElems (et sub : Nat) (b : Bytes) : Option (List Nat) :=
  let h := Header.parse b
  let plain := h.tse == 127 && h.step == 0
  match elemOf h.format with
  | none => none
  | some e =>
    if sub = 0 then
      match et with
      | 0 => if e.isInt32 then none else some (widenTile h e (b.drop 64))
      | 3 =>
        if h.format = 0x11 then some (payloadCodes e (b.drop 64))
        else if h.format = 0x10 && plain then some ((payloadCodes e (b.drop 64)).map (fun c => unsigned 32 (signed 8 c)))
        else none
      | 4 => if h.format = 0x12 then some (payloadCodes e (b.drop 64)) else none
      | _ => none
    else
      let fits := match et with
        | 1 => h.format == 0x02
        | 2 => h.format == 0x03
        | 3 => h.format == 0x11
        | 4 => h.format == 0x12
        | 5 => e.width == 8
        | _ => false
      if fits && plain && !e.isMx then some (payloadCodes e (b.drop 64)) else none

/-- An instruction on elements e0 to e0 + n − 1 of a buffer: nothing for n = 0, fault 0x8700 beyond element 16 383 (R257). -/
def onElems (u : Nat) (w : VWord) (t : RunTask) (act : Nat → Nat → State → State) (s : State) : State :=
  let r := (veUnit s u).regs
  let n := vlen w r
  if n = 0 then goOn u s
  else if 16384 < firstElem w r + n then programFault u 1 t s
  else act (firstElem w r) n s

/-- Elements into the active places of v[D]. -/
def putLoaded (w : VWord) (xs : List (Nat × BitVec 5)) (r : VeRegs) : VeRegs := putResults w w.et.toNat xs r

/-- VLD (R254). -/
def execVld (u : Fin 16) (w : VWord) (s : State) : Result :=
  .next (vectorStep u.val (VWord.encode 0x62 w) (fun _ t s =>
    onElems u.val w t (fun e0 n s =>
      match loadedElems w.et.toNat w.sub.toNat (SMap.get (veUnit s u.val).regs.rb (w.a.toNat % 4) []) with
      | some xs => updRegs u.val (fun r => nextWord (putLoaded w (((xs.drop e0).take n).map quiet) r)) s
      | none => programFault u.val 3 t s) s) s)

/-- A write buffer of a vector engine. -/
def writeBuf (r : VeRegs) (k : Nat) : Option WBuf := SMap.get r.wb (k % 4) none

/-- A write buffer replaced. -/
def setWriteBuf (k : Nat) (b : Option WBuf) (r : VeRegs) : VeRegs := { r with wb := SMap.set r.wb (k % 4) b none }

/-- TOPEN: SUB 0 opens a buffer of zeros, SUB 1 one filled from the tile (R255). -/
def openBuffer (u : Nat) (w : VWord) (i : Image) (t : RunTask) (s : State) : State :=
  let acc := w.a.toNat % 8
  if w.sub = 0 then
    match vecTile i t w (veUnit s u).regs with
    | none => programFault u 2 t s
    | some r => updRegs u (fun x => nextWord (setWriteBuf w.d.toNat (some ⟨acc, r.tile, []⟩) x)) s
  else
    withTile u w i t (fun r _ b s =>
      let xs := (tileElems b).map (BitVec.ofNat 32)
      updRegs u (fun x => nextWord (setWriteBuf w.d.toNat (some ⟨acc, r.tile, SMap.write [] 0 xs 0⟩) x)) s) s

/-- TOPEN (R255). -/
def execTopen (u : Fin 16) (w : VWord) (s : State) : Result :=
  .next (vectorStep u.val (VWord.encode 0x63 w) (fun i t s => openBuffer u.val w i t s) s)

/-- An element of a register as a write buffer holds it: 16-bit elements widen exactly (R255). -/
def bufElem (et x : Nat) : Nat :=
  match et with
  | 1 => widenF32 (bf16.decode x)
  | 2 => widenF32 (f16.decode x)
  | _ => x

/-- n elements of a write buffer from e0 on. -/
def bufElems (b : WBuf) (e0 n : Nat) : List Nat := (SMap.read b.elems e0 n (fun _ => 0)).map (·.toNat)

/-- VST: the active elements of v[A] into a write buffer (R240, R255). -/
def storeElems (w : VWord) (e0 n : Nat) (b : WBuf) (r : VeRegs) : VeRegs :=
  let et := w.et.toNat
  let xs := (vElems r w.a.toNat (etBytes et) 0 n).map (bufElem et)
  let new := (mergeActive (activeBits w r n) xs (bufElems b e0 n)).map (BitVec.ofNat 32)
  raise (clampFlag r (vlMax et)) (setWriteBuf w.d.toNat (some { b with elems := SMap.write b.elems e0 new 0 }) r)

/-- VST (R255). -/
def execVst (u : Fin 16) (w : VWord) (s : State) : Result :=
  .next (vectorStep u.val (VWord.encode 0x64 w) (fun _ t s =>
    onElems u.val w t (fun e0 n s =>
      match writeBuf (veUnit s u.val).regs w.d.toNat with
      | some b => updRegs u.val (fun r => nextWord (storeElems w e0 n b r)) s
      | none => s) s) s)

/-- An element of a write buffer as VLDW reads it: BF16 and F16 narrow as VCVT does (R255). -/
def readBack (et x : Nat) : Nat × BitVec 5 :=
  match et with
  | 1 => convertInto (.fp bf16) .rne (f32.decode x)
  | 2 => convertInto (.fp f16) .rne (f32.decode x)
  | _ => quiet x

/-- VLDW (R255). -/
def execVldw (u : Fin 16) (w : VWord) (s : State) : Result :=
  .next (vectorStep u.val (VWord.encode 0x65 w) (fun _ t s =>
    onElems u.val w t (fun e0 n s =>
      match writeBuf (veUnit s u.val).regs w.a.toNat with
      | some b => updRegs u.val (fun r => nextWord (putLoaded w ((bufElems b e0 n).map (readBack w.et.toNat)) r)) s
      | none => s) s) s)

/-! ## TWRITE (R256) -/

/-- The write ordinal of a TWRITE. -/
def writeOrdinal (w : VWord) (t : RunTask) : Nat := (payloadField t.task 47 32 + w.imm.toNat) % 65536

/-- A tile is written, its buffer closed, and the engine goes on. -/
def closeBuffer (u : Nat) (w : VWord) (flags : BitVec 5) (s : State) : State :=
  updVeUnit u (fun e => { e with twrites := satAdd 32 e.twrites 1,
                                 regs := nextWord (raise flags (setWriteBuf w.d.toNat none e.regs)) }) s

/-- A write buffer of integers is copied; one of real values is narrowed. -/
def writeBuffer (u : Nat) (w : VWord) (i : Image) (t : RunTask) (e : BuoyEntry) (b : WBuf) (s : State) : State :=
  let who := veCode u
  let xs := bufElems b 0 16384
  let step := jobStep s
  if (elemOf e.format).elim false (·.isInt32) then
    match writeTile who (some t.task.le) e b.tile (copyInts e b.tile step xs) s with
    | (true, x) => closeBuffer u w 0 x
    | (false, x) => x
  else
    let axis := w.imm.getLsbD 16
    let bad := (narrowFor s i e b.tile step 0 (writeOrdinal w t) axis xs).notes.nonfinite
    match writeNarrowed who (some t.task.le) i e b.tile (writeOrdinal w t) axis xs s with
    | (true, x) => closeBuffer u w (if bad then flagNF else 0) x
    | (false, x) => x

/-- TWRITE of an open buffer. -/
def writeOpen (u : Nat) (w : VWord) (i : Image) (t : RunTask) (s : State) : State :=
  match writeBuf (veUnit s u).regs w.d.toNat with
  | none => s
  | some b =>
    match (t.accs[b.access]?).bind (fun a => buoyEntry i a.buoy) with
    | some e => writeBuffer u w i t e b s
    | none => s

/-- TWRITE (R256). -/
def execTwrite (u : Fin 16) (w : VWord) (s : State) : Result :=
  .next (vectorStep u.val (VWord.encode 0x66 w) (fun i t s => writeOpen u.val w i t s) s)

/-! ## END (R237, R244, R270) -/

/-- A vector engine as its task ends: the flags are recorded, and nothing of its registers stays. -/
def VeUnit.finished (t : RunTask) (endAt : Nat) (e : VeUnit) : VeUnit :=
  { e with run := none, phase := 0, lastFlags := e.regs.flags, accum := e.accum ||| e.regs.flags, regs := {},
           busy := addBusy e.busy t.start endAt }

/-- END (R244): the program ends, and its task completes at an offset of the beam. -/
def execEndTask (u : Fin 16) (endAt : Nat) (s : State) : Result :=
  .next (vectorStep u.val 0x0100000000000000#64 (fun _ t s =>
    if mayEnd s endAt then
      finishTask (veCode u.val) t.task.le t.task.idx endAt (updVeUnit u.val (VeUnit.finished t endAt) s)
    else s) s)

end Sys2Proof.Machine
end

