-- ==== Sys2Proof/Machine/Dispatch.lean ====
section
/-! DEFINITION. One arm for each command: its meaning. -/
namespace Sys2Proof.Machine

/-- The effect of a command on everything but the queue. -/
def exec (i : Instr) (s : State) : Host.Outcome State Fault Refusal :=
  match i with
  | .csrWrite p off width v => Sys2Proof.Machine.execCsrWrite p off width v s
  | .inputPowerPresent => Sys2Proof.Machine.execInputPowerPresent s
  | .backupCellFitted => Sys2Proof.Machine.execBackupCellFitted s
  | .backupCellCutoff => Sys2Proof.Machine.execBackupCellCutoff s
  | .bootStageComplete r => Sys2Proof.Machine.execBootStageComplete r s
  | .dieToDieFlit port crcOk => Sys2Proof.Machine.execDieToDieFlit port crcOk s
  | .laneFailure port group lane => Sys2Proof.Machine.execLaneFailure port group lane s
  | .tickEmit => Sys2Proof.Machine.execTickEmit s
  | .tick link late count ps => Sys2Proof.Machine.execTick link late count ps s
  | .tickWindowExpiry => Sys2Proof.Machine.execTickWindowExpiry s
  | .standbyTakeover => Sys2Proof.Machine.execStandbyTakeover s
  | .holdoverLimit => Sys2Proof.Machine.execHoldoverLimit s
  | .beamTick => Sys2Proof.Machine.execBeamTick s
  | .eclipseStart r => Sys2Proof.Machine.execEclipseStart r s
  | .taskStart le off => Sys2Proof.Machine.execTaskStart le off s
  | .beamOverrun le => Sys2Proof.Machine.execBeamOverrun le s
  | .halt link job origin tick => Sys2Proof.Machine.execHalt link job origin tick s
  | .haltSequenceEnd micros unrepaired => Sys2Proof.Machine.execHaltSequenceEnd micros unrepaired s
  | .holdVote link v => Sys2Proof.Machine.execHoldVote link v s
  | .holdVoteMissing => Sys2Proof.Machine.execHoldVoteMissing s
  | .armVote link v => Sys2Proof.Machine.execArmVote link v s
  | .releaseVote link v => Sys2Proof.Machine.execReleaseVote link v s
  | .collect link v => Sys2Proof.Machine.execCollect link v s
  | .beginFull p => Sys2Proof.Machine.execBeginFull p s
  | .beginDelta p => Sys2Proof.Machine.execBeginDelta p s
  | .check p => Sys2Proof.Machine.execCheck p s
  | .abort p => Sys2Proof.Machine.execAbort p s
  | .discard p => Sys2Proof.Machine.execDiscard p s
  | .imgLoad p v => Sys2Proof.Machine.execImgLoad p v s
  | .imgLoadComplete => Sys2Proof.Machine.execImgLoadComplete s
  | .imgData p v => Sys2Proof.Machine.execImgData p v s
  | .checkComplete => Sys2Proof.Machine.execCheckComplete s
  | .imgArm p v => Sys2Proof.Machine.execImgArm p v s
  | .imgRelease p v => Sys2Proof.Machine.execImgRelease p v s
  | .liveAreaError => Sys2Proof.Machine.execLiveAreaError s
  | .warmupEnd buoy => Sys2Proof.Machine.execWarmupEnd buoy s
  | .rdxCensusSel p v => Sys2Proof.Machine.execRdxCensusSel p v s
  | .matmul die u endAt fetchStall => Sys2Proof.Machine.execMatmul die u endAt fetchStall s
  | .repairDeliver buoy tile clocks => Sys2Proof.Machine.execRepairDeliver buoy tile clocks s
  | .repairAllowExceeded => Sys2Proof.Machine.execRepairAllowExceeded s
  | .meClear p die u v => Sys2Proof.Machine.execMeClear p die u v s
  | .nop u w => Sys2Proof.Machine.execNop u w s
  | .endTask u endAt => Sys2Proof.Machine.execEndTask u endAt s
  | .setvl u w => Sys2Proof.Machine.execSetvl u w s
  | .loopN u body count => Sys2Proof.Machine.execLoopN u body count s
  | .slil u w => Sys2Proof.Machine.execSlil u w s
  | .slih u w => Sys2Proof.Machine.execSlih u w s
  | .sadd u w => Sys2Proof.Machine.execSadd u w s
  | .ssub u w => Sys2Proof.Machine.execSsub u w s
  | .smul u w => Sys2Proof.Machine.execSmul u w s
  | .sget u w => Sys2Proof.Machine.execSget u w s
  | .sfadd u w => Sys2Proof.Machine.execSfadd u w s
  | .sfsub u w => Sys2Proof.Machine.execSfsub u w s
  | .sfmul u w => Sys2Proof.Machine.execSfmul u w s
  | .sfdiv u w => Sys2Proof.Machine.execSfdiv u w s
  | .sfsqrt u w => Sys2Proof.Machine.execSfsqrt u w s
  | .sfrsqrt u w => Sys2Proof.Machine.execSfrsqrt u w s
  | .sfmax u w => Sys2Proof.Machine.execSfmax u w s
  | .sfmin u w => Sys2Proof.Machine.execSfmin u w s
  | .snf u w => Sys2Proof.Machine.execSnf u w s
  | .vadd u w => Sys2Proof.Machine.execVadd u w s
  | .vsub u w => Sys2Proof.Machine.execVsub u w s
  | .vmul u w => Sys2Proof.Machine.execVmul u w s
  | .vfma u w => Sys2Proof.Machine.execVfma u w s
  | .vmin u w => Sys2Proof.Machine.execVmin u w s
  | .vmax u w => Sys2Proof.Machine.execVmax u w s
  | .vabs u w => Sys2Proof.Machine.execVabs u w s
  | .vneg u w => Sys2Proof.Machine.execVneg u w s
  | .vdiv u w => Sys2Proof.Machine.execVdiv u w s
  | .vsqrt u w => Sys2Proof.Machine.execVsqrt u w s
  | .vrsqrt u w => Sys2Proof.Machine.execVrsqrt u w s
  | .vrcp u w => Sys2Proof.Machine.execVrcp u w s
  | .vexp2 u w => Sys2Proof.Machine.execVexp2 u w s
  | .vlog2 u w => Sys2Proof.Machine.execVlog2 u w s
  | .vaddc u w => Sys2Proof.Machine.execVaddc u w s
  | .vfold u w => Sys2Proof.Machine.execVfold u w s
  | .vand u w => Sys2Proof.Machine.execVand u w s
  | .vor u w => Sys2Proof.Machine.execVor u w s
  | .vxor u w => Sys2Proof.Machine.execVxor u w s
  | .vshl u w => Sys2Proof.Machine.execVshl u w s
  | .vshr u w => Sys2Proof.Machine.execVshr u w s
  | .vsel u w => Sys2Proof.Machine.execVsel u w s
  | .vmov u w => Sys2Proof.Machine.execVmov u w s
  | .vidx u w => Sys2Proof.Machine.execVidx u w s
  | .vcvt u w => Sys2Proof.Machine.execVcvt u w s
  | .vcmp u w => Sys2Proof.Machine.execVcmp u w s
  | .mop u w => Sys2Proof.Machine.execMop u w s
  | .mpop u w => Sys2Proof.Machine.execMpop u w s
  | .vrsum u w => Sys2Proof.Machine.execVrsum u w s
  | .vrsumc u w => Sys2Proof.Machine.execVrsumc u w s
  | .vrmax u w => Sys2Proof.Machine.execVrmax u w s
  | .vrmin u w => Sys2Proof.Machine.execVrmin u w s
  | .vramax u w => Sys2Proof.Machine.execVramax u w s
  | .vrssqc u w => Sys2Proof.Machine.execVrssqc u w s
  | .tload u w => Sys2Proof.Machine.execTload u w s
  | .tstream u w => Sys2Proof.Machine.execTstream u w s
  | .vld u w => Sys2Proof.Machine.execVld u w s
  | .topen u w => Sys2Proof.Machine.execTopen u w s
  | .vst u w => Sys2Proof.Machine.execVst u w s
  | .vldw u w => Sys2Proof.Machine.execVldw u w s
  | .twrite u w => Sys2Proof.Machine.execTwrite u w s
  | .veClear p die u v => Sys2Proof.Machine.execVeClear p die u v s
  | .fwd die endAt => Sys2Proof.Machine.execFwd die endAt s
  | .bwd die endAt => Sys2Proof.Machine.execBwd die endAt s
  | .gather die endAt => Sys2Proof.Machine.execGather die endAt s
  | .scatterAdd die endAt => Sys2Proof.Machine.execScatterAdd die endAt s
  | .convert die endAt => Sys2Proof.Machine.execConvert die endAt s
  | .transpose die endAt => Sys2Proof.Machine.execTranspose die endAt s
  | .split64 die endAt => Sys2Proof.Machine.execSplit64 die endAt s
  | .join64 die endAt => Sys2Proof.Machine.execJoin64 die endAt s
  | .reshape die endAt => Sys2Proof.Machine.execReshape die endAt s
  | .aeClear p die v => Sys2Proof.Machine.execAeClear p die v s
  | .gseClear p die v => Sys2Proof.Machine.execGseClear p die v s
  | .lyeClear p die v => Sys2Proof.Machine.execLyeClear p die v s
  | .tstLaneDataRead p t => Sys2Proof.Machine.execTstLaneDataRead p t s
  | .tstLaneDataWrite p t v => Sys2Proof.Machine.execTstLaneDataWrite p t v s
  | .tstLaneSet p t v => Sys2Proof.Machine.execTstLaneSet p t v s
  | .tstLaneClr p t v => Sys2Proof.Machine.execTstLaneClr p t v s
  | .tstClear p t v => Sys2Proof.Machine.execTstClear p t v s
  | .backgroundTestRegion t => Sys2Proof.Machine.execBackgroundTestRegion t s
  | .backgroundTestRegionEnd t pass => Sys2Proof.Machine.execBackgroundTestRegionEnd t pass s
  | .promotion buoy dest => Sys2Proof.Machine.execPromotion buoy dest s
  | .moveTileCopy buoy => Sys2Proof.Machine.execMoveTileCopy buoy s
  | .moveSwitch buoy => Sys2Proof.Machine.execMoveSwitch buoy s
  | .replicaFill buoy dest => Sys2Proof.Machine.execReplicaFill buoy dest s
  | .replicaFillComplete buoy => Sys2Proof.Machine.execReplicaFillComplete buoy s
  | .windowFill buoy => Sys2Proof.Machine.execWindowFill buoy s
  | .writeBack buoy => Sys2Proof.Machine.execWriteBack buoy s
  | .pleBuoySel p v => Sys2Proof.Machine.execPleBuoySel p v s
  | .pleClear p v => Sys2Proof.Machine.execPleClear p v s
  | .dataGroupFailure package group => Sys2Proof.Machine.execDataGroupFailure package group s
  | .refreshRateReport package rate overLimit => Sys2Proof.Machine.execRefreshRateReport package rate overLimit s
  | .perBankRefresh package => Sys2Proof.Machine.execPerBankRefresh package s
  | .wcbWriteOut package => Sys2Proof.Machine.execWcbWriteOut package s
  | .lpdUnitSel p v => Sys2Proof.Machine.execLpdUnitSel p v s
  | .lpdClear p v => Sys2Proof.Machine.execLpdClear p v s
  | .channelFailure c => Sys2Proof.Machine.execChannelFailure c s
  | .spareBlocksExhausted => Sys2Proof.Machine.execSpareBlocksExhausted s
  | .writeCreditAccrual => Sys2Proof.Machine.execWriteCreditAccrual s
  | .homeLoading buoy => Sys2Proof.Machine.execHomeLoading buoy s
  | .deepErase p v => Sys2Proof.Machine.execDeepErase p v s
  | .cryptoEraseComplete => Sys2Proof.Machine.execCryptoEraseComplete s
  | .linkTraining link => Sys2Proof.Machine.execLinkTraining link s
  | .linkTrainingComplete link r => Sys2Proof.Machine.execLinkTrainingComplete link r s
  | .echo link time reply now => Sys2Proof.Machine.execEcho link time reply now s
  | .linkDown link => Sys2Proof.Machine.execLinkDown link s
  | .ackTimeout link => Sys2Proof.Machine.execAckTimeout link s
  | .laneErrorRate link lane => Sys2Proof.Machine.execLaneErrorRate link lane s
  | .flitReceive link crcOk f => Sys2Proof.Machine.execFlitReceive link crcOk f s
  | .ack link seq => Sys2Proof.Machine.execAck link seq s
  | .nak link seq => Sys2Proof.Machine.execNak link seq s
  | .retryTimeout link => Sys2Proof.Machine.execRetryTimeout link s
  | .runStart link slot => Sys2Proof.Machine.execRunStart link slot s
  | .runAckTimeout link flow => Sys2Proof.Machine.execRunAckTimeout link flow s
  | .msg link frag ty content => Sys2Proof.Machine.execMsg link frag ty content s
  | .read link m => Sys2Proof.Machine.execRead link m s
  | .write link m => Sys2Proof.Machine.execWrite link m s
  | .atomic link m => Sys2Proof.Machine.execAtomic link m s
  | .reduceAdd link m => Sys2Proof.Machine.execReduceAdd link m s
  | .readData link r => Sys2Proof.Machine.execReadData link r s
  | .writeDone link r => Sys2Proof.Machine.execWriteDone link r s
  | .atomicData link r => Sys2Proof.Machine.execAtomicData link r s
  | .reduceDone link r => Sys2Proof.Machine.execReduceDone link r s
  | .hello link h m => Sys2Proof.Machine.execHello link h m s
  | .linkState link h m => Sys2Proof.Machine.execLinkState link h m s
  | .assign link h m => Sys2Proof.Machine.execAssign link h m s
  | .membership link h m => Sys2Proof.Machine.execMembership link h m s
  | .membershipApply => Sys2Proof.Machine.execMembershipApply s
  | .join link h m => Sys2Proof.Machine.execJoin link h m s
  | .leave link h number => Sys2Proof.Machine.execLeave link h number s
  | .invalidate link h planBeam buoys => Sys2Proof.Machine.execInvalidate link h planBeam buoys s
  | .placement link h m => Sys2Proof.Machine.execPlacement link h m s
  | .discovery => Sys2Proof.Machine.execDiscovery s
  | .discoveryRetry => Sys2Proof.Machine.execDiscoveryRetry s
  | .fabLinkDisable p v => Sys2Proof.Machine.execFabLinkDisable p v s
  | .fabLinkSel p v => Sys2Proof.Machine.execFabLinkSel p v s
  | .fabRouteSel p v => Sys2Proof.Machine.execFabRouteSel p v s
  | .fabClear p v => Sys2Proof.Machine.execFabClear p v s
  | .bucketCombine bucket => Sys2Proof.Machine.execBucketCombine bucket s
  | .rdxEpochSel p v => Sys2Proof.Machine.execRdxEpochSel p v s
  | .rdxLayerSel p v => Sys2Proof.Machine.execRdxLayerSel p v s
  | .rdxClear p v => Sys2Proof.Machine.execRdxClear p v s
  | .pack => Sys2Proof.Machine.execPack s
  | .unpack => Sys2Proof.Machine.execUnpack s
  | .capture => Sys2Proof.Machine.execCapture s
  | .taken p orbit => Sys2Proof.Machine.execTaken p orbit s
  | .staged p orbit => Sys2Proof.Machine.execStaged p orbit s
  | .orbitInValidate => Sys2Proof.Machine.execOrbitInValidate s
  | .anchorRewriteComplete => Sys2Proof.Machine.execAnchorRewriteComplete s
  | .snapReq p => Sys2Proof.Machine.execSnapReq p s
  | .ckptReq p => Sys2Proof.Machine.execCkptReq p s
  | .snapRelease p => Sys2Proof.Machine.execSnapRelease p s
  | .checkpointComplete => Sys2Proof.Machine.execCheckpointComplete s
  | .rdxRestore p v => Sys2Proof.Machine.execRdxRestore p v s
  | .restoreLoaded => Sys2Proof.Machine.execRestoreLoaded s
  | .cxlMemRead line => Sys2Proof.Machine.execCxlMemRead line s
  | .cxlMemWrite line mask data => Sys2Proof.Machine.execCxlMemWrite line mask data s
  | .apertureRead site off len => Sys2Proof.Machine.execApertureRead site off len s
  | .apertureWrite site off data => Sys2Proof.Machine.execApertureWrite site off data s
  | .apertureDrain site => Sys2Proof.Machine.execApertureDrain site s
  | .aptAperture p v => Sys2Proof.Machine.execAptAperture p v s
  | .inboundRead port addr len => Sys2Proof.Machine.execInboundRead port addr len s
  | .inboundWrite port addr data => Sys2Proof.Machine.execInboundWrite port addr data s
  | .bar4Access off data reply => Sys2Proof.Machine.execBar4Access off data reply s
  | .aptCfgDataRead p reply => Sys2Proof.Machine.execAptCfgDataRead p reply s
  | .aptCfgDataWrite p v ok => Sys2Proof.Machine.execAptCfgDataWrite p v ok s
  | .rootPortLinkDown port cause => Sys2Proof.Machine.execRootPortLinkDown port cause s
  | .aptHostFlags p v => Sys2Proof.Machine.execAptHostFlags p v s
  | .toHost u endAt => Sys2Proof.Machine.execToHost u endAt s
  | .fromHost u endAt => Sys2Proof.Machine.execFromHost u endAt s
  | .hostLinkTimeout => Sys2Proof.Machine.execHostLinkTimeout s
  | .hostDieReset => Sys2Proof.Machine.execHostDieReset s
  | .hostLinkRetrain micros => Sys2Proof.Machine.execHostLinkRetrain micros s
  | .reclaim p => Sys2Proof.Machine.execReclaim p s
  | .scrub p => Sys2Proof.Machine.execScrub p s
  | .recoveryComplete => Sys2Proof.Machine.execRecoveryComplete s
  | .firewallRate => Sys2Proof.Machine.execFirewallRate s
  | .signallingPeriod => Sys2Proof.Machine.execSignallingPeriod s
  | .watchdogExpiry => Sys2Proof.Machine.execWatchdogExpiry s
  | .lockstepMismatch => Sys2Proof.Machine.execLockstepMismatch s
  | .shedEvaluation percent => Sys2Proof.Machine.execShedEvaluation percent s
  | .openRead p obj => Sys2Proof.Machine.execOpenRead p obj s
  | .openWrite p obj => Sys2Proof.Machine.execOpenWrite p obj s
  | .xferPrepared => Sys2Proof.Machine.execXferPrepared s
  | .close p => Sys2Proof.Machine.execClose p s
  | .xferAbort p => Sys2Proof.Machine.execXferAbort p s
  | .verifyFw p => Sys2Proof.Machine.execVerifyFw p s
  | .activateFw p => Sys2Proof.Machine.execActivateFw p s
  | .kprXferDataRead p => Sys2Proof.Machine.execKprXferDataRead p s
  | .kprXferDataWrite p v => Sys2Proof.Machine.execKprXferDataWrite p v s
  | .firmwareSwitch => Sys2Proof.Machine.execFirmwareSwitch s
  | .firmwareTrial ok => Sys2Proof.Machine.execFirmwareTrial ok s
  | .privateWrite off words => Sys2Proof.Machine.execPrivateWrite off words s
  | .privateRead n => Sys2Proof.Machine.execPrivateRead n s
  | .entdaa addr => Sys2Proof.Machine.execEntdaa addr s
  | .setdasa addr => Sys2Proof.Machine.execSetdasa addr s
  | .rstdaa => Sys2Proof.Machine.execRstdaa s
  | .getpid => Sys2Proof.Machine.execGetpid s
  | .getbcr => Sys2Proof.Machine.execGetbcr s
  | .getdcr => Sys2Proof.Machine.execGetdcr s
  | .getstatus => Sys2Proof.Machine.execGetstatus s
  | .getmxds => Sys2Proof.Machine.execGetmxds s
  | .enec => Sys2Proof.Machine.execEnec s
  | .disec => Sys2Proof.Machine.execDisec s
  | .inputUnderVoltage tens => Sys2Proof.Machine.execInputUnderVoltage tens s
  | .inputOverVoltage tens => Sys2Proof.Machine.execInputOverVoltage tens s
  | .backupCellLow mv => Sys2Proof.Machine.execBackupCellLow mv s
  | .hubOverTemperature tenths => Sys2Proof.Machine.execHubOverTemperature tenths s
  | .clockFailure => Sys2Proof.Machine.execClockFailure s
  | .tamperMesh => Sys2Proof.Machine.execTamperMesh s
  | .zeroize => Sys2Proof.Machine.execZeroize s
  | .lntRtcAdjust p v => Sys2Proof.Machine.execLntRtcAdjust p v s
  | .telemetryWrite => Sys2Proof.Machine.execTelemetryWrite s
  | .engineError engine => Sys2Proof.Machine.execEngineError engine s
  | .enterRecovery p => Sys2Proof.Machine.execEnterRecovery p s
  | .leaveRecovery p => Sys2Proof.Machine.execLeaveRecovery p s
  | .fenceEngine p die => Sys2Proof.Machine.execFenceEngine p die s
  | .fenceFull p die => Sys2Proof.Machine.execFenceFull p die s
  | .unfence p die => Sys2Proof.Machine.execUnfence p die s
  | .clearRetired p arg => Sys2Proof.Machine.execClearRetired p arg s
  | .glbEventSel p v => Sys2Proof.Machine.execGlbEventSel p v s
  | .drawMeasurement watts => Sys2Proof.Machine.execDrawMeasurement watts s
  | .hubTemperatureHigh tenths => Sys2Proof.Machine.execHubTemperatureHigh tenths s
  | .inputOvercurrent => Sys2Proof.Machine.execInputOvercurrent s
  | .narrowCsrRead p off width => Sys2Proof.Machine.execNarrowCsrRead p off width s
  | .snapshotDeepWriteComplete => Sys2Proof.Machine.execSnapshotDeepWriteComplete s

end Sys2Proof.Machine
end

