-- ==== Sys2Proof/Safety.lean ====
section
/-! DEFINITION. The terms in which claims about commands are stated: the next state, its records, its faults, and what stays as it was. -/
namespace Sys2Proof.Claims
open Sys2Proof.Machine

/-- The command answers a next state that has the property. -/
def Runs (c : Instr) (s : State) (holds : State → Prop) : Prop := ∃ t, exec c s = .next t ∧ holds t

/-- u with the event records, their log and what has left the module as t has them (R616 to R620). -/
def withRecords (u t : State) : State :=
  { u with
    ev := { u.ev with ring := t.ev.ring, nextSeq := t.ev.nextSeq, lost := t.ev.lost, lostRun := t.ev.lostRun, msix := t.ev.msix }
    nor := { u.nor with log := t.nor.log, unread := t.nor.unread }
    out := t.out }

/-- t is u but for event records, their log, and what has left the module. -/
def UpToRecords (u t : State) : Prop := t = withRecords u t

/-- u with the records of t, and with what a halt of this module writes: the halt, this member's first fault, and the HALT blocks on
its links (R73, R467). -/
def withHalt (u t : State) : State :=
  { withRecords u t with
    beam := { u.beam with stopped := t.beam.stopped, halt := t.beam.halt, ownFault := t.beam.ownFault }
    fab := { u.fab with haltSeen := t.fab.haltSeen, links := t.fab.links } }

/-- t is u but for event records and a halt. -/
def UpToHalt (u t : State) : Prop := t = withHalt u t

/-- The first event recorded after s has this code and this DETAIL, and carries the tick count of s (R616, R617). -/
def Logged (code : Nat) (d : Bytes) (s t : State) : Prop :=
  ∃ r ∈ t.ev.ring, r.code = code ∧ r.detail = d ∧ r.seq = s.ev.nextSeq ∧ r.tick = s.beam.count

/-- One of the n events recorded first after s has this code and this DETAIL. -/
def LoggedWithin (n code : Nat) (d : Bytes) (s t : State) : Prop :=
  ∃ r ∈ t.ev.ring, r.code = code ∧ r.detail = d ∧ ∃ k < n, r.seq = s.ev.nextSeq + BitVec.ofNat 32 k

/-- The module has raised a halt at u: its engines stop at once, and the halt tick is no later than the one of R74 (R73, R467). -/
def Halting (u t : State) : Prop :=
  inJob u = true → t.beam.stopped = true ∧ ∃ h, t.beam.halt = some h ∧ h.tick ≤ haltTickNow u

/-- A fault is raised at u: its record, the halt where the module is ARMED or RUNNING, this member's first fault of the beam, and
nothing else (R12, R73, R624). -/
def Faulted (code : Nat) (d : Bytes) (u t : State) : Prop :=
  Logged code d u t ∧ UpToHalt u t ∧ Halting u t
    ∧ (inJob u = true → u.beam.ownFault = 0 → t.beam.ownFault = code)
    ∧ (inJob u = false → UpToRecords u t)

/-- A write of v over port p reaches the register (R5, R547, R628, R658). -/
def Reaches (p : Port) (r : Reg) (v : Nat) (s : State) : Prop := writePath p r v s = .open

/-- The module keeps no job's beam: neither ARMED nor RUNNING. -/
def NoJob (s : State) : Prop := inJob s = false

/-- The event ring and the serial NOR's log are within their capacities, and no more records are unread than are kept (R618). -/
def LogsBounded (s : State) : Prop :=
  s.ev.ring.length ≤ 4096 ∧ s.nor.log.length ≤ logCapacity ∧ s.nor.unread ≤ s.nor.log.length

/-! ## Vector programs (chapter 07) -/

/-- The engine has taken up the word at its program counter (Table 7.12). -/
def atWordStart (u : Nat) (s : State) : State := updVeUnit u (fun e => { e with pcLast := e.regs.pc, phase := 1 }) s

/-- Where engine u is at the word x, the command runs: the registers go from r to r' as `acts` says, the engine goes on to the next
word, and nothing else of the machine changes (R244). -/
def RunsWord (u : Nat) (x : W64) (c : Instr) (s : State) (acts : VeRegs → VeRegs → Prop) : Prop :=
  atWord s u x = true → Runs c s (fun t =>
    t = { s with ve := t.ve } ∧ (∀ n, n ≠ u → veUnit t n = veUnit s n)
      ∧ ∃ r, acts (veUnit s u).regs r
        ∧ veUnit t u = { veUnit s u with regs := nextWord r, pcLast := (veUnit s u).regs.pc, phase := 1 })

/-- s[D] takes a value, flags are raised, and every other register stays. -/
def ScalarBecomes (d : Nat) (v : Nat × BitVec 5) (r r' : VeRegs) : Prop :=
  sreg r' d = v.1 % 2 ^ 32 ∧ (∀ k, k % 16 ≠ d % 16 → sreg r' k = sreg r k)
    ∧ r' = { r with s := r'.s, flags := r.flags ||| v.2 }

/-- The vector and mask registers are in canonical form: bytes and bits in order, none of them zero. -/
def Canonical (r : VeRegs) : Prop := SMap.wf r.v 0 = true ∧ SMap.wf r.m false = true

/-- Element i of vector register q, as a number (R238). -/
def element (r : VeRegs) (et q i : Nat) : Nat := (vElems r q (etBytes et) i 1).headD 0

/-- Operand b of element i: the register's, or the low bits of the scalar (R246). -/
def elementB (w : VWord) (r : VeRegs) (et i : Nat) : Nat :=
  if w.bs then sreg r w.b.toNat % 2 ^ (8 * etBytes et) else element r et w.b.toNat i

/-- Element i is active (R240). -/
def active (w : VWord) (r : VeRegs) (i : Nat) : Bool := !w.m || maskBit r w.mr.toNat i

/-- Elements first to first + n − 1 of v[D] take their values where they are active, with the flags of the active ones and LC where VL
exceeds the limit; every other element of every register, and all the rest, stays (R239 to R241, R270). -/
def ElementsBecome (w : VWord) (et first limit : Nat) (v : Nat → Nat × BitVec 5) (r r' : VeRegs) : Prop :=
  (∀ i < min r.vl limit, element r' et w.d.toNat (first + i)
      = if active w r i then (v i).1 % 2 ^ (8 * etBytes et) else element r et w.d.toNat (first + i))
    ∧ (∀ k, (k < 4096 * w.d.toNat + etBytes et * first ∨ 4096 * w.d.toNat + etBytes et * (first + min r.vl limit) ≤ k) →
      SMap.get r'.v k 0 = SMap.get r.v k 0)
    ∧ (∀ k, r'.flags.getLsbD k = true ↔
      r.flags.getLsbD k = true ∨ (limit < r.vl ∧ flagLC.getLsbD k = true)
        ∨ ∃ i < min r.vl limit, active w r i = true ∧ (v i).2.getLsbD k = true)
    ∧ r' = { r with v := r'.v, flags := r'.flags }

/-- Bits of m[D] below n take their values where they are active, and every other bit stays (R240, R264). -/
def MaskBecomes (w : VWord) (n : Nat) (b : Nat → Bool) (r r' : VeRegs) : Prop :=
  (∀ i < n, maskBit r' w.d.toNat i = if active w r i then b i else maskBit r w.d.toNat i)
    ∧ (∀ k, (k < 4096 * (w.d.toNat % 4) ∨ 4096 * (w.d.toNat % 4) + n ≤ k) → SMap.get r'.m k false = SMap.get r.m k false)
    ∧ r' = { r with m := r'.m, flags := r'.flags }

/-! ## Messages (chapter 13) -/

/-- The link, header and content of a flit message that is received. -/
def messageOf : Instr → Option (Fin 48 × Message)
  | .hello l h m => some (l, ⟨h, .hello m⟩)
  | .linkState l h m => some (l, ⟨h, .linkState m⟩)
  | .assign l h m => some (l, ⟨h, .assign m⟩)
  | .membership l h m => some (l, ⟨h, .membership m⟩)
  | .join l h m => some (l, ⟨h, .join m⟩)
  | .leave l h n => some (l, ⟨h, .leave n⟩)
  | .invalidate l h p bs => some (l, ⟨h, .invalidate p bs⟩)
  | .placement l h m => some (l, ⟨h, .placement m⟩)
  | _ => none

/-- A message is on its way over a link: among the flits not yet acknowledged or not yet sent (R442). -/
def Carries (t : State) (l : Nat) (m : Message) : Prop := ∃ f ∈ (linkOf t l).replay ++ (linkOf t l).waiting, f.msg = some m

/-- A message goes on over every given link but the one it came on (R464). -/
def GoesOn (ls : List Nat) (l : Nat) (m : Message) (t : State) : Prop := ∀ n ∈ ls, n ≠ l → Carries t n m

/-! ## The CSR space (chapter 19) -/

/-- The command that a write of a register is, where the table has a row for it; GLB_EVENT_SEL and LNT_RTC_ADJUST are not listed. -/
def rowOf (p : Port) (v : W64) : Reg → Option Instr
  | .imgLoad => some (.imgLoad p v)
  | .imgData => some (.imgData p v)
  | .imgArm => some (.imgArm p v)
  | .imgRelease => some (.imgRelease p v)
  | .pleBuoySel => some (.pleBuoySel p v)
  | .pleClear => some (.pleClear p v)
  | .fabLinkDisable => some (.fabLinkDisable p v)
  | .fabLinkSel => some (.fabLinkSel p v)
  | .fabRouteSel => some (.fabRouteSel p v)
  | .fabClear => some (.fabClear p v)
  | .rdxEpochSel => some (.rdxEpochSel p v)
  | .rdxLayerSel => some (.rdxLayerSel p v)
  | .rdxClear => some (.rdxClear p v)
  | .rdxCensusSel => some (.rdxCensusSel p v)
  | .rdxRestore => some (.rdxRestore p v)
  | .lpdUnitSel => some (.lpdUnitSel p v)
  | .lpdClear => some (.lpdClear p v)
  | .deepErase => some (.deepErase p v)
  | .kprXferData => some (.kprXferDataWrite p v)
  | .aptAperture => some (.aptAperture p v)
  | .aptHostFlags => some (.aptHostFlags p v)
  | .me d u .clear => some (.meClear p (dieOf d) (unitOf u) v)
  | .ve d u .clear => some (.veClear p (dieOf d) (unitOf u) v)
  | .ae d .clear => some (.aeClear p (dieOf d) v)
  | .gse d .clear => some (.gseClear p (dieOf d) v)
  | .lye d .clear => some (.lyeClear p (dieOf d) v)
  | .tst t .clear => some (.tstClear p (storeNo t) v)
  | .tst t .laneData => some (.tstLaneDataWrite p (storeNo t) v)
  | .tst t .laneSet => some (.tstLaneSet p (storeNo t) v)
  | .tst t .laneClr => some (.tstLaneClr p (storeNo t) v)
  | _ => none

/-- A register that a read leaves as it is and that the reader alone decides. -/
def plainRead : Reg → Bool
  | .tst _ .laneData => false
  | .kprXferData => false
  | .apertureDrain => false
  | .aptCfgData => false
  | _ => true

end Sys2Proof.Claims
end

