-- ==== Sys2Proof/WellFormed.lean ====
section
/-! DEFINITION. Well-formed commands: operands that a port, a link or a register of the spec's widths can carry. -/
namespace Sys2Proof

/-- A number of 32 bits: a buoy, tile, orbit or bucket number, an offset within a beam, an argument (Tables 3.6, 14.5, 18.5). -/
def wf32 (n : Nat) : Bool := decide (n < 2 ^ 32)

/-- A CSR access lies in BAR0 (Table 16.2) and is 1, 2, 4 or 8 bytes wide. -/
def wfAccess (off width : Nat) : Bool := decide (off + width ≤ 2 ^ 25) && [1, 2, 4, 8].contains width

/-- A span of bytes is not empty and lies below 2 ^ bits. -/
def wfSpan (bits a n : Nat) : Bool := n != 0 && decide (a + n ≤ 2 ^ bits)

/-- Fragments of a control message of a type (Table 13.9). -/
def messageFragments (ty : Nat) : Nat := if ty = 1 || ty = 3 then 2 else if ty = 2 || ty = 4 then 4 else 0

/-- A control message is of the type of its row, and a collective's number and operation fit their fields (Table 13.9). -/
def wfCtl (ty : Nat) : CtlMsg → Bool
  | .holdVote _ _ _ _ => ty == 1
  | .armVote _ _ _ _ _ => ty == 2
  | .collect _ num op _ _ => ty == 3 && decide (num < 2 ^ 16) && decide (op < 4)
  | .releaseVote _ _ _ _ _ => ty == 4

/-- A flit's fields fit (Table 13.2); a message flit carries its message, and no other does. -/
def wfFlit (f : Flit) : Bool :=
  decide (f.seq < 2 ^ 16) && decide (f.kind ≤ 4) && decide (f.flow < 2 ^ 16) && decide (f.dest < 2 ^ 13) && decide (f.hops < 16)
    && decide (f.data.length ≤ 240) && (f.msg.isSome == (f.kind == 1))

/-- A message header's fields fit (R464). -/
def wfHeader (h : MsgHeader) : Bool :=
  decide (h.scope < 4) && decide (h.hopsLeft < 256) && decide (h.origin < 2 ^ 16) && decide (h.dest < 2 ^ 16) && wf32 h.id

/-- A transaction is a whole header of the row's OP, with its data (Table 13.6). -/
def wfTx (op : Byte) (m : Bytes) : Bool := decide (32 ≤ m.length) && m.head? == some op

/-- A reply's TAG and STATUS fit (R463). -/
def wfReply (r : Reply) : Bool := decide (r.tag < 2 ^ 16) && decide (r.status < 256)

/-- A place that a buoy can be moved to (R336 to R340). -/
def wfPlace : Place → Bool
  | .t0 store first count word => decide (store < 9) && decide (first + count ≤ 32) && decide (word < 2 ^ 21)
  | .t1 offset => decide (offset < 2 ^ 45)
  | .owner m => decide (m < 2 ^ 13)
  | .deep n => decide (n < 2 ^ 36)

/-- The operands of a command are ones that it can carry. -/
def Instr.wf : Instr → Bool
  | .csrWrite _ off width _ => wfAccess off width
  | .inputPowerPresent => true
  | .backupCellFitted => true
  | .backupCellCutoff => true
  | .bootStageComplete _ => true
  | .dieToDieFlit _ _ => true
  | .laneFailure _ _ lane => decide (lane < 64)
  | .tickEmit => true
  | .tick _ late count _ => decide (late < 2 ^ 24) && decide (count < 2 ^ 48)
  | .tickWindowExpiry => true
  | .standbyTakeover => true
  | .holdoverLimit => true
  | .beamTick => true
  | .eclipseStart _ => true
  | .taskStart le off => decide (le < 2 ^ 16) && decide (off < 2 ^ 32)
  | .beamOverrun le => decide (le < 2 ^ 16)
  | .halt _ _ origin at_ => decide (origin < 2 ^ 13) && decide (at_ < 2 ^ 32)
  | .haltSequenceEnd micros _ => decide (micros < 2 ^ 32)
  | .holdVote _ v => wfCtl 1 v
  | .holdVoteMissing => true
  | .armVote _ v => wfCtl 2 v
  | .releaseVote _ v => wfCtl 4 v
  | .collect _ v => wfCtl 3 v
  | .beginFull _ => true
  | .beginDelta _ => true
  | .check _ => true
  | .abort _ => true
  | .discard _ => true
  | .imgLoad _ _ => true
  | .imgLoadComplete => true
  | .imgData _ _ => true
  | .checkComplete => true
  | .imgArm _ _ => true
  | .imgRelease _ _ => true
  | .liveAreaError => true
  | .warmupEnd buoy => wf32 buoy
  | .rdxCensusSel _ _ => true
  | .matmul _ _ endAt fetchStall => wf32 endAt && wf32 fetchStall
  | .repairDeliver buoy tile clocks => wf32 buoy && wf32 tile && wf32 clocks
  | .repairAllowExceeded => true
  | .meClear _ _ _ _ => true
  | .nop _ _ => true
  | .endTask _ endAt => wf32 endAt
  | .setvl _ _ => true
  | .loopN _ _ _ => true
  | .slil _ _ => true
  | .slih _ _ => true
  | .sadd _ _ => true
  | .ssub _ _ => true
  | .smul _ _ => true
  | .sget _ _ => true
  | .sfadd _ _ => true
  | .sfsub _ _ => true
  | .sfmul _ _ => true
  | .sfdiv _ _ => true
  | .sfsqrt _ _ => true
  | .sfrsqrt _ _ => true
  | .sfmax _ _ => true
  | .sfmin _ _ => true
  | .snf _ _ => true
  | .vadd _ _ => true
  | .vsub _ _ => true
  | .vmul _ _ => true
  | .vfma _ _ => true
  | .vmin _ _ => true
  | .vmax _ _ => true
  | .vabs _ _ => true
  | .vneg _ _ => true
  | .vdiv _ _ => true
  | .vsqrt _ _ => true
  | .vrsqrt _ _ => true
  | .vrcp _ _ => true
  | .vexp2 _ _ => true
  | .vlog2 _ _ => true
  | .vaddc _ _ => true
  | .vfold _ _ => true
  | .vand _ _ => true
  | .vor _ _ => true
  | .vxor _ _ => true
  | .vshl _ _ => true
  | .vshr _ _ => true
  | .vsel _ _ => true
  | .vmov _ _ => true
  | .vidx _ _ => true
  | .vcvt _ _ => true
  | .vcmp _ _ => true
  | .mop _ _ => true
  | .mpop _ _ => true
  | .vrsum _ _ => true
  | .vrsumc _ _ => true
  | .vrmax _ _ => true
  | .vrmin _ _ => true
  | .vramax _ _ => true
  | .vrssqc _ _ => true
  | .tload _ _ => true
  | .tstream _ _ => true
  | .vld _ _ => true
  | .topen _ _ => true
  | .vst _ _ => true
  | .vldw _ _ => true
  | .twrite _ _ => true
  | .veClear _ _ _ _ => true
  | .fwd _ endAt => wf32 endAt
  | .bwd _ endAt => wf32 endAt
  | .gather _ endAt => wf32 endAt
  | .scatterAdd _ endAt => wf32 endAt
  | .convert _ endAt => wf32 endAt
  | .transpose _ endAt => wf32 endAt
  | .split64 _ endAt => wf32 endAt
  | .join64 _ endAt => wf32 endAt
  | .reshape _ endAt => wf32 endAt
  | .aeClear _ _ _ => true
  | .gseClear _ _ _ => true
  | .lyeClear _ _ _ => true
  | .tstLaneDataRead _ _ => true
  | .tstLaneDataWrite _ _ _ => true
  | .tstLaneSet _ _ _ => true
  | .tstLaneClr _ _ _ => true
  | .tstClear _ _ _ => true
  | .backgroundTestRegion _ => true
  | .backgroundTestRegionEnd _ _ => true
  | .promotion buoy dest => wf32 buoy && wfPlace dest
  | .moveTileCopy buoy => wf32 buoy
  | .moveSwitch buoy => wf32 buoy
  | .replicaFill buoy dest => wf32 buoy && wfPlace dest
  | .replicaFillComplete buoy => wf32 buoy
  | .windowFill buoy => wf32 buoy
  | .writeBack buoy => wf32 buoy
  | .pleBuoySel _ _ => true
  | .pleClear _ _ => true
  | .dataGroupFailure _ _ => true
  | .refreshRateReport _ rate _ => decide (rate < 256)
  | .perBankRefresh _ => true
  | .wcbWriteOut _ => true
  | .lpdUnitSel _ _ => true
  | .lpdClear _ _ => true
  | .channelFailure _ => true
  | .spareBlocksExhausted => true
  | .writeCreditAccrual => true
  | .homeLoading buoy => wf32 buoy
  | .deepErase _ _ => true
  | .cryptoEraseComplete => true
  | .linkTraining _ => true
  | .linkTrainingComplete _ _ => true
  | .echo _ time _ now => decide (time < 2 ^ 64) && decide (now < 2 ^ 64)
  | .linkDown _ => true
  | .ackTimeout _ => true
  | .laneErrorRate _ _ => true
  | .flitReceive _ _ f => wfFlit f
  | .ack _ seq => decide (seq < 2 ^ 16)
  | .nak _ seq => decide (seq < 2 ^ 16)
  | .retryTimeout _ => true
  | .runStart _ slot => decide (1 ≤ slot) && decide (slot < 256)
  | .runAckTimeout _ flow => decide (flow < 2 ^ 16)
  | .msg _ frag ty content => decide (frag < messageFragments ty) && decide (content.length = 8)
  | .read _ m => wfTx 1 m
  | .write _ m => wfTx 2 m
  | .atomic _ m => wfTx 3 m
  | .reduceAdd _ m => wfTx 4 m
  | .readData _ r => wfReply r
  | .writeDone _ r => wfReply r
  | .atomicData _ r => wfReply r
  | .reduceDone _ r => wfReply r
  | .hello _ h _ => wfHeader h
  | .linkState _ h _ => wfHeader h
  | .assign _ h _ => wfHeader h
  | .membership _ h _ => wfHeader h
  | .membershipApply => true
  | .join _ h _ => wfHeader h
  | .leave _ h number => wfHeader h && decide (number < 2 ^ 13)
  | .invalidate _ h planBeam buoys => wfHeader h && wf32 planBeam && buoys.all wf32
  | .placement _ h m => wfHeader h && wf32 m.buoy && wf32 m.tile
  | .discovery => true
  | .discoveryRetry => true
  | .fabLinkDisable _ _ => true
  | .fabLinkSel _ _ => true
  | .fabRouteSel _ _ => true
  | .fabClear _ _ => true
  | .bucketCombine bucket => wf32 bucket
  | .rdxEpochSel _ _ => true
  | .rdxLayerSel _ _ => true
  | .rdxClear _ _ => true
  | .pack => true
  | .unpack => true
  | .capture => true
  | .taken _ orbit => wf32 orbit
  | .staged _ orbit => wf32 orbit
  | .orbitInValidate => true
  | .anchorRewriteComplete => true
  | .snapReq _ => true
  | .ckptReq _ => true
  | .snapRelease _ => true
  | .checkpointComplete => true
  | .rdxRestore _ _ => true
  | .restoreLoaded => true
  | .cxlMemRead line => decide (line < 2 ^ 39)
  | .cxlMemWrite line _ data => decide (line < 2 ^ 39) && decide (data.length = 64)
  | .apertureRead _ off len => wfSpan 32 off len
  | .apertureWrite _ off data => wfSpan 32 off data.length
  | .apertureDrain _ => true
  | .aptAperture _ _ => true
  | .inboundRead _ addr len => wfSpan 64 addr len
  | .inboundWrite _ addr data => wfSpan 64 addr data.length
  | .bar4Access off data reply => decide (off < 2 ^ 30) && decide ((data.getD []).length ≤ 64) && decide (reply.length ≤ 64)
  | .aptCfgDataRead _ _ => true
  | .aptCfgDataWrite _ _ _ => true
  | .rootPortLinkDown _ cause => decide (cause = 1) || decide (cause = 2)
  | .aptHostFlags _ _ => true
  | .toHost _ endAt => wf32 endAt
  | .fromHost _ endAt => wf32 endAt
  | .hostLinkTimeout => true
  | .hostDieReset => true
  | .hostLinkRetrain micros => wf32 micros
  | .reclaim _ => true
  | .scrub _ => true
  | .recoveryComplete => true
  | .firewallRate => true
  | .signallingPeriod => true
  | .watchdogExpiry => true
  | .lockstepMismatch => true
  | .shedEvaluation percent => decide (percent ≤ 100)
  | .openRead _ obj => decide (obj < 256)
  | .openWrite _ obj => decide (obj < 256)
  | .xferPrepared => true
  | .close _ => true
  | .xferAbort _ => true
  | .verifyFw _ => true
  | .activateFw _ => true
  | .kprXferDataRead _ => true
  | .kprXferDataWrite _ _ => true
  | .firmwareSwitch => true
  | .firmwareTrial _ => true
  | .privateWrite off _ => wf32 off
  | .privateRead _ => true
  | .entdaa _ => true
  | .setdasa _ => true
  | .rstdaa => true
  | .getpid => true
  | .getbcr => true
  | .getdcr => true
  | .getstatus => true
  | .getmxds => true
  | .enec => true
  | .disec => true
  | .inputUnderVoltage _ => true
  | .inputOverVoltage _ => true
  | .backupCellLow _ => true
  | .hubOverTemperature _ => true
  | .clockFailure => true
  | .tamperMesh => true
  | .zeroize => true
  | .lntRtcAdjust _ _ => true
  | .telemetryWrite => true
  | .engineError engine => decide (engine < 2 ^ 16)
  | .enterRecovery _ => true
  | .leaveRecovery _ => true
  | .fenceEngine _ die => wf32 die
  | .fenceFull _ die => wf32 die
  | .unfence _ die => wf32 die
  | .clearRetired _ arg => wf32 arg
  | .glbEventSel _ _ => true
  | .drawMeasurement watts => decide (watts < 2 ^ 16)
  | .hubTemperatureHigh _ => true
  | .inputOvercurrent => true
  | .narrowCsrRead _ off width => wfAccess off width
  | .snapshotDeepWriteComplete => true

end Sys2Proof
end

