-- ==== Sys2Proof/Certificates/Slice0/Obligations.lean ====
section
/-! DEFINITION. The statements about the machine, in the order of the spec's chapters. Every statement about a command says that `exec`
answers a next state and what that state holds. -/

open Sys2Proof Sys2Proof.Machine Sys2Proof.Claims

/-! ## The step, totality and reset -/

/-- O1. A step runs the command at the front of the queue with the queue's rest. -/
def Obligations.StepRunsFront : Prop :=
  ∀ (c : Instr) (r : List Instr) (s : State), s.pending = c :: r → step s = exec c { s with pending := r }

/-- O2. With no command waiting, one arithmetic clock passes: the beam offset and the age of the base tick rise by 1 and LNT_RTC by two
thirds of a nanosecond (R611), and nothing passes in OFF. The idle clock is the model's choice (log 60). -/
def Obligations.IdleStepPassesAClock : Prop :=
  ∀ s : State, s.pending = [] →
    (s.glb.state = .off → step s = .next s) ∧
    (s.glb.state ≠ .off → ∃ t, step s = .next t ∧ t.beam.offset = s.beam.offset + 1 ∧ t.beam.sinceTick = s.beam.sinceTick + 1
      ∧ BitVec.ofNat 64 t.lnt.rtcThirds + 3 * t.lnt.rtc = BitVec.ofNat 64 s.lnt.rtcThirds + 3 * s.lnt.rtc + 2
      ∧ t.glb = s.glb ∧ t.img = s.img ∧ t.live = s.live ∧ t.lpd = s.lpd ∧ t.tst = s.tst ∧ t.ev = s.ev)

/-- O3. No command stops the machine: every one answers a next state, in every state. -/
def Obligations.EveryCommandAnswers : Prop := ∀ (c : Instr) (s : State), ∃ t, exec c s = .next t

/-- O4. A module reset leaves every CSR at its reset value (R39), so that the module is in LANTERN at boot stage 0x01 (Table 1.10), and
keeps Lantern, the serial NOR's settings, the deep tier's media and the queue of commands.
Readings of the model's own: log 1, 6. -/
def Obligations.ModuleResetLeaves : Prop :=
  ∀ s : State, let t := moduleReset s
    t.glb = {} ∧ t.beam = {} ∧ t.img = {} ∧ t.live = {} ∧ t.shadow = {} ∧ t.num = {} ∧ t.me = [] ∧ t.ve = [] ∧ t.ae = [] ∧ t.gse = []
      ∧ t.lye = [] ∧ t.tst = [] ∧ t.ple = {} ∧ t.fab = {} ∧ t.rdx = {} ∧ t.orbit = {} ∧ t.host = {}
      ∧ t.lpd.cells = [] ∧ t.deep.objects = s.deep.objects ∧ t.lnt = s.lnt ∧ t.env = s.env ∧ t.pending = s.pending
      ∧ t.nor.vaultSeed = s.nor.vaultSeed ∧ t.nor.engineFences = s.nor.engineFences ∧ t.nor.fullFences = s.nor.fullFences
      ∧ t.nor.policy = s.nor.policy

/-! ## Power, boot, comparators (chapters 01, 17, 20) -/

/-- O5. INPUT_POWER_PRESENT, BACKUP_CELL_FITTED and BACKUP_CELL_CUTOFF (R34, Table 1.8). -/
def Obligations.SuppliesComeAndGo : Prop :=
  (∀ s : State, s.glb.state = .off → Runs .inputPowerPresent s (fun t =>
      t.glb = {} ∧ t.lnt = { power := true, cellFitted := s.lnt.cellFitted } ∧ ∃ r ∈ t.ev.ring, r.code = 0x0100 ∧ r.detail = [0, 1]))
  ∧ (∀ s : State, s.glb.state = .lantern → s.lnt.power = false → s.lnt.zeroizePending = false → s.lnt.heldAlarms = [] →
      Runs .inputPowerPresent s (fun t =>
        t.glb = {} ∧ t.img = {} ∧ t.lnt = { s.lnt with power := true, now := s.lnt.now &&& 0x3C }))
  ∧ (∀ s : State, s.glb.state = .off → Runs .backupCellFitted s (fun t =>
      UpToRecords { s with glb := { s.glb with state := .lantern, prev := .off }, lnt := { power := false, cellFitted := true } } t
        ∧ ∃ r ∈ t.ev.ring, r.code = 0x0100 ∧ r.detail = [0, 1]))
  ∧ (∀ s : State, s.glb.state = .lantern → s.lnt.power = false → Runs .backupCellCutoff s (fun t =>
      UpToRecords { s with glb := { s.glb with state := .off, prev := .lantern }, lnt := { s.lnt with cellFitted := false } } t
        ∧ Logged 0x0100 [1, 0] s t))

/-- O6. BOOT_STAGE_COMPLETE: each stage hands over to the next with what it has found, and the last one ends in READY (R42 to R45,
R384, R388, R414, R548, R595).
Readings of the model's own: log 80. -/
def Obligations.BootStagesAdvance : Prop :=
  ∀ (r : BootReport) (s : State), s.glb.state = .lantern → s.lnt.power = true →
    (s.glb.bootStage = 1 → r.hubOk = true → slotValid s s.nor.active = true → Runs (.bootStageComplete r) s (fun t =>
      t.glb.bootStage = 2 ∧ t.glb.state = .lantern ∧ t.glb.serial = BitVec.ofNat 32 s.nor.serial))
    ∧ (s.glb.bootStage = 1 → r.hubOk = true → slotValid s s.nor.active = false → slotValid s (!s.nor.active) = true →
      Runs (.bootStageComplete r) s (fun t =>
        t.glb.bootStage = 2 ∧ t.nor.active = !s.nor.active ∧ Logged 0x5100 [] s t))
    ∧ (s.glb.bootStage = 1 → (r.hubOk = false ∨ slotValid s false = false ∧ slotValid s true = false) →
      Runs (.bootStageComplete r) s (fun t => t.glb.state = .recovery ∧ t.glb.recovery = .bootFailed))
    ∧ (s.glb.bootStage = 2 → Runs (.bootStageComplete r) s (fun t =>
      t.glb.bootStage = 3 ∧ t.glb.present = r.dies
        ∧ (∀ n : Fin 8, r.dies.getLsbD n = false → t.glb.fullFenced.getLsbD n = true)
        ∧ (∀ n : Fin 8, s.nor.fullFences.getLsbD n = true → t.glb.fullFenced.getLsbD n = true)))
    ∧ (s.glb.bootStage = 3 → Runs (.bootStageComplete r) s (fun t =>
      t.glb.bootStage = 4 ∧ t.nor.trained = t.lpd.units ∧ t.lpd.noEcc = r.noEcc
        ∧ (∀ u ∈ t.lpd.units, u < 256 ∧ t.nor.retiredUnits.contains u = false)))
    ∧ (s.glb.bootStage = 4 → Runs (.bootStageComplete r) s (fun t =>
      t.glb.bootStage = 5 ∧ t.deep.credit = s.deep.creditNor
        ∧ (∀ c < 16, r.channels.getLsbD c = false → t.nor.retiredChannels.contains c = true ∧ t.deep.channels.contains c = false)))
    ∧ (s.glb.bootStage = 5 → Runs (.bootStageComplete r) s (fun t =>
      t.glb.bootStage = 6 ∧ t.host.hostUp = r.hostUp ∧ t.host.partnerUp = r.partnerUp ∧ t.fab.location = s.nor.location
        ∧ t.fab.disable = s.nor.disable
        ∧ (regionSizeOk s.nor = true → t.host.regionGib = s.nor.regionBytes / 2 ^ 30)
        ∧ (regionSizeOk s.nor = false → t.host.regionGib = 64 ∧ Logged 0x5009 [] s t)))
    ∧ (s.glb.bootStage = 6 → Runs (.bootStageComplete r) s (fun t => t = { s with glb := { s.glb with bootStage := 7 } }))
    ∧ (s.glb.bootStage = 7 → s.fab.discovery = 2 → Runs (.bootStageComplete r) s (fun t =>
      t.glb.state = .ready ∧ t.glb.bootStage = 0 ∧ t.glb.capValid = true ∧ t.glb.heldFences = []))

/-- O7. The comparators (R611, R644, Table 17.8) with the factory's alarm levels (R612): INPUT_UNDER_VOLTAGE, INPUT_OVER_VOLTAGE and
INPUT_OVERCURRENT take the module to LANTERN, or to OFF with no cell; BACKUP_CELL_LOW logs; HUB_OVER_TEMPERATURE and CLOCK_FAILURE halt;
TAMPER_MESH asks for ZEROIZE.
Readings of the model's own: log 78, 89. -/
def Obligations.ComparatorsRaiseAlarms : Prop :=
  (∀ (v : BitVec 16) (s : State), s.lnt.power = true →
    let lost (code : Nat) (bit : BitVec 6) (t : State) : Prop :=
      t.lnt.power = false ∧ t.lnt.latched = s.lnt.latched ||| bit ∧ t.glb.state = (if s.lnt.cellFitted then .lantern else .off)
        ∧ t.lpd.cells = [] ∧ t.beam.halt = none ∧ t.host.hostUp = false ∧ Out.diesReset ∈ t.out ∧ Logged code [] s t
    Runs (.inputUnderVoltage v) s (fun t => lost 0xD100 1 t ∧ t.lnt.input = v)
      ∧ Runs (.inputOverVoltage v) s (fun t => lost 0xD101 2 t ∧ t.lnt.input = v)
      ∧ Runs .inputOvercurrent s (fun t => lost 0xD100 1 t ∧ t.lnt.input = s.lnt.input))
  ∧ (∀ (mv : BitVec 16) (s : State), s.glb.state ≠ .off → s.nor.policy = none → s.lnt.now &&& 4 = 0 →
      Runs (.backupCellLow mv) s (fun t =>
        let l := { s.lnt with cell := mv, now := s.lnt.now ||| 4, latched := s.lnt.latched ||| 4 }
        if s.lnt.power then UpToRecords { s with lnt := l } t ∧ Logged 0xD102 [] s t
        else t = { s with lnt := { l with heldAlarms := s.lnt.heldAlarms ++ [0xD102] } }))
  ∧ (∀ (x : BitVec 16) (s : State), s.lnt.power = true → s.nor.policy = none →
      (s.lnt.now &&& 8 = 0 → Runs (.hubOverTemperature x) s (fun t =>
        let u : State := { s with lnt := { s.lnt with hubTemp := x, now := s.lnt.now ||| 8, latched := s.lnt.latched ||| 8 } }
        UpToHalt u t ∧ Halting u t ∧ Logged 0xD103 [] s t))
      ∧ (s.lnt.now &&& 16 = 0 → Runs .clockFailure s (fun t =>
        let u : State := { s with lnt := { s.lnt with now := s.lnt.now ||| 16, latched := s.lnt.latched ||| 16 } }
        UpToHalt u t ∧ Halting u t ∧ Logged 0xD104 [] s t))
      ∧ (s.lnt.now &&& 32 = 0 → s.glb.state ≠ .off → Runs .tamperMesh s (fun t =>
        t.kpr.zeroizeBusy = true ∧ t.lnt.zeroizeAlarm = 0xD105 ∧ t.lnt.latched = s.lnt.latched ||| 32 ∧ Halting s t
          ∧ Logged 0xD105 [] s t)))

/-- O8. ZEROIZE outside ARMED and RUNNING (R614): keys and media keys are replaced, every deep-tier object is erased, T1, the tile
stores and the accumulators are cleared, and the module leaves RECOVERY by a module reset.
Readings of the model's own: log 7. -/
def Obligations.ZeroizeDestroys : Prop :=
  ∀ s : State, s.kpr.zeroizeBusy = true → inJob s = false → Runs .zeroize s (fun t =>
    t.glb = {} ∧ t.lpd.cells = [] ∧ t.lpd.wcb = [] ∧ t.tst = [] ∧ t.me = [] ∧ t.deep.objects = [] ∧ t.deep.erasing = some 0xF
      ∧ t.kpr.zeroizeBusy = false ∧ t.lnt.zeroizePending = false ∧ t.nor.vaultSeed.isSome = true
      ∧ (s.glb.state = .recovery ∨ s.glb.state = .lantern → t.lnt.zeroizeCount = s.lnt.zeroizeCount + 1))

/-- O9. DRAW_MEASUREMENT above 1 750 W and HUB_TEMPERATURE_HIGH above 95 °C, once until the junction has been below 90 °C
(R642, R647).
Readings of the model's own: log 78. -/
def Obligations.SensorsRaiseEvents : Prop :=
  (∀ (w : Nat) (s : State), s.lnt.power = true →
    Runs (.drawMeasurement w) s (fun t =>
      if 1750 < w then UpToRecords s t ∧ Logged 0x5400 (leBytes 2 w) s t else t = s))
  ∧ (∀ (x : BitVec 16) (s : State), s.lnt.power = true → 950 < x.toInt →
    Runs (.hubTemperatureHigh x) s (fun t =>
      t.lnt.hubTemp = x ∧ t.kpr.tempArmed = false ∧ t.glb = s.glb
        ∧ (s.kpr.tempArmed = true → Logged 0x5401 (leBytes 2 x.toNat) s t) ∧ (s.kpr.tempArmed = false → t.ev = s.ev)))
  ∧ (∀ (x : BitVec 16) (s : State), s.lnt.power = true → x.toInt < 900 →
    Runs (.hubTemperatureHigh x) s (fun t => t.lnt.hubTemp = x ∧ t.kpr.tempArmed = true ∧ t.ev = s.ev))

/-- O10. DIE_TO_DIE_FLIT and LANE_FAILURE (R19, R20): a flit whose CRC fails is replayed, the third replay in a beam is fault 0x8101, and
a lane that fails while RUNNING is fault 0x8100; the port retrains in the halt sequence. -/
def Obligations.DieToDieFaults : Prop :=
  (∀ (p : DiePort) (s : State), portInService s p = true →
    Runs (.dieToDieFlit p true) s (fun t => t = s)
    ∧ (replaysOf s.glb p ≠ 2 → Runs (.dieToDieFlit p false) s (fun t =>
        replaysOf t.glb p = replaysOf s.glb p + 1 ∧ t.out = .replay p :: s.out
          ∧ t = { s with glb := { s.glb with replays := t.glb.replays }, out := t.out }))
    ∧ (replaysOf s.glb p = 2 → Runs (.dieToDieFlit p false) s (fun t =>
        p ∈ t.glb.retrain ∧ replaysOf t.glb p = 3 ∧ Halting s t ∧ Logged 0x8101 [] s t)))
  ∧ (∀ (p : DiePort) (g l : Nat) (s : State), portInService s p = true →
    (s.glb.state = .running → Runs (.laneFailure p g l) s (fun t =>
      Faulted 0x8100 [] { s with glb := { s.glb with failedLanes := s.glb.failedLanes ++ [(p, g, l)], retrain := t.glb.retrain } } t
        ∧ p ∈ t.glb.retrain))
    ∧ (s.glb.state ≠ .running → Runs (.laneFailure p g l) s (fun t =>
      t = { s with glb := { s.glb with failedLanes := s.glb.failedLanes ++ [(p, g, l)] } })))

/-! ## Ticks (chapter 02) -/

/-- O11. TICK_EMIT: the time master counts a base tick and emits it on every link that is up (R47); a module that is not the master
emits nothing. -/
def Obligations.TimeMasterEmits : Prop :=
  ∀ s : State,
    (s.beam.role = .master → s.beam.countValid = true → Runs .tickEmit s (fun t =>
      t.beam.count = s.beam.count + 1 ∧ t.beam.sinceTick = 0 ∧ t.lnt.tickEst = s.beam.count + 1 ∧ t.lnt.tickRtc = t.lnt.rtc
        ∧ t.beam.offset = (s.beam.count.toNat + 1) % beamTicks (jobRws s) * 75000
        ∧ ∀ l ∈ upLinks s, (linkOf t l).tick = some (s.beam.count.toNat + 1)))
    ∧ (s.beam.role ≠ .master → Runs .tickEmit s (fun t => t = s))

/-- O12. TICK on the link on which the module takes its ticks, within the window of R57: the tick is accepted and holdover ends (R49,
R57, R435). A tick outside the window changes nothing; the next one on another link waits for comparison (R50). -/
def Obligations.TicksAreAccepted : Prop :=
  ∀ (link : Fin 48) (late count : Nat) (ps : Int) (s : State), (linkOf s link.val).state = 2 → s.beam.role ≠ .master →
    s.beam.countValid = true →
    let d := compensated (linkOf s link.val) late ps
    let n := fullCount s count
    (100000 < d.natAbs → Runs (.tick link late count ps) s (fun t => t = s))
    ∧ (d.natAbs ≤ 100000 → tickLink s.beam = some link.val → s.beam.count.toNat < n → n < 2 ^ 64 →
      Runs (.tick link late count ps) s (fun t =>
        t.beam.count.toNat = n ∧ t.beam.holdover = false ∧ t.beam.holdTicks = 0 ∧ t.beam.missed = 0 ∧ t.beam.arrivals = []
          ∧ t.lnt.tickEst = t.beam.count ∧ ∀ l ∈ upLinks s, l ≠ link.val → (linkOf t l).tick = some n))
    ∧ (d.natAbs ≤ 100000 → tickLink s.beam ≠ some link.val → s.beam.count.toNat + 1 = n →
      Runs (.tick link late count ps) s (fun t =>
        t = { s with beam := { s.beam with arrivals := s.beam.arrivals ++ [(link.val, d)] } }))

/-- O13. TICK_WINDOW_EXPIRY: with a tick on one other link the module takes that one and records 0x4206 (R55); with none its own clock
makes the tick, in holdover, and the first such tick records 0x4204 (R57). -/
def Obligations.MissingTicksAreReplaced : Prop :=
  ∀ s : State, s.beam.role ≠ .master → s.beam.countValid = true →
    (∀ l d, s.beam.arrivals = [(l, d)] → Runs .tickWindowExpiry s (fun t =>
      t.beam.count = s.beam.count + 1 ∧ t.beam.altLink = some l ∧ t.beam.holdover = false
        ∧ LoggedWithin 1 0x4206 (leBytes 1 l) s t))
    ∧ (s.beam.arrivals = [] → Runs .tickWindowExpiry s (fun t =>
      t.beam.count = s.beam.count + 1 ∧ t.beam.holdover = true ∧ t.beam.holdTicks = s.beam.holdTicks + 1
        ∧ t.beam.missed = s.beam.missed + 1 ∧ (s.beam.holdover = false → LoggedWithin 1 0x4204 [] s t)
        ∧ (s.beam.holdover = true → t.ev = s.ev)))

/-- O14. STANDBY_TAKEOVER after two missed ticks (R54), and HOLDOVER_LIMIT at 160 base ticks (R58).
Readings of the model's own: log 90. -/
def Obligations.TimeIsTakenOverOrLost : Prop :=
  (∀ s : State, s.beam.role = .standby → 2 ≤ s.beam.missed → s.glb.moduleValid = true → Runs .standbyTakeover s (fun t =>
    t.beam.role = .master ∧ t.beam.master = s.glb.moduleNumber.toNat ∧ t.beam.holdover = false ∧ t.beam.missed = 0
      ∧ t.fab.change = some { tick := nextDomainTick s.beam.count.toNat, joining := [], leaving := [s.beam.master] }
      ∧ t.glb = s.glb ∧ t.img = s.img))
  ∧ (∀ s : State, s.beam.holdover = true → s.beam.holdTicks = 160 →
    (inJob s = true → Runs .holdoverLimit s (fun t => Faulted 0x8202 [] s t))
    ∧ (inJob s = false → Runs .holdoverLimit s (fun t =>
      t = { s with beam := { s.beam with countValid := false }, fab := { s.fab with discovery := 0 } })))

/-! ## Beams, tasks, votes and halts (chapter 02, 13) -/

/-- O15. BEAM_TICK outside a job, at a halt tick, at the commit tick of a full image, and where the commit is withheld (R36, R74, R84,
R85, R121).
Readings of the model's own: log 62. -/
def Obligations.BeamTickHaltsAndCommits : Prop :=
  ∀ s : State, s.beam.countValid = true → s.beam.count.toNat % beamTicks (jobRws s) = 0 → s.beam.atTick = false →
    (inJob s = false → s.beam.halt = none → Runs .beamTick s (fun t =>
      t.beam.atTick = true ∧ t.beam.inEclipse = false ∧ t.glb.replays = [] ∧ t.glb.state = s.glb.state ∧ t.img = s.img))
    ∧ (∀ h, inJob s = true → s.beam.halt = some h → h.tick ≤ s.beam.count.toNat → s.glb.hostLostAtHalt = none →
      s.glb.recoveryAtHalt = false → Runs .beamTick s (fun t =>
        t.glb.state = .halted ∧ t.glb.prev = s.glb.state ∧ t.beam.halt = none ∧ t.beam.started = [] ∧ t.beam.stopped = false
          ∧ t.img.stage ≠ .armed ∧ t.img.release = none ∧ t.ev.haltOrigin = h.origin ∧ t.ev.haltTick = h.tick % 2 ^ 32
          ∧ t.ev.ownFault = s.beam.ownFault ∧ (∀ u : Nat, (veUnit t u).run = none)
          ∧ Logged 0x0100 [BitVec.ofNat 8 (ModState.code s.glb.state), 5] s t))
    ∧ (∀ i, s.glb.state = .armed → s.beam.halt = none → s.img.stage = .armed → s.img.kind = .full → s.img.checked = some i →
      s.img.armedBeam * beamTicks s.shadow ≤ s.beam.count.toNat → s.img.voteResult = some true → Runs .beamTick s (fun t =>
        t.glb.state = .running ∧ t.glb.prev = .armed ∧ t.live = s.shadow ∧ t.img.live = some i ∧ t.img.stage = .empty
          ∧ t.img.committed = s.beam.count.toNat ∧ t.img.binding = s.img.checkedBinding
          ∧ t.beam.planBeam = 0 ∧ t.beam.step = 0 ∧ t.beam.idle = false))
    ∧ (∀ i, s.glb.state = .armed → s.beam.halt = none → s.img.stage = .armed → s.img.checked = some i →
      s.img.armedBeam * beamTicks s.shadow ≤ s.beam.count.toNat → s.img.voteResult ≠ some true → s.glb.heldFences = [] →
      Runs .beamTick s (fun t =>
        t.glb.state = .ready ∧ t.img.stage = .checked ∧ t.img.checked = some i ∧ t.live = s.live ∧ Logged 0x4202 [] s t))

/-- O16. BEAM_TICK of a RUNNING module that neither halts, nor commits, nor releases: the next plan beam runs where the group's hold
result for this tick is true, and the beam idles where it is false (R76 to R78).
Readings of the model's own: log 61. -/
def Obligations.HoldResultsSelectTheBeam : Prop :=
  ∀ (s : State) (i : Image) (ok : Bool), s.beam.countValid = true → s.beam.count.toNat % beamTicks s.live = 0 →
    s.beam.atTick = false → s.glb.state = .running → s.img.live = some i → s.beam.halt = none → s.img.release = none →
    s.img.stage ≠ .armed → SMap.find? s.beam.holdResults s.beam.count.toNat = some ok → Runs .beamTick s (fun t =>
      t.beam.planBeam = nextPlan s i ∧ t.beam.idle = !ok ∧ t.beam.atTick = true ∧ t.beam.started = [] ∧ t.beam.done = []
        ∧ t.beam.idleRun = (if ok then 0 else satAdd 32 s.beam.idleRun 1)
        ∧ t.beam.idleTotal = (if ok then s.beam.idleTotal else satAdd 32 s.beam.idleTotal 1)
        ∧ t.img.live = some i ∧ t.live = s.live)

/-- O17. ECLIPSE_START: offset P − E is reached once in a beam, and a task of a plan beam that is due and has not started is fault
0x8201 (R67).
Readings of the model's own: log 60, 78. -/
def Obligations.EclipseStartsOnce : Prop :=
  ∀ (r : EclipseReport) (s : State), s.beam.inEclipse = false → s.glb.state ≠ .off →
    Runs (.eclipseStart r) s (fun t => t.beam.inEclipse = true ∧ eclipseStart (jobRws s) ≤ t.beam.offset
      ∧ t.beam.offset = max s.beam.offset (eclipseStart (jobRws s)) ∧ t.glb.state = s.glb.state)
    ∧ (∀ i k, planRuns s = true → s.img.live = some i → unstarted s i = some k → Runs (.eclipseStart r) s (fun t =>
      t.beam.stopped = true ∧ Logged 0x8201 (detail [(2, codeOfLe s k.le), (2, k.idx)]) s t))

/-- O18. TASK_START: the next task of a logical engine starts on the unit that it binds to, once it is released, its dependencies are
complete and its engine is free (R65, R66); a vector engine starts with every register but s0 to s5 zero and every buffer empty
(R237).
Readings of the model's own: log 91. -/
def Obligations.TasksStart : Prop :=
  ∀ (le off : Nat) (s : State) (i : Image) (e : EngineEntry) (k : TaskEntry), planRuns s = true → s.img.live = some i →
    i.engines[le]? = some e → runsTasks e.kind = true → nextTask s i le = some k → beamDue s i s.beam.planBeam = true →
    mayStart (advanceTo off s) i k = true → Runs (.taskStart le off) s (fun t =>
      (k.le, k.idx) ∈ t.beam.started ∧ t.beam.done = s.beam.done
        ∧ (∃ x, unitRun t e = some x ∧ x.task = k ∧ x.planBeam = s.beam.planBeam ∧ x.start = max s.beam.offset off)
        ∧ (e.kind = 2 → (veUnit t (2 * engineDie s e + e.unit)).regs = { s := startScalars k })
        ∧ t.glb = s.glb ∧ t.img = s.img ∧ t.tst = s.tst ∧ t.ev = s.ev)

/-- O19. BEAM_OVERRUN: a task that still runs at the next beam tick is aborted with fault 0x8200 (R72). -/
def Obligations.OverrunsAbortTasks : Prop :=
  ∀ (le : Nat) (s : State) (i : Image) (e : EngineEntry) (k : RunTask), s.img.live = some i → mayOverrun s = true →
    i.engines[le]? = some e → unitRun s e = some k → Runs (.beamOverrun le) s (fun t =>
      unitRun t e = none ∧ t.beam.stopped = true ∧ (s.beam.ownFault = 0 → t.beam.ownFault = 0x8200)
        ∧ Logged 0x8200 (detail [(2, codeOfLe s le), (2, k.task.idx), (4, k.planBeam)]) s t)

/-- O20. HALT of the module's own group, on a member link: the earliest halt tick holds, and a tick heard of for the first time goes out
on the other member links (R467); HALT_SEQUENCE_END ends in READY with Keeper restarted, ports retrained and held fences taken (R624).
Readings of the model's own: log 65. -/
def Obligations.HaltsSpreadAndEnd : Prop :=
  (∀ (link : Fin 48) (job : BitVec 24) (origin tick : Nat) (s : State) (i : Image), groupImage s = some i → inJob s = true →
    isMember s link.val = true →
    (job ≠ jobTag i → Runs (.halt link job origin tick) s (fun t => t = s))
    ∧ (job = jobTag i → Runs (.halt link job origin tick) s (fun t =>
      (∃ h, t.beam.halt = some h ∧ h.tick ≤ countFrom32 s tick ∧ (∀ o, s.beam.halt = some o → h.tick ≤ o.tick))
        ∧ t.fab.haltSeen.contains (countFrom32 s tick) = true ∧ t.beam.stopped = s.beam.stopped
        ∧ (s.fab.haltSeen.contains (countFrom32 s tick) = false → ∀ l ∈ memberLinks s, l ≠ link.val →
            haltBlock s origin (countFrom32 s tick) ∈ (linkOf t l).halts))))
  ∧ (∀ (us : Nat) (bad : List DiePort) (s : State), s.glb.state = .halted → Runs (.haltSequenceEnd us bad) s (fun t =>
      t.glb.state = .ready ∧ t.glb.heldFences = [] ∧ t.glb.retrain = [] ∧ t.kpr.restartDue = false ∧ t.host.locked = []
        ∧ (s.glb.heldFences = [] → ∀ p ∈ bad, p ∈ s.glb.retrain → t.glb.fullFenced.getLsbD (portDie p).val = true)))

/-- O21. HOLD_VOTE, ARM_VOTE and RELEASE_VOTE: a result that comes down the tree is true only where its fields are the member's own
(R118, R123, R470); at the root with one child, the result is the AND of the root's own vote and the child's, a vote with other fields
counting as false (R470).
Readings of the model's own: log 61. -/
def Obligations.VotesCombine : Prop :=
  ∀ (link : Fin 48) (s : State) (i : Image), groupImage s = some i → inJob s = true → isMember s link.val = true →
    ((treeParent i).isSome = true →
      (∀ b own job pb ok, ownVote s i .hold = some (b, own) → Runs (.holdVote link (.holdVote job pb ok false)) s (fun t =>
        SMap.find? t.beam.holdResults (nextTick s) = some (ok && decide (b = ⟨.hold, w64 job.toNat, 0, w64 pb.toNat⟩))))
      ∧ (∀ b own job g bm ok, ownVote s i .arm = some (b, own) → Runs (.armVote link (.armVote job g bm ok false)) s (fun t =>
        t.img.voteResult = some (ok && decide (b = ⟨.arm, job, g, bm⟩))))
      ∧ (∀ b own job g bm ok, ownVote s i .release = some (b, own) →
        Runs (.releaseVote link (.releaseVote job g bm ok false)) s (fun t =>
          t.img.releaseResult = some (ok && decide (b = ⟨.release, job, g, bm⟩)))))
    ∧ (∀ c, treeParent i = none → treeChildren i = [c] → groupLink s (moduleAt i c) = some link.val → s.beam.votes = [] →
      (∀ b own job pb ok, ownVote s i .hold = some (b, own) → Runs (.holdVote link (.holdVote job pb ok true)) s (fun t =>
        SMap.find? t.beam.holdResults (nextTick s)
          = some (own && ok && decide (w64 job.toNat = b.jobId ∧ w64 pb.toNat = b.beam))))
      ∧ (∀ b own job g bm ok, ownVote s i .arm = some (b, own) → Runs (.armVote link (.armVote job g bm ok true)) s (fun t =>
        t.img.voteResult = some (own && ok && decide (job = b.jobId ∧ g = b.group ∧ bm = b.beam))))
      ∧ (∀ b own job g bm ok, ownVote s i .release = some (b, own) →
        Runs (.releaseVote link (.releaseVote job g bm ok true)) s (fun t =>
          t.img.releaseResult = some (own && ok && decide (job = b.jobId ∧ g = b.group ∧ bm = b.beam)))))

/-- O22. COLLECT of the step gate (R470, R513): what comes down decides the gate; at a root with one child, the gate is the OR of the two
step flags. HOLD_VOTE_MISSING is fault 0x8203 (R79). -/
def Obligations.CollectivesDecideTheGate : Prop :=
  (∀ (link : Fin 48) (s : State) (i : Image) (v : W64), groupImage s = some i → inJob s = true → isMember s link.val = true →
    Runs (.collect link (.collect (jobTag i) 0 2 false v)) s (fun t => t.rdx.gate = some (v != 0))
    ∧ (∀ c own, treeParent i = none → treeChildren i = [c] → groupLink s (moduleAt i c) = some link.val →
      collectOf s.fab 0 = some ⟨0, 2, some own, []⟩ →
      Runs (.collect link (.collect (jobTag i) 0 2 true v)) s (fun t => t.rdx.gate = some ((own ||| v) != 0))))
  ∧ (∀ s : State, inJob s = true → s.beam.atTick = true → holdMissing s = true → Runs .holdVoteMissing s (fun t =>
      Faulted 0x8203 [] (advanceTo (periodOf (jobRws s)) s) t))

/-! ## The image (chapter 03) -/

/-- O23. BEGIN_FULL and BEGIN_DELTA open the staging area in EMPTY and FAILED alone; IMG_DATA and IMG_LOAD append while it fills, and are
refused with 0x4303 otherwise; IMG_LOAD_COMPLETE appends what the pull read (R104 to R106, R108).
Readings of the model's own: log 64. -/
def Obligations.StagingFills : Prop :=
  ∀ (p : Port) (s : State),
    (Reaches p .imgCtrl 1 s → (s.img.stage = .empty ∨ s.img.stage = .failed) → Runs (.beginFull p) s (fun t =>
      t = { s with img := t.img, orbit := t.orbit } ∧ t.img.stage = .filling ∧ t.img.kind = .full ∧ t.img.staging = []
        ∧ t.img.load = none ∧ t.img.checked = none ∧ t.orbit.restore = 0))
    ∧ (Reaches p .imgCtrl 2 s → (s.img.stage = .empty ∨ s.img.stage = .failed) → Runs (.beginDelta p) s (fun t =>
      t = { s with img := t.img, orbit := t.orbit } ∧ t.img.stage = .filling ∧ t.img.kind = .delta ∧ t.img.staging = []
        ∧ t.img.load = none ∧ t.img.checked = none ∧ t.orbit.restore = 0))
    ∧ (Reaches p .imgCtrl 1 s → s.img.stage ≠ .empty → s.img.stage ≠ .failed → Runs (.beginFull p) s (fun t =>
      UpToRecords { s with img := { s.img with lastEvent := 0x4300 } } t ∧ Logged 0x4300 [] s t))
    ∧ (∀ v : W64, Reaches p .imgData v.toNat s →
      (mayAppend s 8 = true → Runs (.imgData p v) s (fun t =>
        t = { s with img := { s.img with staging := s.img.staging ++ leBytes 8 v.toNat } }))
      ∧ (mayAppend s 8 = false → Runs (.imgData p v) s (fun t =>
        UpToRecords { s with img := { s.img with lastEvent := 0x4303 } } t ∧ Logged 0x4303 [] s t)))
    ∧ (∀ v : W64, Reaches p .imgLoad v.toNat s →
      let off := v.toNat / 2 ^ 32 * 4096
      let n := v.toNat % 2 ^ 20 * 4096
      (n ≠ 0 → mayAppend s n = true → off + n ≤ regionSize s.host → Runs (.imgLoad p v) s (fun t =>
        UpToRecords { s with img := { s.img with load := some (off, n) } } t))
      ∧ (n = 0 → mayAppend s n = true → off + n ≤ regionSize s.host → Runs (.imgLoad p v) s (fun t => UpToRecords s t))
      ∧ (mayAppend s n = false ∨ regionSize s.host < off + n → Runs (.imgLoad p v) s (fun t =>
        UpToRecords { s with img := { s.img with lastEvent := 0x4303 } } t ∧ LoggedWithin 3 0x4303 [] s t)))
    ∧ (∀ off n, s.img.load = some (off, n) → Runs .imgLoadComplete s (fun t =>
        t.img.load = none ∧ t.img.stage = s.img.stage
          ∧ t.img.staging = s.img.staging ++ (t1Read (engineCode 8 9) (s.host.regionBase + off) n s).1.data))

/-- O24. CHECK starts a check of the shadow copies in EMPTY and of the image begun in FILLING; CHECK_COMPLETE ends it in CHECKED with event
0x0300, or in FAILED with the first failure's event and IMG_CHECK_DETAIL; DISCARD empties the staged set outside ARMED (R108, R109,
R112).
Readings of the model's own: log 50, 64. -/
def Obligations.ChecksEnd : Prop :=
  ∀ (p : Port) (s : State),
    (Reaches p .imgCtrl 3 s →
      (s.img.stage = .empty → Runs (.check p) s (fun t => t = { s with img := { s.img with stage := .checking, kind := .regs } }))
      ∧ (s.img.stage = .filling → Runs (.check p) s (fun t =>
        t = { s with shadow := stagedRegs s.img s.shadow, img := { s.img with stage := .checking, load := none } }))
      ∧ (s.img.stage ≠ .empty → s.img.stage ≠ .filling → Runs (.check p) s (fun t =>
        t.img.stage = s.img.stage ∧ t.shadow = s.shadow ∧ Logged 0x4300 [] s t)))
    ∧ (s.img.stage = .checking →
      (firstFailure s = none → Runs .checkComplete s (fun t =>
        t.img.stage = .checked ∧ t.img.checked = some (mergedSet s.img) ∧ t.img.checkedDigest = imageDigest s.img
          ∧ t.img.staging = s.img.staging ∧ t.live = s.live ∧ t.shadow = s.shadow
          ∧ Logged 0x0300 (detail [(1, stageKindCode s.img.kind), (8, passMark s)]) s t))
      ∧ (∀ f, firstFailure s = some f → Runs .checkComplete s (fun t =>
        t.img.stage = .failed ∧ t.img.detail = (f.event, f.part, f.entry) ∧ t.img.checked = s.img.checked ∧ t.live = s.live
          ∧ Logged f.event f.more s t)))
    ∧ (Reaches p .imgCtrl 5 s →
      (s.img.stage ≠ .armed → Runs (.discard p) s (fun t =>
        t = { s with shadow := s.live, img := t.img, orbit := t.orbit } ∧ t.img.stage = .empty ∧ t.img.staging = []
          ∧ t.img.checked = none ∧ t.img.live = s.img.live ∧ t.orbit.restore = 0))
      ∧ (s.img.stage = .armed → Runs (.discard p) s (fun t =>
        UpToRecords { s with img := { s.img with lastEvent := 0x4300 } } t ∧ Logged 0x4300 [] s t)))

/-- O25. IMG_ARM arms a checked set for its commit beam: a full image in READY, which enters ARMED, a delta in RUNNING; a beam below the
current one plus 4, a beam other than the header's, and a stage or state that does not allow it are refused (R83, R117). ABORT returns an
armed set to CHECKED before its vote is sent (R119).
Readings of the model's own: log 64. -/
def Obligations.ArmsAndAborts : Prop :=
  ∀ (p : Port) (s : State),
    (∀ v : W64, Reaches p .imgArm v.toNat s →
      let b := if v.toNat = 0 then headerBeam s else v.toNat
      (mayArm s = true → s.orbit.restore ≠ 1 → (headerBeam s = 0 ∨ b = headerBeam s) → stagedBeam s + 4 ≤ b →
        Runs (.imgArm p v) s (fun t =>
          t.img.stage = .armed ∧ t.img.armedBeam = b ∧ t.img.ownArm = none ∧ t.img.voteResult = none ∧ t.img.checked = s.img.checked
            ∧ t.glb.state = (if s.img.kind = .full then .armed else .running) ∧ t.live = s.live ∧ t.shadow = s.shadow
            ∧ Logged 0x0301 (leBytes 8 b) s t))
      ∧ (mayArm s = true → s.orbit.restore ≠ 1 → (headerBeam s = 0 ∨ b = headerBeam s) → b < stagedBeam s + 4 →
        Runs (.imgArm p v) s (fun t => UpToRecords s t ∧ Logged 0x4205 [] s t))
      ∧ (mayArm s = true → s.orbit.restore ≠ 1 → headerBeam s ≠ 0 → b ≠ headerBeam s →
        Runs (.imgArm p v) s (fun t => t.img.stage = .checked ∧ t.glb = s.glb ∧ Logged 0x4306 [] s t))
      ∧ (mayArm s = true → s.orbit.restore = 1 → Runs (.imgArm p v) s (fun t => UpToRecords s t ∧ Logged 0x4F04 [] s t))
      ∧ (mayArm s = false → Runs (.imgArm p v) s (fun t => t.img.stage = s.img.stage ∧ t.glb = s.glb ∧ Logged 0x4300 [] s t)))
    ∧ (Reaches p .imgCtrl 4 s →
      (s.img.stage = .armed → s.img.voteSent = false → s.glb.heldFences = [] → Runs (.abort p) s (fun t =>
        t.img.stage = .checked ∧ t.img.checked = s.img.checked ∧ t.img.lastEvent = 0x0303
          ∧ t.glb.state = (if s.glb.state = .armed then .ready else s.glb.state)
          ∧ (s.glb.state ≠ .armed → Logged 0x0303 [] s t)))
      ∧ (s.img.stage = .armed → s.img.voteSent = true → Runs (.abort p) s (fun t =>
        UpToRecords { s with img := { s.img with lastEvent := 0x4302 } } t ∧ Logged 0x4302 [] s t))
      ∧ (s.img.stage ≠ .armed → Runs (.abort p) s (fun t =>
        UpToRecords { s with img := { s.img with lastEvent := 0x4300 } } t ∧ Logged 0x4300 [] s t)))

/-- O26. IMG_RELEASE asks for a release of the running job, or is refused with 0x4307 and the lowest cause that applies (R123);
LIVE_AREA_ERROR is fault 0x8300 (R124); WARMUP_END ends a buoy's warm-up with the step gate, and the last one records 0x0401 (R153). -/
def Obligations.ReleasesAndWarmups : Prop :=
  (∀ (p : Port) (v : W64) (s : State), Reaches p .imgRelease v.toNat s →
    let b := if v.toNat = 0 then beamNumber s + 4 else v.toNat
    (s.glb.state = .running → s.img.stage ≠ .armed → s.img.release = none → beamNumber s + 4 ≤ b → Runs (.imgRelease p v) s (fun t =>
      t = { s with img := { s.img with release := some b, ownRelease := none, releaseResult := none } }))
    ∧ (∀ c, releaseRefusal b s = some c → Runs (.imgRelease p v) s (fun t =>
      UpToRecords { s with img := { s.img with lastEvent := 0x4307 } } t ∧ Logged 0x4307 (leBytes 1 c) s t))
    ∧ (s.glb.state ≠ .running → releaseRefusal b s = some 1)
    ∧ (s.glb.state = .running → s.img.stage = .armed → releaseRefusal b s = some 2)
    ∧ (s.glb.state = .running → s.img.stage ≠ .armed → s.img.release ≠ none → releaseRefusal b s = some 3)
    ∧ (s.glb.state = .running → s.img.stage ≠ .armed → s.img.release = none → b < beamNumber s + 4 → releaseRefusal b s = some 4))
  ∧ (∀ s : State, s.img.live.isSome = true → Runs .liveAreaError s (fun t => Faulted 0x8300 [] s t))
  ∧ (∀ (buoy : Nat) (s : State) (i : Image), s.img.live = some i → planRuns s = true → isGate i s.beam.planBeam = true →
      s.rdx.gate.isSome = true → warmupLeft s.num buoy = 1 → Runs (.warmupEnd buoy) s (fun t =>
        warmupLeft t.num buoy = 0 ∧ (∀ b, b ≠ buoy → warmupLeft t.num b = warmupLeft s.num b)
          ∧ UpToRecords { s with num := { s.num with warmup := t.num.warmup } } t
          ∧ (inWarmup t.num = false → Logged 0x0401 [] s t) ∧ (inWarmup t.num = true → t.ev = s.ev)))

/-! ## Registers that select, clear and adjust (chapters 04, 05, 07 to 11, 13, 14, 16 to 18) -/

/-- O27. The selector registers latch what they select, and nothing else changes (R167, R380, R410, R480, R520, R631). -/
def Obligations.SelectorsLatch : Prop :=
  ∀ (p : Port) (v : W64) (s : State),
    (Reaches p .rdxCensusSel v.toNat s → v.toNat < 2 ^ 32 → Runs (.rdxCensusSel p v) s (fun t =>
      t = { s with num := { s.num with sel := v, latch := censusLatch s v.toNat } }))
    ∧ (Reaches p .pleBuoySel v.toNat s → v.toNat < 2 ^ 32 → Runs (.pleBuoySel p v) s (fun t =>
      t = { s with ple := { s.ple with sel := v, info := t.ple.info, moor := t.ple.moor } }
        ∧ ((liveBuoy s v.toNat).isSome = true → t.ple.info = w64 (buoyInfo (buoyOf s v.toNat))
            ∧ t.ple.moor = w64 (moorWord s (buoyOf s v.toNat).auth.place))
        ∧ (liveBuoy s v.toNat = none → t.ple.info = 0 ∧ t.ple.moor = 0)))
    ∧ (Reaches p .lpdUnitSel v.toNat s → v.toNat < 256 → Runs (.lpdUnitSel p v) s (fun t =>
      t = { s with lpd := { s.lpd with sel := v, latch := w64 (unitWord s v.toNat) } }))
    ∧ (Reaches p .fabLinkSel v.toNat s → v.toNat < 48 → Runs (.fabLinkSel p v) s (fun t =>
      t = { s with fab := { s.fab with linkSel := v, linkInfo := w64 (linkInfo (linkOf s v.toNat)),
                                       linkErr := w64 (linkErr (linkOf s v.toNat)) } }))
    ∧ (Reaches p .fabRouteSel v.toNat s → v.toNat < 2 ^ 13 → Runs (.fabRouteSel p v) s (fun t =>
      t = { s with fab := { s.fab with routeSel := v, route := w64 (routeWord s v.toNat) } }))
    ∧ (Reaches p .rdxEpochSel v.toNat s → v.toNat < 2 ^ 16 → Runs (.rdxEpochSel p v) s (fun t =>
      t = { s with rdx := { s.rdx with epochSel := v, epochLatch := epochWord s v.toNat } }))
    ∧ (Reaches p .rdxLayerSel v.toNat s → v.toNat < 2 ^ 16 → Runs (.rdxLayerSel p v) s (fun t =>
      t = { s with rdx := { s.rdx with layerSel := v, normLatch := w64 (layerNorm s v.toNat), lrLatch := w64 (layerLr s v.toNat) } }))
    ∧ (Reaches p .evSel v.toNat s → v.toNat < 2 ^ 32 → Runs (.glbEventSel p v) s (fun t =>
      t = { s with ev := { s.ev with sel := v, latched := s.ev.ring.find? (fun r => r.seq.toNat == v.toNat) } }))

/-- O28. A write of 1 to a CLEAR register zeroes its block's counters and nothing else: engines of other units, last results and status
fields stay (R200, R234, R274). -/
def Obligations.ClearsZeroCounters : Prop :=
  ∀ (p : Port) (d : Fin 8) (u : Fin 2) (k : Fin 9) (s : State),
    (Reaches p (.me d u .clear) 1 s → Runs (.meClear p d u 1) s (fun t => t = { s with me := t.me }
      ∧ SMap.get t.me (2 * d + u) {} = { SMap.get s.me (2 * d + u) {} with
          busy := 0, macs := 0, stallFetch := 0, stallHeld := 0, crcFail := 0, replayCount := 0, exhausted := 0, reruns := 0, nonfinTasks := 0 }
      ∧ ∀ n, n ≠ 2 * d.val + u.val → SMap.get t.me n {} = SMap.get s.me n {}))
    ∧ (Reaches p (.ve d u .clear) 1 s → Runs (.veClear p d u 1) s (fun t => t = { s with ve := t.ve }
      ∧ veUnit t (2 * d + u) = { veUnit s (2 * d + u) with busy := 0, crcFail := 0, twrites := 0, accum := 0 }
      ∧ ∀ n, n ≠ 2 * d.val + u.val → veUnit t n = veUnit s n))
    ∧ (Reaches p (.ae d .clear) 1 s → Runs (.aeClear p d 1) s (fun t => t = { s with ae := t.ae }
      ∧ SMap.get t.ae d {} = { SMap.get s.ae d {} with busy := 0, crcFail := 0, count := 0 }
      ∧ ∀ n, n ≠ d.val → SMap.get t.ae n {} = SMap.get s.ae n {}))
    ∧ (Reaches p (.gse d .clear) 1 s → Runs (.gseClear p d 1) s (fun t => t = { s with gse := t.gse }
      ∧ SMap.get t.gse d {} = { SMap.get s.gse d {} with busy := 0, crcFail := 0, count := 0 }
      ∧ ∀ n, n ≠ d.val → SMap.get t.gse n {} = SMap.get s.gse n {}))
    ∧ (Reaches p (.lye d .clear) 1 s → Runs (.lyeClear p d 1) s (fun t => t = { s with lye := t.lye }
      ∧ SMap.get t.lye d {} = { SMap.get s.lye d {} with busy := 0, crcFail := 0, count := 0 }
      ∧ ∀ n, n ≠ d.val → SMap.get t.lye n {} = SMap.get s.lye n {}))
    ∧ (Reaches p (.tst k .clear) 1 s → Runs (.tstClear p k 1) s (fun t => t = { s with tst := t.tst }
      ∧ tstOf t k = { tstOf s k with corrected := 0, uncorrectable := 0, conflict := [] }
      ∧ ∀ n, n ≠ k.val → tstOf t n = tstOf s n))
    ∧ (Reaches p .pleClear 1 s → Runs (.pleClear p 1) s (fun t => t = { s with ple := { s.ple with counts := {} } }))
    ∧ (Reaches p .lpdClear 1 s → Runs (.lpdClear p 1) s (fun t => t = { s with lpd := { s.lpd with
        corrected := 0, retries := 0, mergeReads := 0, recordFlushes := 0, maxFlush := 0, maxWork := 0, maxMissed := 0 } }))
    ∧ (Reaches p .fabClear 1 s → Runs (.fabClear p 1) s (fun t =>
      t = { s with fab := { s.fab with links := t.fab.links, retries := 0, halts := 0, drops := 0 } }
      ∧ ∀ l < 48, linkOf t l = { linkOf s l with corrected := 0, uncorrected := 0, retries := 0 }))
    ∧ (Reaches p .rdxClear 1 s → Runs (.rdxClear p 1) s (fun t =>
      t = { s with rdx := { s.rdx with buckets := 0, nonfinBuckets := 0, skipped := 0 } }))
    ∧ (Reaches p (.me d u .clear) 0 s → Runs (.meClear p d u 0) s (fun t => t = s))

/-- O29. Writes with rows of their own: the aperture moves and both read buffers empty (R555), host flags are set (R569), the real-time
counter takes a signed offset (Table 17.19), and a link that FAB_LINK_DISABLE names is held down while the others stay (R438). The host
may not write the FWL, SEC and LNT blocks: event 0x5002 (R547).
Readings of the model's own: log 77. -/
def Obligations.PlainWritesAct : Prop :=
  ∀ (p : Port) (v : W64) (s : State),
    (Reaches p .aptAperture v.toNat s → v.toNat < 2 ^ 13 → Runs (.aptAperture p v) s (fun t =>
      t = { s with host := { s.host with aperture := v, bufHost := [], bufPartner := [] } }))
    ∧ (Reaches p .aptHostFlags v.toNat s → Runs (.aptHostFlags p v) s (fun t =>
      t = { s with host := { s.host with flags := s.host.flags ||| v } }))
    ∧ (Reaches p .lntRtcAdjust v.toNat s → Runs (.lntRtcAdjust p v) s (fun t =>
      t = { s with lnt := { s.lnt with rtc := s.lnt.rtc + v, tickRtc := s.lnt.tickRtc + v } }))
    ∧ (hostServed s = true → Runs (.lntRtcAdjust .host v) s (fun t => UpToRecords s t ∧ Logged 0x5002 [] s t))
    ∧ (Reaches p .fabLinkDisable v.toNat s → v.toNat < 2 ^ 48 → Runs (.fabLinkDisable p v) s (fun t =>
      t.fab.disable = v ∧ t.nor.disable = v
        ∧ (∀ l < 48, v.getLsbD l = true → mayTrain s l = true → (linkOf t l).state = 4)
        ∧ (∀ l < 48, v.getLsbD l = false → (linkOf s l).state = 4 → (linkOf t l).state = 0)
        ∧ (∀ l < 48, v.getLsbD l = false → (linkOf s l).state ≠ 4 → (linkOf t l).state = (linkOf s l).state)))

/-! ## Vector programs (chapter 07) -/

/-- O30. The control and scalar instructions (Table 7.6): the destination takes the table's value, and every other register stays. -/
def Obligations.ScalarInstructionsCompute : Prop :=
  ∀ (u : Fin 16) (w : VWord) (s : State),
    let r := (veUnit s u).regs
    let a := sreg r w.a.toNat
    let b := sreg r w.b.toNat
    let d := sreg r w.d.toNat
    let imm := w.imm.toNat
    let writes (c : Instr) (op : BitVec 8) (v : Nat × BitVec 5) : Prop :=
      RunsWord u (VWord.encode op w) c s (ScalarBecomes w.d.toNat v)
    RunsWord u (VWord.encode 0x00 w) (.nop u w) s (fun r r' => r' = r)
    ∧ RunsWord u (VWord.encode 0x02 w) (.setvl u w) s (fun r r' =>
        let x := if w.bs then b else imm
        r' = { r with vl := min x 4096, flags := if 4096 < x then r.flags ||| flagLC else r.flags })
    ∧ writes (.slil u w) 0x08 (d / 2 ^ 16 * 2 ^ 16 + imm % 2 ^ 16, 0)
    ∧ writes (.slih u w) 0x09 (imm % 2 ^ 16 * 2 ^ 16 + d % 2 ^ 16, 0)
    ∧ writes (.sadd u w) 0x0A (a + (if w.bs then b else immSigned w), 0)
    ∧ writes (.ssub u w) 0x0B (a + 2 ^ 32 - (if w.bs then b else immSigned w), 0)
    ∧ writes (.smul u w) 0x0C (a * b, 0)
    ∧ writes (.sfadd u w) 0x10 (f32.add a b)
    ∧ writes (.sfsub u w) 0x11 (f32.sub a b)
    ∧ writes (.sfmul u w) 0x12 (f32.mul a b)
    ∧ writes (.sfdiv u w) 0x13 (f32.div a b)
    ∧ writes (.sfsqrt u w) 0x14 (f32.sqrt a)
    ∧ writes (.sfrsqrt u w) 0x15 (f32.rsqrt a)
    ∧ writes (.sfmax u w) 0x16 (f32.max a b, 0)
    ∧ writes (.sfmin u w) 0x17 (f32.min a b, 0)

/-- O31. SGET reads the sources of Table 7.7, of which 3 to 5 read 0 without UPDATE (R248); SNF raises the non-finite indication and NF
(R271); LOOP and the ends of its bodies (R249); END completes the task and leaves nothing of its registers (R237, R244).
Readings of the model's own: log 60, 67. -/
def Obligations.SourcesLoopsAndEnds : Prop :=
  ∀ (u : Fin 16) (w : VWord) (s : State),
    let r := (veUnit s u).regs
    (∀ i t, veTask s u = some (i, t) →
      let reads (v : Nat) : Prop := RunsWord u (VWord.encode 0x0D w) (.sget u w) s (ScalarBecomes w.d.toNat (v, 0))
      let source := w.imm.toNat % 256
      (source = 0 → reads (jobStep s)) ∧ (source = 1 → reads (jobStep s / 2 ^ 32))
        ∧ (source = 2 → reads (payloadField t.task 31 16))
        ∧ (3 ≤ source → source ≤ 5 → updateTask i t.task = false → reads 0)
        ∧ (source = 3 → updateTask i t.task = true → reads (layerRate s i (payloadField t.task 31 16)))
        ∧ (source = 4 → updateTask i t.task = true → reads (layerClip s i (payloadField t.task 31 16)))
        ∧ (source = 5 → updateTask i t.task = true → reads (layerDecay i (payloadField t.task 31 16)))
        ∧ (∀ k < 4, source = 6 + k → reads (SMap.get r.l k 0).toNat)
        ∧ (source = 10 → reads r.vl) ∧ (source = 11 → reads i.memberRank))
    ∧ (atWord s u (VWord.encode 0x18 w) = true → Runs (.snf u w) s (fun t =>
        let bad := nonfinite32 (sreg r w.a.toNat)
        t = { s with ve := t.ve, num := { s.num with nonFinite := s.num.nonFinite || bad } }
          ∧ (∀ n, n ≠ u.val → veUnit t n = veUnit s n)
          ∧ veUnit t u = { veUnit s u with pcLast := r.pc, phase := 1,
                                            regs := nextWord { r with flags := if bad then r.flags ||| flagNF else r.flags } }))
    ∧ (∀ (body : BitVec 16) (count : BitVec 32), atWord s u (loopWord body count) = true → Runs (.loopN u body count) s (fun t =>
        let r' := (veUnit t u).regs
        t = { s with ve := t.ve } ∧ (∀ n, n ≠ u.val → veUnit t n = veUnit s n)
          ∧ (count = 0 → r.loops = [] → r' = { r with pc := r.pc + 1 + body.toNat })
          ∧ (count ≠ 0 → r'.pc = r.pc + 1 ∧ SMap.get r'.l r.loops.length 0 = 0
            ∧ (∀ k, k ≠ r.loops.length → SMap.get r'.l k 0 = SMap.get r.l k 0)
            ∧ r'.loops = { first := r.pc + 1, body := body.toNat, count := count.toNat, index := 0 } :: r.loops
            ∧ r' = { r with pc := r'.pc, l := r'.l, loops := r'.loops })))
    ∧ (∀ (q : VeRegs) (f : LoopFrame) (fs : List LoopFrame),
        (q.loops = [] → nextWord q = { q with pc := q.pc + 1 })
        ∧ (q.loops = f :: fs → q.pc + 1 ≠ f.first + f.body → nextWord q = { q with pc := q.pc + 1 })
        ∧ (q.loops = f :: fs → q.pc + 1 = f.first + f.body → f.index + 1 < f.count →
          (nextWord q).pc = f.first ∧ (nextWord q).loops = { f with index := f.index + 1 } :: fs
            ∧ SMap.get (nextWord q).l fs.length 0 = BitVec.ofNat 32 (f.index + 1))
        ∧ (q.loops = [f] → q.pc + 1 = f.first + f.body → f.count ≤ f.index + 1 → nextWord q = { q with pc := q.pc + 1, loops := [] }))
    ∧ (∀ i t (endAt : Nat), veTask s u = some (i, t) → atWord s u 0x0100000000000000#64 = true → endAt < periodOf s.live →
        Runs (.endTask u endAt) s (fun x =>
          (t.task.le, t.task.idx) ∈ x.beam.done ∧ x.beam.offset = max s.beam.offset endAt ∧ x.beam.started = s.beam.started
            ∧ (veUnit x u).run = none ∧ (veUnit x u).regs = {} ∧ (veUnit x u).lastFlags = r.flags
            ∧ (veUnit x u).accum = (veUnit s u).accum ||| r.flags ∧ (veUnit x u).busy = addBusy (veUnit s u).busy t.start endAt
            ∧ (∀ n, n ≠ u.val → veUnit x n = veUnit s n) ∧ x.me = s.me ∧ x.num = s.num ∧ x.lpd = s.lpd ∧ x.tst = s.tst))

/-- O32. The element-wise instructions on registers (R238 to R241, R246, R260, R261, R263, Table 7.6): element i of v[D] takes the
operation's value where element i is active; tails, inactive elements and every other register stay.
Readings of the model's own: log 67 to 69. -/
def Obligations.ElementwiseInstructionsCompute : Prop :=
  ∀ (u : Fin 16) (w : VWord) (s : State), Canonical (veUnit s u).regs →
    let r := (veUnit s u).regs
    let et := w.et.toNat
    let a (i : Nat) : Nat := element r et w.a.toNat i
    let b (i : Nat) : Nat := elementB w r et i
    let writes (c : Instr) (op : BitVec 8) (v : Nat → Nat × BitVec 5) : Prop :=
      RunsWord u (VWord.encode op w) c s (ElementsBecome w et 0 (vlMax et) v)
    writes (.vadd u w) 0x20 (fun i => binElem et .add (a i) (b i))
    ∧ writes (.vsub u w) 0x21 (fun i => binElem et .sub (a i) (b i))
    ∧ writes (.vmul u w) 0x22 (fun i => binElem et .mul (a i) (b i))
    ∧ writes (.vfma u w) 0x23 (fun i => ((etFmt et).getD f32).fma (a i) (b i) (element r et w.c.toNat i))
    ∧ writes (.vmin u w) 0x24 (fun i => binElem et .min (a i) (b i))
    ∧ writes (.vmax u w) 0x25 (fun i => binElem et .max (a i) (b i))
    ∧ writes (.vabs u w) 0x26 (fun i => absElem et (a i))
    ∧ writes (.vneg u w) 0x27 (fun i => negElem et (a i))
    ∧ writes (.vdiv u w) 0x28 (fun i => f32.div (a i) (b i))
    ∧ writes (.vsqrt u w) 0x29 (fun i => f32.sqrt (a i))
    ∧ writes (.vrsqrt u w) 0x2A (fun i => f32.rsqrt (a i))
    ∧ writes (.vrcp u w) 0x2B (fun i => f32.rcp (a i))
    ∧ writes (.vexp2 u w) 0x2C (fun i => f32.exp2 (a i))
    ∧ writes (.vlog2 u w) 0x2D (fun i => f32.log2 (a i))
    ∧ (et = 0 → writes (.vfold u w) 0x2F (fun i => f32.add (a i) (element r 0 (w.a.toNat + 1) i)))
    ∧ writes (.vand u w) 0x30 (fun i => (a i &&& b i, 0))
    ∧ writes (.vor u w) 0x31 (fun i => (a i ||| b i, 0))
    ∧ writes (.vxor u w) 0x32 (fun i => (a i ^^^ b i, 0))
    ∧ writes (.vshl u w) 0x33 (fun i => (a i * 2 ^ (b i % 32) % 2 ^ 32, 0))
    ∧ (et = 3 → writes (.vshr u w) 0x34 (fun i => (unsigned 32 (signed 32 (a i) / (2 ^ (b i % 32) : Nat)), 0)))
    ∧ (et = 4 → writes (.vshr u w) 0x34 (fun i => (a i / 2 ^ (b i % 32), 0)))
    ∧ (w.m = false → writes (.vsel u w) 0x35 (fun i => (if maskBit r w.mr.toNat i then a i else b i, 0)))
    ∧ (w.bs = false → writes (.vmov u w) 0x36 (fun i => (a i, 0)))
    ∧ (w.bs = true → writes (.vmov u w) 0x36 (fun i => (b i, 0)))
    ∧ writes (.vidx u w) 0x37 (fun i => (i + immSigned w, 0))

/-- O33. VADDC adds into the pair of v[D] and v[D + 1] (R263), VCVT converts between the element types of its two sides (R265, R266),
VCMP, MOP and MPOP write and count mask bits (R264, Table 7.6).
Readings of the model's own: log 67. -/
def Obligations.PairsConversionsAndMasksCompute : Prop :=
  ∀ (u : Fin 16) (w : VWord) (s : State), Canonical (veUnit s u).regs →
    let r := (veUnit s u).regs
    let et := w.et.toNat
    (et = 0 → w.d.toNat < 31 → RunsWord u (VWord.encode 0x2E w) (.vaddc u w) s (fun r r' =>
      let p (i : Nat) : Pair × BitVec 5 :=
        pairAdd ⟨element r 0 w.d.toNat i, element r 0 (w.d.toNat + 1) i⟩ (element r 0 w.a.toNat i)
      (∀ i < min r.vl 1024, active w r i = true → element r' 0 w.d.toNat i = (p i).1.s % 2 ^ 32
          ∧ element r' 0 (w.d.toNat + 1) i = (p i).1.c % 2 ^ 32)
      ∧ (∀ i < 1024, (min r.vl 1024 ≤ i ∨ active w r i = false) → element r' 0 w.d.toNat i = element r 0 w.d.toNat i
          ∧ element r' 0 (w.d.toNat + 1) i = element r 0 (w.d.toNat + 1) i)
      ∧ (∀ k, (k < 4096 * w.d.toNat ∨ 4096 * (w.d.toNat + 2) ≤ k) → SMap.get r'.v k 0 = SMap.get r.v k 0)
      ∧ r' = { r with v := r'.v, flags := r'.flags }))
    ∧ (∀ x y, sideElem w.sub.toNat (bits w.imm.toNat 15 8) = some x → sideElem et (bits w.imm.toNat 15 8) = some y →
      RunsWord u (VWord.encode 0x38 w) (.vcvt u w) s
        (ElementsBecome w et (sideStart et (bits w.imm.toNat 5 4)) 1024 (fun i =>
          convertInto y (cvtRound (bits w.imm.toNat 1 0))
            (x.value (element r w.sub.toNat w.a.toNat (sideStart w.sub.toNat (bits w.imm.toNat 5 4) + i))))))
    ∧ RunsWord u (VWord.encode 0x40 w) (.vcmp u w) s (fun r r' =>
        MaskBecomes w (min r.vl (vlMax et)) (fun i => compareElem et w.sub.toNat (element r et w.a.toNat i) (elementB w r et i)) r r'
          ∧ r'.flags = r.flags ||| (if vlMax et < r.vl then flagLC else 0))
    ∧ RunsWord u (VWord.encode 0x41 w) (.mop u w) s (fun r r' =>
        MaskBecomes w (min r.vl 4096) (fun i =>
          let a := maskBit r w.a.toNat i
          let b := maskBit r w.b.toNat i
          match w.sub.toNat with
          | 0 => a && b
          | 1 => a || b
          | 2 => a != b
          | 3 => a && !b
          | 4 => !a
          | 5 => true
          | _ => false) r r' ∧ r'.flags = r.flags)
    ∧ RunsWord u (VWord.encode 0x42 w) (.mpop u w) s (ScalarBecomes w.d.toNat
        (((List.range (min r.vl 4096)).filter (fun i => active w r i && maskBit r w.a.toNat i)).length, 0))

/-- O34. The reductions (R241, R267 to R269): s[D] takes the reduction of the active elements below n, in the fixed lane order; with no
active element it takes the identity, and no flag but LC is set.
Readings of the model's own: log 67. -/
def Obligations.ReductionsCompute : Prop :=
  ∀ (u : Fin 16) (w : VWord) (s : State), w.et = 0 → Canonical (veUnit s u).regs →
    let r := (veUnit s u).regs
    let n := min r.vl 1024
    let as := (List.range n).map (active w r)
    let xs := (List.range n).map (element r 0 w.a.toNat)
    let lc : BitVec 5 := if 1024 < r.vl then flagLC else 0
    let reduces (c : Instr) (op : BitVec 8) (f : List Bool → List Nat → Nat × BitVec 5) (identity : Nat) : Prop :=
      RunsWord u (VWord.encode op w) c s (ScalarBecomes w.d.toNat ((f as xs).1, (f as xs).2 ||| lc))
        ∧ ((∀ i < n, active w r i = false) → f as xs = (identity, 0))
    reduces (.vrsum u w) 0x48 reduceSum 0
    ∧ reduces (.vrsumc u w) 0x49 reducePairs 0
    ∧ reduces (.vrmax u w) 0x4A reduceMax 0xFF800000
    ∧ reduces (.vrmin u w) 0x4B reduceMin 0x7F800000
    ∧ reduces (.vramax u w) 0x4C reduceAmax 0
    ∧ reduces (.vrssqc u w) 0x4D reduceSquares 0

/-- O35. The vector instructions on tiles (R251 to R256): TLOAD, TSTREAM and TOPEN take in tiles that pass their checks, VLD, VST and
VLDW move elements between buffers and registers, TWRITE writes the tile of its buffer and closes it. A tile that fails its CRC-32C
holds the engine (R253); an access outside its record, an element beyond 16 383 and an empty stream are fault 0x8700 (R251, R252,
R257).
Readings of the model's own: log 67, 91. -/
def Obligations.VectorTilesMove : Prop :=
  ∀ (u : Fin 16) (w : VWord) (s : State) (i : Image) (t : RunTask), veTask s u = some (i, t) →
    let r := (veUnit s u).regs
    let s0 := atWordStart u s
    let done (t' x : State) (f : VeRegs → VeRegs) : Prop := t' = updVeUnit u (fun e => { e with regs := nextWord (f e.regs) }) x
    let faults (c : Instr) (sub : Nat) : Prop := Runs c s (fun t' =>
      Faulted 0x8700 (detail [(2, veCode u), (2, t.task.idx), (2, r.pc), (1, sub)])
        (updVeUnit u (fun e => { e with fault := (e.taskIndex, r.pc, sub) }) s0) t')
    (atWord s u (VWord.encode 0x60 w) = true →
      (vecTile i t w r = none → faults (.tload u w) 2)
      ∧ (∀ (x : TileRef) (b : Bytes) (s1 : State), vecTile i t w r = some x →
        fetchTile (veCode u) t.task.le x.entry x.tile x.budget s0 = (.tile b, s1) →
        numericBad (Header.parse b) x.entry.format (vectorShaped x.entry) = false →
        identityBad (Header.parse b) x.entry.id x.tile = false →
        Runs (.tload u w) s (fun t' => done t' s1 (fillRead w.d.toNat b)))
      ∧ (∀ (x : TileRef) (s1 : State), vecTile i t w r = some x →
        fetchTile (veCode u) t.task.le x.entry x.tile x.budget s0 = (.failed, s1) →
        Runs (.tload u w) s (fun t' =>
          (veUnit t' u).held = some ⟨x.entry.id, x.tile⟩ ∧ (veUnit t' u).regs = (veUnit s1 u).regs
            ∧ Logged 0x4700 (detail [(2, veCode u), (4, x.entry.id), (4, x.tile)]) s1 t'
            ∧ ∃ q ∈ t'.ple.repairs, q.buoy = x.entry.id ∧ q.tile = x.tile ∧ veCode u ∈ q.waiters)))
    ∧ (atWord s u (VWord.encode 0x61 w) = true →
      ((veUnit s u).stream = [] → faults (.tstream u w) 4)
      ∧ (∀ x xs, (veUnit s u).stream = x :: xs → x.bytes.length = 65600 → tileCrcOk x.bytes = true →
        numericBad (Header.parse x.bytes) 0x01 false = false → identityBad (Header.parse x.bytes) 0 x.idx = false →
        Runs (.tstream u w) s (fun t' =>
          done t' (updVeUnit u (fun e => { e with stream := xs }) s0) (fillRead w.d.toNat x.bytes))))
    ∧ (atWord s u (VWord.encode 0x62 w) = true → vlen w r ≠ 0 →
      (16384 < firstElem w r + vlen w r → faults (.vld u w) 1)
      ∧ (firstElem w r + vlen w r ≤ 16384 →
        loadedElems w.et.toNat w.sub.toNat (SMap.get r.rb (w.a.toNat % 4) []) = none → faults (.vld u w) 3)
      ∧ (∀ xs, firstElem w r + vlen w r ≤ 16384 →
        loadedElems w.et.toNat w.sub.toNat (SMap.get r.rb (w.a.toNat % 4) []) = some xs →
        Runs (.vld u w) s (fun t' =>
          done t' s0 (putResults w w.et.toNat (((xs.drop (firstElem w r)).take (vlen w r)).map (fun x => (x, 0)))))))
    ∧ (atWord s u (VWord.encode 0x63 w) = true →
      (vecTile i t w r = none → faults (.topen u w) 2)
      ∧ (∀ x : TileRef, w.sub = 0 → vecTile i t w r = some x → Runs (.topen u w) s (fun t' =>
        done t' s0 (setWriteBuf w.d.toNat (some ⟨w.a.toNat % 8, x.tile, []⟩))))
      ∧ (∀ (x : TileRef) (b : Bytes) (s1 : State), w.sub ≠ 0 → vecTile i t w r = some x →
        fetchTile (veCode u) t.task.le x.entry x.tile x.budget s0 = (.tile b, s1) →
        numericBad (Header.parse b) x.entry.format (vectorShaped x.entry) = false →
        identityBad (Header.parse b) x.entry.id x.tile = false →
        Runs (.topen u w) s (fun t' =>
          done t' s1 (setWriteBuf w.d.toNat (some ⟨w.a.toNat % 8, x.tile, SMap.write [] 0 ((tileElems b).map (BitVec.ofNat 32)) 0⟩)))))
    ∧ (atWord s u (VWord.encode 0x64 w) = true → vlen w r ≠ 0 →
      (16384 < firstElem w r + vlen w r → faults (.vst u w) 1)
      ∧ (∀ b, firstElem w r + vlen w r ≤ 16384 → writeBuf r w.d.toNat = some b → Runs (.vst u w) s (fun t' =>
        done t' s0 (storeElems w (firstElem w r) (vlen w r) b))))
    ∧ (atWord s u (VWord.encode 0x65 w) = true → vlen w r ≠ 0 →
      (16384 < firstElem w r + vlen w r → faults (.vldw u w) 1)
      ∧ (∀ b, firstElem w r + vlen w r ≤ 16384 → writeBuf r w.a.toNat = some b → Runs (.vldw u w) s (fun t' =>
        done t' s0 (putResults w w.et.toNat ((bufElems b (firstElem w r) (vlen w r)).map (readBack w.et.toNat))))))
    ∧ (atWord s u (VWord.encode 0x66 w) = true →
      ∀ (b : WBuf) (a : Access) (e : BuoyEntry), writeBuf r w.d.toNat = some b → t.accs[b.access]? = some a →
        buoyEntry i a.buoy = some e → (elemOf e.format).elim false (·.isInt32) = true →
        let out := writeTile (veCode u) (some t.task.le) e b.tile (copyInts e b.tile (jobStep s) (bufElems b 0 16384)) s0
        out.1 = true → Runs (.twrite u w) s (fun t' =>
          t' = updVeUnit u (fun v => { v with twrites := satAdd 32 v.twrites 1,
                                              regs := nextWord { v.regs with wb := SMap.set v.regs.wb (w.d.toNat % 4) none none } }) out.2))
    ∧ (atWord s u (VWord.encode 0x66 w) = true →
      ∀ (b : WBuf) (a : Access) (e : BuoyEntry), writeBuf r w.d.toNat = some b → t.accs[b.access]? = some a →
        buoyEntry i a.buoy = some e → (elemOf e.format).elim false (·.isInt32) = false →
        let xs := bufElems b 0 16384
        let out := writeNarrowed (veCode u) (some t.task.le) i e b.tile (writeOrdinal w t) (w.imm.getLsbD 16) xs s0
        out.1 = true → Runs (.twrite u w) s (fun t' =>
          (veUnit t' u).twrites = satAdd 32 (veUnit out.2 u).twrites 1 ∧ (veUnit t' u).run = (veUnit out.2 u).run
            ∧ writeBuf (veUnit t' u).regs w.d.toNat = none ∧ t' = { out.2 with ve := t'.ve }))

/-! ## The engines of a compute die (chapters 05, 06, 08) -/

/-- O36. MATMUL on operand tiles that pass their checks (R179, R187, R203, R210, R223, R226 to R234): the products are accumulated through
the attempts of the mode; the result takes the task's OUT_ACTION; the slots, ME_ACC_LAST and the counters are written and the task is
complete. Replays beyond the budget under ON_EXCESS 0 stop it with fault 0x8600.
Readings of the model's own: log 91. -/
def Obligations.MatmulCompletes : Prop :=
  ∀ (die : Fin 8) (half : Fin 2) (endAt stall : Nat) (s x : State) (i : Image) (t : RunTask) (os : List Operand)
    (ts : List (Header × Bytes)),
    let u := 2 * die.val + half.val
    let c := Instr.matmul die half endAt stall
    meTask s u = some (i, t) → endAt < periodOf s.live → matmulOperands i t = some os →
    useOperands (meCode u) t.task.le os s = (.all ts, x) →
    let ab := splitTurns (ts.take (2 * kTiles t.task))
    let m := SMap.get x.me u {}
    let e := entrySlots m t.task
    let p := multiply (accPolicy i t.task) t.task (operandPairs t.task ab.1 ab.2) e
    let res := resultElems (accMode t.task) p
    let ends (y : State) : Prop :=
      let n := SMap.get y.me u {}
      (t.task.le, t.task.idx) ∈ y.beam.done ∧ n.run = none ∧ n.last = accLast t.task e.attempt p res
        ∧ n.macs = satAdd 64 m.macs p.macs ∧ n.replayCount = satAdd 32 m.replayCount p.replays
        ∧ n.busy = addBusy m.busy t.start endAt ∧ n.stallFetch = satAdd 32 m.stallFetch stall
        ∧ (¬(accMode t.task = 2 ∧ p.attempt = 3) → SMap.find? n.slots (accSlotOf t.task)
            = some (slotSet (accMode t.task) p.attempt (lambdaOf (accMode t.task) p.attempt) p.pairs))
        ∧ (∀ k, k ≠ u → SMap.get y.me k {} = SMap.get x.me k {})
        ∧ (res.any (fun v => nonfinite32 v.1) = true → y.num.nonFinite = true)
    Runs c s (fun y => p.stopped = true →
      LoggedWithin (p.replays + 2) 0x8600
        (detail [(2, meCode u), (2, t.task.idx), (4, t.planBeam), (1, payloadField t.task 223 216)]) x y
        ∧ y.beam.done = x.beam.done ∧ (SMap.get y.me u {}).slots = m.slots ∧ (inJob x = true → y.beam.stopped = true))
    ∧ (p.stopped = false → outAction t.task = 0 → Runs c s (fun y =>
        ends y ∧ y.lpd = x.lpd ∧ y.tst = x.tst ∧ y.ve = x.ve
          ∧ y.num = { x.num with nonFinite := x.num.nonFinite || res.any (fun v => nonfinite32 v.1) }))
    ∧ (∀ (a b : EngineEntry), p.stopped = false → outAction t.task = 4 → i.engines[t.task.le]? = some a →
      i.engines[a.chain]? = some b → Runs c s (fun y =>
        let v := 2 * engineDie x b + b.unit
        ends y ∧ y.lpd = x.lpd ∧ y.tst = x.tst
          ∧ (veUnit y v).stream = (veUnit x v).stream ++ [streamTileOf x t (res.map (·.1)) (res.any (·.2))]
          ∧ ∀ k, k ≠ v → veUnit y k = veUnit x k))
    ∧ (∀ (r : TileRef) (a : Nat), p.stopped = false → 1 ≤ outAction t.task → outAction t.task ≤ 3 → outRef i t = some r →
      (buoyOf x r.entry.id).auth.place = .t1 a → Runs c s (fun y => ends y ∧ y.ve = x.ve ∧ y.tst = x.tst
        ∧ (buoyOf y r.entry.id).lastEpoch = jobStep x % 2 ^ 32 ∧ (buoyOf y r.entry.id).retained = []))

/-- O37. FWD and BWD (R285, R292 to R296): once the blocks from the reached one on are done, a task without FINISH leaves its context to
the chain and completes; with FINISH the outputs are written first and the context is free. A block without an allowed pair changes
nothing but ITEM, SKIPPED and the chain's context.
Readings of the model's own: log 28, 91. -/
def Obligations.AttentionTasksComplete : Prop :=
  ∀ (die : Fin 8) (endAt : Nat) (s x y z : State) (i : Image) (t : RunTask) (ops ms : List (Header × Bytes)),
    seqTask s (SMap.get s.ae die {}) = some (i, t) → endAt < periodOf s.live →
    aeTiles die t (if isBwd t.task then kvRefs i t (aeFix t.task) else qRefs i t (aeFix t.task)) s = (some ops, x) →
    aeTiles die t (maskRefs i t) x = (some ms, y) →
    let j := (SMap.get y.ae die {}).item
    let c := if isBwd t.task then Instr.bwd die endAt else Instr.fwd die endAt
    (if isBwd t.task then backwardBlocks die i t (maskElems ms) ops (aeCount t.task - j) j y
      else forwardBlocks die i t (maskElems ms) ops (aeCount t.task - j) j y) = (true, z) →
    let ends (w : State) (ctx : AeCtx) (r : State) : Prop :=
      let m := SMap.get r.ae die {}
      (t.task.le, t.task.idx) ∈ r.beam.done ∧ m.run = none ∧ m.item = aeCount t.task - 1 ∧ m.phase = 0
        ∧ m.count = (SMap.get w.ae die {}).count ∧ m.busy = addBusy (SMap.get w.ae die {}).busy t.start endAt
        ∧ SMap.get m.ctx (aeCtxNo t.task) {} = ctx ∧ (∀ k, k ≠ die.val → SMap.get r.ae k {} = SMap.get w.ae k {})
        ∧ r.lpd = w.lpd ∧ r.tst = w.tst ∧ r.me = w.me ∧ r.ve = w.ve ∧ r.num = w.num
    (aeFinish t.task = false → Runs c s (ends z (ctxFor z (SMap.get z.ae die {}) t.task)))
    ∧ (∀ w, aeFinish t.task = true →
      (if isBwd t.task then finishBackward die i t (keepCtx die t.task z) else finishForward die i t (keepCtx die t.task z)) = (true, w) →
      Runs c s (ends w {}))
    ∧ (∀ (k n : Nat) (q : State), skipsBlock t.task (maskElems ms) k = true →
      let q' := skipBlock die t.task k q
      forwardBlocks die i t (maskElems ms) ops (n + 1) k q = forwardBlocks die i t (maskElems ms) ops n (k + 1) q'
        ∧ backwardBlocks die i t (maskElems ms) ops (n + 1) k q = backwardBlocks die i t (maskElems ms) ops n (k + 1) q'
        ∧ q' = { q with ae := q'.ae } ∧ (SMap.get q'.ae die {}).item = k + 1
        ∧ (SMap.get q'.ae die {}).count = satAdd 32 (SMap.get q.ae die {}).count 1)

/-- O38. GATHER and SCATTER_ADD (R303 to R305): an index that is neither padding nor a row of the table is fault 0x8801 before any tile is
written; otherwise the rows are gathered or added, padding rows are counted, and the task is complete.
Readings of the model's own: log 70, 91. -/
def Obligations.GatherScatterTasksComplete : Prop :=
  ∀ (die : Fin 8) (endAt : Nat) (s x : State) (i : Image) (t : RunTask) (rs : List TileRef) (ts : List (Header × Bytes)),
    seqTask s (SMap.get s.gse die {}) = some (i, t) →
    elemRefs i t (payloadField t.task 43 41) (gseIdx0 t.task) (gseCount t.task) = some rs →
    seqTiles (gseCode die) (updGse die) t rs s = (some ts, x) →
    let xs := gseIndices t ts
    let c := if isScatter t.task then Instr.scatterAdd die endAt else Instr.gather die endAt
    let w := rowWidth t.task
    let rows := elemRefs i t (dataAcc t.task) (gseRow0 t.task * w) (gseCount t.task * w)
    let ends (q r : State) : Prop :=
      let m := SMap.get r.gse die {}
      (t.task.le, t.task.idx) ∈ r.beam.done ∧ m.run = none
        ∧ m.count = satAdd 32 (SMap.get q.gse die {}).count (xs.filter (fun v => v == 0xFFFFFFFF)).length
        ∧ (∀ k, k ≠ die.val → SMap.get r.gse k {} = SMap.get q.gse k {})
        ∧ r.lpd = q.lpd ∧ r.tst = q.tst ∧ r.me = q.me ∧ r.ve = q.ve ∧ r.ae = q.ae ∧ r.num = q.num
    (∀ b, badIndex (tableRows i t) (gseIdx0 t.task) xs = some b → Runs c s (fun r =>
      Faulted 0x8801 (detail [(2, gseCode die), (2, t.task.idx), (4, b.1), (4, b.2)]) x r))
    ∧ (∀ (ks os : List TileRef) (y z : State) (tiles : List (Header × Bytes)), isScatter t.task = false →
      badIndex (tableRows i t) (gseIdx0 t.task) xs = none → endAt < periodOf x.live →
      (tableTiles t.task xs).mapM (buoyTileRef i t (tableAcc t.task)) = some ks → rows = some os →
      seqTiles (gseCode die) (updGse die) t ks x = (some tiles, y) →
      let read := ((tableTiles t.task xs).zip tiles).foldl (fun m v => SMap.insert m v.1 (srcElems v.2.1 v.2.2)) []
      writeAllCopied (gseCode die) i t (gseOrdinal t.task) false
        (fun r e => e.plain && r.entry.format == accFormat i t (tableAcc t.task)) os
        (tilesFrom os.length (xs.flatMap (gatherRow t.task read))) y = (true, z) →
      Runs c s (ends z))
    ∧ (∀ (ds ss : List TileRef) (y z : State) (tiles : List (Header × Bytes)), isScatter t.task = true →
      badIndex (tableRows i t) (gseIdx0 t.task) xs = none → endAt < periodOf x.live →
      tileRefs i t (tableAcc t.task) ((List.range (payloadField t.task 139 135)).map (· + payloadField t.task 159 140)) = some ds →
      rows = some ss → seqTiles (gseCode die) (updGse die) t (ds ++ ss) x = (some tiles, y) →
      let old := (tiles.take ds.length).flatMap (fun v => tileElems v.2)
      let new := (xs.zip (sourceRows t (tiles.drop ds.length))).foldl (addRow w (windowElems t).1) old
      scatterWindow die i t ds (tilesFrom ds.length new) y = (true, z) → Runs c s (ends z))
    ∧ (∀ (base : Nat) (win : List Nat) (v : Nat × List Nat) (k : Nat), v.2.length = w → k < win.length →
      (v.1 = 0xFFFFFFFF ∨ base + k < v.1 * w ∨ v.1 * w + w ≤ base + k → (addRow w base win v).getD k 0 = win.getD k 0)
        ∧ (v.1 ≠ 0xFFFFFFFF → base ≤ v.1 * w → v.1 * w + w ≤ base + win.length → v.1 * w ≤ base + k → base + k < v.1 * w + w →
          (addRow w base win v).getD k 0 = add32 (win.getD k 0) (v.2.getD (base + k - v.1 * w) 0)))

/-- O39. The layout engine (R307, R308, Table 8.7): once the output tiles from the reached one on are written the task is complete, and an
output element comes from the place that the operation names.
Readings of the model's own: log 91. -/
def Obligations.LayoutTasksComplete : Prop :=
  (∀ (die : Fin 8) (endAt : Nat) (s x : State) (i : Image) (t : RunTask), seqTask s (SMap.get s.lye die {}) = some (i, t) →
    endAt < periodOf s.live →
    let k := (SMap.get s.lye die {}).item
    layoutTiles die i t (lyeCount t.task - k) k s = (true, x) →
    let ends (c : Instr) (op : Nat) : Prop := lyeOp t.task = op → Runs c s (fun r =>
      let m := SMap.get r.lye die {}
      (t.task.le, t.task.idx) ∈ r.beam.done ∧ m.run = none ∧ m.item = lyeCount t.task - 1 ∧ m.count = (SMap.get x.lye die {}).count
        ∧ (∀ n, n ≠ die.val → SMap.get r.lye n {} = SMap.get x.lye n {})
        ∧ r.lpd = x.lpd ∧ r.tst = x.tst ∧ r.me = x.me ∧ r.ve = x.ve ∧ r.ae = x.ae ∧ r.gse = x.gse ∧ r.num = x.num)
    ends (.convert die endAt) 1 ∧ ends (.transpose die endAt) 2 ∧ ends (.split64 die endAt) 3 ∧ ends (.join64 die endAt) 4
      ∧ ends (.reshape die endAt) 5)
  ∧ (∀ (t : TaskEntry) (a b : List SrcElem) (r c : Nat), a.length = 16384 → b.length = 16384 → r < 128 → c < 128 →
    let out (ins : List (List SrcElem)) : SrcElem := (layoutElems t ins).getD (128 * r + c) {}
    let from_ (xs : List SrcElem) (r c : Nat) : SrcElem := xs.getD (128 * r + c) {}
    (lyeOp t = 1 ∨ lyeOp t = 5 → out [a] = from_ a r c) ∧ (lyeOp t = 2 → out [a] = from_ a c r)
      ∧ (lyeOp t = 3 → c < 64 → out [a] = from_ a r (c + if t.payload.testBit 123 then 64 else 0))
      ∧ (lyeOp t = 3 → 64 ≤ c → (out [a]).value = 0)
      ∧ (lyeOp t = 4 → out [a, b] = if c < 64 then from_ a r c else from_ b r (c - 64)))

/-! ## Memory tiers and placement (chapters 09 to 12) -/

/-- O40. The lane window (R326, R327, R329, Table 9.5): a read returns the lane, a write stores it, a set and a clear change its bits; no
other word changes; a refused operation records 0x4902 and a refused read returns 0.
Readings of the model's own: log 15. -/
def Obligations.LaneWindowActs : Prop :=
  ∀ (p : Port) (t : Fin 9) (v : W64) (s : State),
    let x := tstOf s t
    let w := laneWord x
    (Reaches p (.tst t .laneData) 0 s →
      (laneBarred s t = true → Runs (.tstLaneDataRead p t) s (fun y =>
        y.out.head? = some (.csr p (tstOffset t 0x28) 0) ∧ UpToRecords s y ∧ Logged 0x4902 [] s y))
      ∧ (laneBarred s t = false → SMap.get x.undef w 0 = 0 → eccOf s t w ≠ 2 → Runs (.tstLaneDataRead p t) s (fun y =>
        y = { s with tst := y.tst, freeCount := y.freeCount, out := .csr p (tstOffset t 0x28) (laneValue x) :: s.out }
          ∧ (tstOf y t).cells = x.cells ∧ (tstOf y t).save = x.save ∧ (tstOf y t).undef = x.undef
          ∧ (tstOf y t).corrected = (if eccOf s t w = 1 then satAdd 32 x.corrected 1 else x.corrected))))
    ∧ (∀ (c : Instr) (r : TstReg) (f : W64 → W64),
      ((c, r, f) = (.tstLaneDataWrite p t v, .laneData, fun _ => v) ∨ (c, r, f) = (.tstLaneSet p t v, .laneSet, fun l => l ||| v)
        ∨ (c, r, f) = (.tstLaneClr p t v, .laneClr, fun l => l &&& ~~~v)) →
      Reaches p (.tst t r) v.toNat s →
      (laneChangeBarred s t = true → Runs c s (fun y => UpToRecords s y ∧ Logged 0x4902 [] s y))
      ∧ (laneChangeBarred s t = false → SMap.get x.undef w 0 = 0 → Runs c s (fun y =>
        y = { s with tst := y.tst, freeCount := y.freeCount } ∧ laneValue (tstOf y t) = f (laneValue x)
          ∧ (∀ k, k ≠ w → wordBytes (tstOf y t) k = wordBytes x k) ∧ ∀ n, n ≠ t.val → tstOf y n = tstOf s n)))
    ∧ (laneChangeBarred s t = (inJob s || laneBarred s t))

/-- O41. The background test (R331 to R334): a region's test starts with the region redirected to the save buffer, so that every word
reads as before; it ends in the next region, the next bank or the next pass; a failure keeps the region redirected, marks the bank and
records 0x4901. -/
def Obligations.BackgroundTestsRun : Prop :=
  ∀ (t : Fin 9) (s : State), let x := tstOf s t
    (∀ b, testMayStart s t = true → nextTestBank s t x.bank = some b → Runs (.backgroundTestRegion t) s (fun y =>
      let z := tstOf y t
      y = { s with tst := y.tst } ∧ z.testing = true ∧ z.phase = 1 ∧ z.bank = b ∧ z.region = (if b = x.bank then x.region else 0)
        ∧ z.cells = x.cells ∧ (∀ k, wordBytes z k = wordBytes x k) ∧ ∀ n, n ≠ t.val → tstOf y n = tstOf s n))
    ∧ (testMayStart s t = false → Runs (.backgroundTestRegion t) s (fun y => y = s))
    ∧ (x.testing = true → x.region < 63 → Runs (.backgroundTestRegionEnd t true) s (fun y =>
      let z := tstOf y t
      y = { s with tst := y.tst } ∧ z.testing = false ∧ z.phase = 0 ∧ z.save = [] ∧ z.region = x.region + 1 ∧ z.bank = x.bank
        ∧ z.gap = bits x.testCtrl.toNat 31 16 ∧ ∀ n, n ≠ t.val → tstOf y n = tstOf s n))
    ∧ (x.testing = true → x.region = 63 → nextTestBank s t (x.bank + 1) = none → Runs (.backgroundTestRegionEnd t true) s (fun y =>
      (tstOf y t).passes = satAdd 32 x.passes 1 ∧ (tstOf y t).region = 0 ∧ (tstOf y t).testing = false
        ∧ Logged 0x0900 (detail [(1, t), (4, satAdd 32 x.passes 1)]) s y))
    ∧ (x.testing = true → Runs (.backgroundTestRegionEnd t false) s (fun y =>
      let z := tstOf y t
      UpToRecords { s with tst := y.tst } y ∧ z.testing = false ∧ z.failedRegion = some (x.bank * 65536 + x.region * 1024)
        ∧ z.failing = x.failing ||| (1#32 <<< x.bank) ∧ z.save = x.save ∧ z.cells = x.cells
        ∧ Logged 0x4901 (detail [(1, t), (1, x.bank), (1, x.region)]) s y))
    ∧ (x.testing = false → ∀ ok, Runs (.backgroundTestRegionEnd t ok) s (fun y => y = s))

/-- O42. Promotions, moves and replicas (R356 to R362, R365, R378): a promotion reserves its place and the buoy is MOVING, a refused one
records 0x0A01; a tile is copied; a tile that fails ends the move and is repaired; when every tile is copied the shadow becomes the
authoritative mooring and the old one is retained.
Readings of the model's own: log 26. -/
def Obligations.PlacementMovesBuoys : Prop :=
  ∀ (id : Nat) (dest : Place) (s : State) (i : Image) (e : BuoyEntry), s.img.live = some i → buoyEntry i id = some e →
    let b := buoyOf s id
    (promotable s i e = true → tierOf b.auth.place ≠ 2 → tierOf dest < tierOf b.auth.place → destOk s i e dest = true →
      awaitsFree s i dest (homeBytes e) = false →
      ((blockers s i id dest (homeBytes e)).find? (keepsPlace s i) = none → Runs (.promotion id dest) s (fun y =>
        (buoyOf y id).phase = .moving ∧ (buoyOf y id).auth = b.auth
          ∧ ∃ m, (buoyOf y id).move = some m ∧ m.kind = .promotion ∧ m.dest.place = dest ∧ m.next = 0 ∧ m.marked = []))
      ∧ (∀ v, (blockers s i id dest (homeBytes e)).find? (keepsPlace s i) = some v → nextVictim s i e dest = none →
        Runs (.promotion id dest) s (fun y => UpToRecords { s with ple := y.ple } y
          ∧ y.ple = { s.ple with counts := { s.ple.counts with stayed := satAdd 32 s.ple.counts.stayed 1 } }
          ∧ Logged 0x0A01 (detail [(4, id), (4, v), (1, 1)]) s y)))
    ∧ (∀ (m : Move) (k : Nat) (x : State), b.move = some m → moveTile (buoyTiles e) m = some k → m.paused = false →
      s.glb.state = .running → beforeEclipse s = true →
      (copyUnit e b.auth m.dest k (moveUse m.kind id k) s = (.done, x) → Runs (.moveTileCopy id) s (fun y =>
        y = { x with ple := y.ple } ∧ (buoyOf y id).move = (buoyOf x id).move.map (Move.step (buoyTiles e))
          ∧ (buoyOf y id).auth = (buoyOf x id).auth ∧ ∀ n, n ≠ id → buoyOf y n = buoyOf x n))
      ∧ (copyUnit e b.auth m.dest k (moveUse m.kind id k) s = (.failed, x) → Runs (.moveTileCopy id) s (fun y =>
        (buoyOf y id).move = none ∧ (buoyOf y id).phase = .repairing ∧ (∃ q ∈ y.ple.repairs, q.buoy = id ∧ q.tile = k)
          ∧ Logged 0x4A00 (detail [(4, id), (4, k)]) x y)))
    ∧ (∀ m, b.move = some m → moveWhole e m = true →
      let switched (y : State) : Prop :=
        y = { s with ple := y.ple } ∧ (buoyOf y id).auth = m.dest ∧ (buoyOf y id).phase = .moored ∧ (buoyOf y id).move = none
          ∧ (buoyOf y id).retained = (if keepsOld e b.auth then b.retained ++ [b.auth] else b.retained)
          ∧ (∀ n, n ≠ id → buoyOf y n = buoyOf s n)
      (m.kind ≠ .replica → Runs (.moveSwitch id) s switched) ∧ (m.kind = .replica → Runs (.replicaFillComplete id) s switched))
    ∧ (replicaMay s i e dest = true → Runs (.replicaFill id dest) s (fun y =>
      (buoyOf y id).phase = .moving ∧ (buoyOf y id).auth = b.auth
        ∧ ∃ m, (buoyOf y id).move = some m ∧ m.kind = .replica ∧ m.dest.place = dest ∧ m.next = 0))

/-- O43. Windows (R344, R345): once the last tile of a window is copied, its fill or its write-back is counted, and a written-back buoy
lies in its home again.
Readings of the model's own: log 66. -/
def Obligations.WindowsFillAndEmpty : Prop :=
  ∀ (id : Nat) (s x : State) (i : Image) (e : BuoyEntry) (j : WindowJob), s.img.live = some i → buoyEntry i id = some e →
    planRuns s = true → beforeEclipse s = true →
    (jobOf s id true = some j → copyRest e (buoyOf (yieldMove id s) id).auth ⟨residenceAt s.img.binding i e (j.planBeam + 1), false⟩ j.left
        (yieldMove id s) = (0, x) →
      Runs (.windowFill id) s (fun y => y = { x with ple := y.ple } ∧ y.ple.counts = { x.ple.counts with fills := satAdd 32 x.ple.counts.fills 1 }
        ∧ y.ple.table = x.ple.table ∧ ∀ k ∈ y.ple.windows, k ≠ j ∨ j.left = 0))
    ∧ (jobOf s id false = some j → copyRest e (buoyOf s id).auth (moorIn s i e (buoyOf s id).home) j.left s = (0, x) →
      Runs (.writeBack id) s (fun y => y = { x with ple := y.ple }
        ∧ y.ple.counts = { x.ple.counts with writebacks := satAdd 32 x.ple.counts.writebacks 1 }
        ∧ (buoyOf y id).auth = moorIn s i e (buoyOf s id).home ∧ (buoyOf y id).retained = []
        ∧ ∀ n, n ≠ id → buoyOf y n = buoyOf x n))

/-- O44. Repairs (R374, R375, R377): a clean tile is delivered, every engine that holds on it resumes, and the repair is recorded; with no
clean source the buoy is LOST with fault 0x8A00; repairs beyond REPAIR_ALLOW are fault 0x8A01. -/
def Obligations.RepairsDeliverOrLose : Prop :=
  (∀ (id k clocks : Nat) (s x : State) (i : Image) (e : BuoyEntry) (r : RepairReq), s.img.live = some i → buoyEntry i id = some e →
    s.ple.repairs.find? (fun r => r.buoy == id && r.tile == k) = some r →
    (∀ code b, findSource i e k s = (.found code b, x) → Runs (.repairDeliver id k clocks) s (fun y =>
      LoggedWithin 3 0x0A00 (detail [(4, id), (4, k), (1, code), (4, clocks)]) x y
        ∧ (∀ q ∈ y.ple.repairs, ¬(q.buoy = id ∧ q.tile = k))
        ∧ (∀ u, (SMap.get y.me u {}).held ≠ some ⟨id, k⟩ ∧ (veUnit y u).held ≠ some ⟨id, k⟩ ∧ (SMap.get y.ae u {}).held ≠ some ⟨id, k⟩
          ∧ (SMap.get y.gse u {}).held ≠ some ⟨id, k⟩ ∧ (SMap.get y.lye u {}).held ≠ some ⟨id, k⟩)
        ∧ (SMap.sorted x.ve = true → ∀ u, (veUnit y u).regs = (veUnit x u).regs ∧ (veUnit y u).run = (veUnit x u).run)
        ∧ (r.waiters ≠ [] → y.ple.repairBeam = x.ple.repairBeam + clocks) ∧ (r.waiters = [] → y.ple.repairBeam = x.ple.repairBeam)))
    ∧ (findSource i e k s = (.none_, x) → Runs (.repairDeliver id k clocks) s (fun y =>
      (buoyOf y id).phase = .lost ∧ (buoyOf y id).move = none ∧ (∀ q ∈ y.ple.repairs, q.buoy ≠ id)
        ∧ Logged 0x8A00 (detail [(4, id), (4, k)]) x y ∧ (inJob x = true → y.beam.stopped = true))))
  ∧ (∀ (s : State) (r : RepairReq), s.ple.repairs.find? (fun r => !r.waiters.isEmpty) = some r → planRuns s = true →
    (bits s.live.plePolicy.toNat 31 0 < repairSum s → Runs .repairAllowExceeded s (fun y =>
      Faulted 0x8A01 (detail [(4, r.buoy), (4, r.tile), (4, repairSum s)]) s y))
    ∧ (repairSum s ≤ bits s.live.plePolicy.toNat 31 0 → Runs .repairAllowExceeded s (fun y => y = s)))

/-- O45. The LPDDR5X packages (R390, R399, R403): a data group that fails makes its units failed, and is a fault in a job; a refresh rate
is recorded and reported; a refresh keeps the contents; the oldest write-combining entry is written out.
Readings of the model's own: log 89. -/
def Obligations.PackagesAct : Prop :=
  ∀ (p : Fin 16) (g : Fin 4) (s : State),
    (dataGroup s.lpd p g ≠ [] →
      let u : State := { s with lpd := { s.lpd with failed :=
        s.lpd.failed ++ (dataGroup s.lpd p g).filter (fun x => !s.lpd.failed.contains x) } }
      (inJob s = true → Runs (.dataGroupFailure p g) s (fun y => Faulted 0x8B01 (detail [(1, p), (1, g)]) u y))
      ∧ (inJob s = false → Runs (.dataGroupFailure p g) s (fun y => y = u)))
    ∧ (∀ (rate : Nat) (hot : Bool),
      let noted (y : State) : Prop := (∀ u ∈ packageUnits s.lpd p, (SMap.get y.lpd.info u {}).refresh = rate % 256)
        ∧ (∀ u, u ∉ packageUnits s.lpd p → SMap.get y.lpd.info u {} = SMap.get s.lpd.info u {}) ∧ y.lpd.cells = s.lpd.cells
      (inJob s = true → (16 < rate ∨ hot = true) → Runs (.refreshRateReport p rate hot) s (fun y =>
        noted y ∧ Faulted 0x8B02 (detail [(1, p)]) { s with lpd := { s.lpd with info := y.lpd.info } } y))
      ∧ (¬(inJob s = true ∧ (16 < rate ∨ hot = true)) → (16 ≤ rate ∨ hot = true) → Runs (.refreshRateReport p rate hot) s (fun y =>
        noted y ∧ UpToRecords { s with lpd := { s.lpd with info := y.lpd.info } } y ∧ Logged 0x4B01 (detail [(1, p), (1, rate)]) s y))
      ∧ (rate < 16 → hot = false → Runs (.refreshRateReport p rate hot) s (fun y =>
        noted y ∧ y = { s with lpd := { s.lpd with info := y.lpd.info } })))
    ∧ Runs (.perBankRefresh p) s (fun y => y = s)
    ∧ (∀ e es, wcbOf s.lpd p = e :: es → lineFailed s.lpd e.line = false → Runs (.wcbWriteOut p) s (fun y =>
      y = { s with lpd := { s.lpd with wcb := y.lpd.wcb, cells := y.lpd.cells, mergeReads := y.lpd.mergeReads } } ∧ wcbOf y.lpd p = es
        ∧ (∀ q, q ≠ p.val → wcbOf y.lpd q = wcbOf s.lpd q)
        ∧ y.lpd.cells = canonCells s.lpd (SMap.overlay (SMap.shift e.bytes (e.line * 64)) s.lpd.cells)
        ∧ y.lpd.mergeReads = (if e.bytes.length = 64 then s.lpd.mergeReads else satAdd 32 s.lpd.mergeReads 1)))
    ∧ (wcbOf s.lpd p = [] → Runs (.wcbWriteOut p) s (fun y => y = s))

/-- O46. The deep tier (R414, R423, R424, R426, R427): a channel's failure, a capacity step, a second of write credit, the loading of a
home, and a crypto-erase, which is refused without its key, in a job, of the areas of a live image, and while another runs. -/
def Obligations.DeepTierActs : Prop :=
  ∀ s : State,
    (∀ c : Fin 16, s.deep.channels.contains c.val = true → s.deep.failed.contains c.val = false →
      let u : State := { s with deep := { s.deep with failed := s.deep.failed ++ [c.val] },
                                nor := { s.nor with retiredChannels := s.nor.retiredChannels ++ [c.val] } }
      (inJob s = true → Runs (.channelFailure c) s (fun y => Faulted 0x8C00 (detail [(1, c)]) u y))
      ∧ (inJob s = false → Runs (.channelFailure c) s (fun y => y = u)))
    ∧ Runs .spareBlocksExhausted s (fun y =>
        UpToRecords { s with deep := { s.deep with spareSteps := s.deep.spareSteps + 1 } } y
          ∧ Logged 0x0C01 (detail [(2, 1024 * s.deep.channels.length - 16 * (s.deep.spareSteps + 1))]) s y)
    ∧ (s.deep.channels ≠ [] → Runs .writeCreditAccrual s (fun y =>
        let c := min (s.deep.credit + (bits s.deep.policy.toNat 15 0 * 10 ^ 6 : Nat)) (bits s.deep.policy.toNat 47 32 * 2 ^ 30 : Nat)
        y = { s with deep := { s.deep with credit := c, creditNor := y.deep.creditNor } }))
    ∧ (∀ (id n k : Nat) (e : BuoyEntry) (o : DeepObj), liveBuoy s id = some e → (buoyOf s id).home = .deep n →
        deepObj s.deep n = some o → nextUnloaded o = some k →
        ((bits s.deep.policy.toNat 31 16 * 2 ^ 30 : Nat) < s.deep.credit → Runs (.homeLoading id) s (fun y =>
          (∃ q ∈ y.deep.objects, q.num = n ∧ (SMap.get q.tiles k none).isSome = true) ∧ y.deep.credit < s.deep.credit
            ∧ y.deep.written = s.deep.written + buoyPitch e))
        ∧ (s.deep.credit ≤ (bits s.deep.policy.toNat 31 16 * 2 ^ 30 : Nat) → Runs (.homeLoading id) s (fun y => y = s)))
    ∧ (∀ (p : Port) (m : Fin 16), let v := BitVec.ofNat 64 (0xE5 * 2 ^ 56 + m.val)
        Reaches p .deepErase v.toNat s → inJob s = false → s.deep.erasing = none → (s.img.live = none ∨ m.val % 4 = 0) →
        Runs (.deepErase p v) s (fun y => y = { s with deep := y.deep, nor := y.nor, freeCount := s.freeCount + 4 }
          ∧ y.deep.erasing = some (BitVec.ofNat 4 m.val)
          ∧ y.deep.objects = s.deep.objects.filter (fun o => !(decide (o.area < 4) && m.val.testBit o.area))
          ∧ y.deep.channels = s.deep.channels ∧ y.deep.credit = s.deep.credit))
    ∧ (∀ (p : Port) (v : W64), Reaches p .deepErase v.toNat s →
        (bits v.toNat 63 56 ≠ 0xE5 ∨ inJob s = true ∨ s.deep.erasing ≠ none ∨ s.img.live ≠ none ∧ bits v.toNat 1 0 ≠ 0) →
        Runs (.deepErase p v) s (fun y => UpToRecords s y ∧ LoggedWithin 3 0x4C02 [] s y))
    ∧ (∀ m, s.deep.erasing = some m → Runs .cryptoEraseComplete s (fun y =>
        UpToRecords { s with deep := { s.deep with erasing := none } } y ∧ Logged 0x0C00 (detail [(1, m.toNat)]) s y))

/-! ## The Soern fabric (chapter 13) -/

/-- O47. Links train and fail (R436, R438 to R440): a training starts and is counted; it ends with the link up, or not admitted with event
0x4D00 and its cause; a link that goes down is fault 0x8D01 as a member link of an armed or running group and event 0x4D00 elsewhere; a
lane with errors is noted for the spare. -/
def Obligations.LinksTrainAndFail : Prop :=
  ∀ (l : Fin 48) (s : State), let k := linkOf s l
    (mayTrain s l = true → s.fab.disable.getLsbD l = false → k.state ≠ 1 → Runs (.linkTraining l) s (fun t =>
      t = { s with fab := { s.fab with links := t.fab.links } } ∧ (linkOf t l).state = 1
        ∧ (linkOf t l).trainings = satAdd 16 k.trainings 1 ∧ (linkOf t l).replay = [] ∧ (linkOf t l).sendSeq = 0
        ∧ ∀ n, n ≠ l.val → linkOf t n = linkOf s n))
    ∧ (mayTrain s l = true → s.fab.disable.getLsbD l = true → k.state ≠ 4 → Runs (.linkTraining l) s (fun t =>
      (linkOf t l).state = 4 ∧ Logged 0x4D00 (detail [(1, l), (1, 5)]) s t))
    ∧ (∀ r : LinkReport, k.state = 1 →
      (∀ c, refuseCause k r s = some c → Runs (.linkTrainingComplete l r) s (fun t =>
        (linkOf t l).state = 3 ∧ Logged 0x4D00 (detail [(1, l), (1, c)]) s t ∧ ∀ n, n ≠ l.val → linkOf t n = linkOf s n))
      ∧ (refuseCause k r s = none → Runs (.linkTrainingComplete l r) s (fun t =>
        (linkOf t l).state = 2 ∧ (linkOf t l).delay = delayOf k r ∧ (linkOf t l).worn = []
          ∧ (linkOf t l).spareFor = (if ((goodLanes k r).take 4).contains 4 then replacedLane ((goodLanes k r).take 4) else 15)
          ∧ (((goodLanes k r).take 4).contains 4 = true →
            Logged 0x0D02 (detail [(1, l), (1, replacedLane ((goodLanes k r).take 4))]) s t)))
      ∧ ((goodLanes k r).length < 4 → refuseCause k r s = some 2)
      ∧ (4 ≤ (goodLanes k r).length → 150 < delayOf k r → refuseCause k r s = some 3)
      ∧ (4 ≤ (goodLanes k r).length → delayOf k r ≤ 150 → k.peerDomain ≠ 0 → s.fab.domain ≠ 0 → k.peerDomain ≠ s.fab.domain.toNat →
        refuseCause k r s = some 4))
    ∧ (∀ time now : Nat, k.state = 1 →
      Runs (.echo l time false now) s (fun t => t = { s with out := .block l (.echo time true) :: s.out })
      ∧ Runs (.echo l time true now) s (fun t => (linkOf t l).echoes = (k.echoes ++ [now - time]).take 64
          ∧ t = { s with fab := { s.fab with links := t.fab.links } }))
    ∧ (∀ c : Instr, (c = .linkDown l ∨ c = .ackTimeout l ∧ k.replay ≠ []) → k.state = 2 →
      (inJob s = true → isMember s l = true → Runs c s (fun t =>
        (linkOf t l).state = 0 ∧ t.beam.stopped = true ∧ Logged 0x8D01 (detail [(1, l)]) s t))
      ∧ (¬(inJob s = true ∧ isMember s l = true) → Runs c s (fun t =>
        (linkOf t l).state = 0 ∧ t.beam.stopped = s.beam.stopped ∧ Logged 0x4D00 (detail [(1, l), (1, 1)]) s t)))
    ∧ (∀ n : Fin 5, k.state = 2 → Runs (.laneErrorRate l n) s (fun t =>
      (linkOf t l).state = 2 ∧ n.val ∈ (linkOf t l).worn ∧ (linkOf t l).replay = k.replay
        ∧ Logged 0x4D05 (detail [(1, l), (1, n)]) s t ∧ ∀ m, m ≠ l.val → linkOf t m = linkOf s m))

/-- O48. Flits, acknowledgements, runs and control messages (R442, R443, R446, R451, R453, R466, R497): a flit is accepted only with a good
CRC and the expected SEQ; ACK frees the replay buffer, NAK and the retry timeout send it again; a run takes its queue's flits; a flow that
is not ready is fault 0x8D03 or 0x8E00; a run that is not acknowledged is fault 0x8D00.
Readings of the model's own: log 19, 23 to 25. -/
def Obligations.FlitsAndRunsGo : Prop :=
  ∀ (l : Fin 48) (s : State), (linkOf s l).state = 2 → let k := linkOf s l
    let onlyLink (t : State) : Prop := t = { s with fab := { s.fab with links := t.fab.links } } ∧ ∀ n, n ≠ l.val → linkOf t n = linkOf s n
    (∀ f : Flit, (f.kind = 0 → Runs (.flitReceive l true f) s (fun t => t = s))
      ∧ (f.kind = 1 → f.seq = k.expectSeq → Runs (.flitReceive l true f) s (fun t => onlyLink t
        ∧ linkOf t l = { k with expectSeq := (k.expectSeq + 1) % 65536, nakSent := false, ackOwed := true }))
      ∧ (∀ ok : Bool, (ok = false ∨ f.kind ≠ 0 ∧ f.seq ≠ k.expectSeq) → Runs (.flitReceive l ok f) s (fun t => onlyLink t
        ∧ linkOf t l = { k with nakSent := true, nakOwed := k.nakOwed || !k.nakSent })))
    ∧ (∀ (n d : Nat), ackedCount k n = some d → k.waiting = [] →
      Runs (.ack l n) s (fun t => onlyLink t ∧ linkOf t l = { k with replay := k.replay.drop d })
      ∧ (k.replay.drop d ≠ [] → Runs (.nak l n) s (fun t =>
        linkOf t l = { k with replay := k.replay.drop d, retries := satAdd 16 k.retries 1 }
          ∧ t.fab.retries = satAdd 32 s.fab.retries 1 ∧ t.out = ((k.replay.drop d).map (Out.flit l)).reverse ++ s.out
          ∧ ∀ n, n ≠ l.val → linkOf t n = linkOf s n))
      ∧ (k.replay.drop d = [] → Runs (.nak l n) s (fun t => onlyLink t ∧ (linkOf t l).replay = [])))
    ∧ (k.replay ≠ [] → Runs (.retryTimeout l) s (fun t =>
        linkOf t l = { k with retries := satAdd 16 k.retries 1 } ∧ t.fab.retries = satAdd 32 s.fab.retries 1
          ∧ t.out = (k.replay.map (Out.flit l)).reverse ++ s.out ∧ ∀ n, n ≠ l.val → linkOf t n = linkOf s n))
    ∧ (∀ (slot : Nat) (i : Image) (e : SlotEntry), s.img.live = some i → sendRun i s.beam.planBeam l slot = some e →
      planRuns s = true → s.beam.offset ≤ slot * slotLen s.live →
      let u := advanceTo (slot * slotLen s.live) s
      let first := e.hop = 0 ∧ e.resp = false ∧ SMap.get s.fab.runs (runsKey e) 0 = 0
      ((¬first ∨ (i.slots.flows[e.flow]?).all (fun f => f.kind == 2) = true) → Runs (.runStart l slot) s (fun t =>
        SMap.get t.fab.runs (runsKey e) 0 = SMap.get s.fab.runs (runsKey e) 0 + 1
          ∧ t.beam.offset = slot * slotLen s.live ∧ t.img = s.img ∧ t.lpd = s.lpd ∧ t.tst = s.tst
          ∧ (runFlits u e = [] → t.fab.sent = s.fab.sent) ∧ (runFlits u e ≠ [] → ∃ r ∈ t.fab.sent, r.link = e.link ∧ r.flow = e.flow)))
      ∧ (∀ f, first → i.slots.flows[e.flow]? = some f → f.kind = 1 → streamReady u i f = false → Runs (.runStart l slot) s (fun t =>
        Faulted 0x8D03 (detail [(2, e.flow), (4, s.beam.planBeam)]) u t))
      ∧ (∀ f, first → i.slots.flows[e.flow]? = some f → f.kind = 3 → flowBytes i e.flow ≠ some (queuedBytes u e.flow) →
        Runs (.runStart l slot) s (fun t => t.beam.stopped = true
          ∧ Logged 0x8E00 (detail [(4, (bucketFlow i e.flow).elim 0 (·.1)), (4, s.beam.planBeam)]) u t)))
    ∧ (∀ (flow : Nat) (r : SentRun), s.fab.sent.find? (fun r => r.link == l.val && r.flow == flow && unacked k r.lastSeq) = some r →
      Runs (.runAckTimeout l flow) s (fun t =>
        Faulted 0x8D00 (detail [(1, l), (2, flow), (4, r.planBeam)])
          { s with fab := { s.fab with sent := s.fab.sent.filter (· != r) } } t))
    ∧ (∀ (frag ty : Nat) (content : Bytes), frag < fragmentCount ty → Runs (.msg l frag ty content) s (fun t =>
        let u := setLink l { k with frags := if frag + 1 = fragmentCount ty then [] else k.frags ++ [(frag, content)] }
          { s with freeCount := s.freeCount + 1 }
        match Config.relay (s.freeCount + 1) with
        | some m => if isMember s m.val then t = setLink m { linkOf u m with msgs := (linkOf u m).msgs ++ [.msg frag ty content] } u else t = u
        | none => t = u))

/-- O49. Transactions (R460 to R463): a target refuses outside its serving states, answers MALFORMED with event 0x4D06, UNBACKED with event
0x4101 and an empty READ or WRITE at once, and performs the rest; a reply ends its request, delivers its tile, or is fault 0x8D02.
Readings of the model's own: log 81. -/
def Obligations.TransactionsAreServed : Prop :=
  ∀ (l : Fin 48) (s : State), (linkOf s l).state = 2 →
    (∀ (m : Bytes) (c : Instr), let h := parseTx m
      (c, h.op) = (.read l m, 1) ∨ (c, h.op) = (.write l m, 2) ∨ (c, h.op) = (.atomic l m, 3) ∨ (c, h.op) = (.reduceAdd l m, 4) →
      let a := h.addr % 2 ^ 45
      let answers (t u : State) (status : Nat) (data : Bytes) : Prop := t = answerTx l h status ⟨data, false⟩ u
      (txServed s = false → Runs c s (fun t => answers t s 4 []))
      ∧ (txServed s = true → txMalformed h = true → Runs c s (fun t => ∃ u, UpToRecords s u ∧ answers t u 3 []
        ∧ Logged 0x4D06 (detail [(2, h.src), (1, h.op)]) s u))
      ∧ (txServed s = true → txMalformed h = false → h.op ≤ 2 → h.len = 0 → Runs c s (fun t => answers t s 0 []))
      ∧ (txServed s = true → txMalformed h = false → (2 < h.op ∨ h.len ≠ 0) → t1Cap s.lpd ≤ a →
        Runs c s (fun t => ∃ u, UpToRecords s u ∧ answers t u 1 [] ∧ Logged 0x4101 [] s u))
      ∧ (txServed s = true → txMalformed h = false → (2 < h.op ∨ h.len ≠ 0) →
        a + (if h.op = 3 then 8 else h.len) ≤ t1Cap s.lpd → a < t1Cap s.lpd → badLines s a (if h.op = 3 then 8 else h.len) = [] →
        (∀ n ∈ linesOf a (if h.op = 3 then 8 else h.len), lineFailed s.lpd n = false) →
        let old := t1Bytes s.lpd a 8
        (h.op = 1 → Runs c s (fun t => answers t s 0 (t1Bytes s.lpd a h.len)))
        ∧ (h.op = 2 → Runs c s (fun t => answers t (t1Write a (bytesAt m 32 h.len) none s) 0 []))
        ∧ (h.op = 3 → atomicNew h (w64 (leNat old)) (w64 (leNat (bytesAt m 32 8))) = none → Runs c s (fun t =>
          answers t (loadLine s (a / 64)) 0 old))
        ∧ (∀ v, h.op = 3 → atomicNew h (w64 (leNat old)) (w64 (leNat (bytesAt m 32 8))) = some v → Runs c s (fun t =>
          answers t (t1Write a (leBytes 8 v.toNat) none (loadLine s (a / 64))) 0 old))
        ∧ (h.op = 4 → Runs c s (fun t => answers t
          (t1Write a (reduceElems h.rfmt (t1Bytes s.lpd a h.len) (bytesAt m 32 h.len)) none ((linesOf a h.len).foldl loadLine s)) 0 []))))
    ∧ (∀ (r : Reply) (q : Request) (c : Instr) (op : Nat),
      (c, op) = (.readData l r, 1) ∨ (c, op) = (.writeDone l r, 2) ∨ (c, op) = (.atomicData l r, 3) ∨ (c, op) = (.reduceDone l r, 4) →
      requestOf s op r.tag = some q →
      let u : State := { s with fab := { s.fab with requests := s.fab.requests.erase q } }
      ((r.status = 1 ∨ r.status = 3 ∨ r.status = 4) → Runs c s (fun t => Faulted 0x8D02 (detail [(2, q.target), (1, op), (1, r.status)]) u t))
      ∧ (r.status = 0 → op = 1 → Runs c s (fun t => ∃ b k,
        (q.use = .fetch b k ∨ q.use = .replica b k ∨ q.use = .repair b k)
          ∧ t = { u with fab := { u.fab with inbox := u.fab.inbox ++ [⟨b, k, trimStored r.data⟩] } }))
      ∧ (r.status ≠ 1 → r.status ≠ 3 → r.status ≠ 4 → op ≠ 1 → Runs c s (fun t => t = u)))

/-- O50. Messages and membership (R464, R472 to R476, R59, R465, R366): a flood is taken and passed on once; a routed message goes on to its
destination; HELLO and LINK_STATE are noted, ASSIGN numbers the module, a change is kept and takes effect at its tick, the master announces
joins and leaves, replicas are invalidated, PLACEMENT is answered or noted, and discovery forms a domain of 16 modules or more.
Readings of the model's own: log 90. -/
def Obligations.MessagesAct : Prop :=
  ∀ (l : Fin 48) (h : MsgHeader) (s : State), let own := s.glb.moduleNumber.toNat
    (∀ c m, messageOf c = some (l, m) → m.hdr = h →
      ((h.scope = 2 ∨ h.scope = 3) → messageSeen h s = true → Runs c s (fun t => t = s))
      ∧ (h.scope = 1 → h.dest ≠ own → h.hopsLeft = 0 → Runs c s (fun t =>
        t.fab.drops = satAdd 16 s.fab.drops 1 ∧ Logged 0x4D04 (leBytes 2 h.dest) s t))
      ∧ (∀ k n, h.scope = 1 → h.dest ≠ own → h.hopsLeft ≠ 0 → routeTo s h.dest = some (k, n) → Runs c s (fun t =>
        t = { s with fab := { s.fab with links := t.fab.links }, out := t.out }
          ∧ Carries t k { m with hdr := { h with hopsLeft := h.hopsLeft - 1 } })))
    ∧ (∀ m, h.scope = 0 → Runs (.hello l h m) s (fun t => t = { s with fab := { s.fab with links := t.fab.links } }
        ∧ linkOf t l = { linkOf s l with peerSerial := m.serial, peerLink := m.link, peerDomain := m.domain.toNat,
                                         peerValid := m.number.isSome, peerModule := m.number.getD 0 }
        ∧ ∀ n, n ≠ l.val → linkOf t n = linkOf s n))
    ∧ (∀ m, h.scope = 2 → messageSeen h s = false → Runs (.linkState l h m) s (fun t =>
        (∀ x, x ∈ t.fab.graph ↔ x = m ∨ x.serial ≠ m.serial ∧ x ∈ s.fab.graph) ∧ (h.origin, h.id) ∈ t.fab.seen
          ∧ GoesOn (upLinks s) l ⟨h, .linkState m⟩ t ∧ t.fab.members = s.fab.members))
    ∧ (∀ m x, h.scope = 2 → messageSeen h s = false → s.fab.discovery ≠ 2 → memberOf m.members s.nor.serial = some x →
        Runs (.assign l h m) s (fun t =>
          t.glb.moduleValid = true ∧ t.glb.moduleNumber = BitVec.ofNat 13 x.number ∧ t.fab.discovery = 2 ∧ t.fab.domain = m.domain
            ∧ t.fab.members = m.members ∧ t.beam.count = m.count ∧ t.beam.countValid = true
            ∧ GoesOn (upLinks s) l ⟨h, .assign m⟩ t
            ∧ LoggedWithin 4 0x0D00 (detail [(2, m.members.length), (2, t.beam.master), (2, t.beam.standby)]) s t))
    ∧ (∀ m, h.scope = 2 → messageSeen h s = false → (s.beam.count.toNat < m.tick ∨ s.beam.countValid = false) →
        Runs (.membership l h m) s (fun t => t.fab.change = some m ∧ GoesOn (upLinks s) l ⟨h, .membership m⟩ t
          ∧ t.fab.members = s.fab.members ∧ t.glb = s.glb ∧ t.beam = s.beam))
    ∧ (∀ c, s.fab.change = some c → s.beam.count.toNat = c.tick → Runs .membershipApply s (fun t =>
        LoggedWithin 3 0x0D01 (detail ((8, c.tick) :: (c.joining.map (fun m => (2, m.number)) ++ c.leaving.map (fun n => (2, n))))) s t
          ∧ (s.glb.moduleValid = true → own ∈ c.leaving → t.glb.moduleValid = false)
          ∧ (own ∉ c.leaving → ∀ m, m ∈ t.fab.members ↔ (m ∈ s.fab.members ∧ m.number ∉ c.leaving)
            ∨ (m ∈ c.joining ∧ ∀ x ∈ s.fab.members, x.number ∉ c.leaving → x.serial ≠ m.serial))
          ∧ (∀ m ∈ s.fab.members, m.number = s.beam.master → s.beam.master ∉ c.leaving → t.beam.master = s.beam.master)))
    ∧ ((h.scope = 0 ∨ h.scope = 1 ∧ h.dest = own) → s.beam.role = .master →
        (s.fab.change ≠ none → (∀ m, Runs (.join l h m) s (fun t => t = { s with fab := { s.fab with joinReqs := s.fab.joinReqs ++ [m] } }))
          ∧ ∀ n, Runs (.leave l h n) s (fun t => t = { s with fab := { s.fab with leaveReqs := s.fab.leaveReqs ++ [n] } }))
        ∧ (s.fab.change = none → (∀ m, Runs (.join l h m) s (fun t => ∃ c, t.fab.change = some c ∧ c.tick % 80 = 0
            ∧ s.beam.count.toNat + 1600 ≤ c.tick ∧ c.tick < s.beam.count.toNat + 1680 ∧ c.leaving = s.fab.leaveReqs
            ∧ c.joining.map (fun x => (x.serial, x.prio)) = (s.fab.joinReqs ++ [m]).map (fun x => (x.serial, x.prio))
            ∧ ∀ n ∈ upLinks s, ∃ g, Carries t n ⟨g, .membership c⟩))
          ∧ ∀ n, Runs (.leave l h n) s (fun t => ∃ c, t.fab.change = some c ∧ c.tick % 80 = 0
            ∧ s.beam.count.toNat + 1600 ≤ c.tick ∧ c.tick < s.beam.count.toNat + 1680 ∧ c.leaving = s.fab.leaveReqs ++ [n]
            ∧ ∀ n ∈ upLinks s, ∃ g, Carries t n ⟨g, .membership c⟩)))
    ∧ (∀ p bs, h.scope = 3 → messageSeen h s = false → Runs (.invalidate l h p bs) s (fun t =>
        (∀ b, b ∈ t.ple.invalid ↔ b ∈ s.ple.invalid ∨ b ∈ bs)
          ∧ t = { s with ple := { s.ple with invalid := t.ple.invalid }, fab := t.fab, out := t.out }
          ∧ GoesOn (memberLinks s) l ⟨h, .invalidate p bs⟩ t))
    ∧ (∀ m, (h.scope = 0 ∨ h.scope = 1 ∧ h.dest = own) →
        (∀ a, (m.kind = .replicaGrant ∨ m.kind = .repairGrant) → m.offset = some a → Runs (.placement l h m) s (fun t =>
          t = { s with fab := { s.fab with ownerAt := t.fab.ownerAt } }
            ∧ ∀ b, SMap.find? t.fab.ownerAt b = if b = m.buoy then some a else SMap.find? s.fab.ownerAt b))
        ∧ (∀ k n kind, (m.kind, kind) = (.replicaRequest, .replicaGrant) ∨ (m.kind, kind) = (.repairRequest, .repairGrant) →
          routeTo s h.origin = some (k, n) → Runs (.placement l h m) s (fun t =>
            Carries t k ⟨⟨1, 15, own, h.origin, s.fab.nextMsg⟩, .placement { m with kind := kind, offset := t1OffsetOf s m.buoy }⟩
              ∧ t.ple = s.ple ∧ t.fab.ownerAt = s.fab.ownerAt)))
    ∧ (∀ c, (c = .discovery ∨ c = .discoveryRetry ∧ s.fab.discovery = 3) → mayDiscover s = true →
        let g := domainGraph s
        let said (t : State) : Prop := ∀ n ∈ upLinks s, (∃ x g, Carries t n ⟨g, .hello x⟩ ∧ x.serial = s.nor.serial ∧ x.link = n)
          ∧ ∃ g, Carries t n ⟨g, .linkState (ownLinkState s none)⟩
        let few := elect (candidates g (reached g s.nor.serial)) = none
          ∨ ∃ m, elect (candidates g (reached g s.nor.serial)) = some m ∧ (takeIn g (reached g m.serial) [] []).1.length < 16
        (few → Runs c s (fun t => said t ∧ t.fab.discovery = 3 ∧ t.glb.moduleValid = false ∧ Logged 0x4D02 [] s t))
        ∧ (∀ m, elect (candidates g (reached g s.nor.serial)) = some m → 16 ≤ (takeIn g (reached g m.serial) [] []).1.length →
          (m.serial ≠ s.nor.serial → Runs c s (fun t => said t ∧ t.fab.discovery = 1 ∧ t.glb = s.glb ∧ t.ev = s.ev))
          ∧ (m.serial = s.nor.serial → Runs c s (fun t => let ms := makeMembers g (takeIn g (reached g m.serial) [] []).1
            said t ∧ t.fab.discovery = 2 ∧ t.glb.moduleValid = true ∧ t.fab.members = ms
              ∧ t.beam.count = w64 (startingCount s) ∧ t.beam.countValid = true
              ∧ t.fab.domain = w64 (s.nor.serial % 2 ^ 32 * 2 ^ 32 + startingCount s % 2 ^ 32)
              ∧ ∀ n ∈ upLinks s, ∃ g, Carries t n ⟨g, .assign ⟨t.fab.domain, ms, t.beam.count⟩⟩))))

/-! ## The gradient exchange and orbits (chapters 14, 15) -/

/-- O51. Exchange and orbits (R490 to R494, R525 to R543): the RDE combines a bucket's tiles in the order of the tree; packets leave, are
taken, staged, validated and unpacked; anchors, snapshots and checkpoints become valid objects; a restore passes its checks or fails with
its cause.
Readings of the model's own: log 21, 22, 71, 72. -/
def Obligations.ExchangeAndOrbits : Prop :=
  (∀ (arith : Nat) (xs : List Nat) (cs : List (List Nat)), (∀ c ∈ cs, c.length = xs.length) →
    (combineElems arith xs cs).length = xs.length
      ∧ ∀ j < xs.length, (combineElems arith xs cs).getD j 0 = combineElem arith (xs.getD j 0) (cs.map (·.getD j 0)))
  ∧ (∀ (s : State) (k : Nat) (i : Image) (b : Bucket), s.img.live = some i → i.exchange.buckets[k]? = some b → bucketTurn s i k b = true →
    (b.count = 0 → emptyBucketEnd s i b ≤ s.beam.offset → Runs (.bucketCombine k) s (fun t =>
      t = { s with rdx := { s.rdx with combined := t.rdx.combined, buckets := t.rdx.buckets } }
        ∧ SMap.get t.rdx.combined k 0 = stepsTaken s k + 1
        ∧ (stepsTaken s k = 0 → t.rdx.buckets = satAdd 32 s.rdx.buckets 1)))
    ∧ (∀ e kids h own s1 cs s2, let tile := b.first + stepsTaken s k; let pos := bucketPos i b
      b.count ≠ 0 → buoyEntry i b.buoy = some e → childTiles s i k b tile = some kids → tileWritten s i b.buoy tile = true →
      useTile rdeCode (rdeLe i) 0x4500 0x8501 e tile 0 s = (.good h own, s1) → checkAllReceived k b b.wire tile kids s1 = (some cs, s2) →
      let r := combineElems i.exchange.arith (tileElems own) cs
      Runs (.bucketCombine k) s (fun t =>
        SMap.get t.rdx.combined k 0 = stepsTaken s2 k + 1 ∧ t.rdx.held = none
          ∧ (∀ x ∈ t.rdx.tiles, x.bucket = k → x.tile = tile → x.down = true)
          ∧ (r.any nonfinite32 = true → t.num.nonFinite = true ∧ k ∈ t.rdx.nonfin)
          ∧ (pos ≠ 0 → SMap.get t.fab.outgoing (2 * upFlow b pos) []
            = packFlow 4 (upFlow b pos) (SMap.get s2.fab.outgoing (2 * upFlow b pos) []) (wireTile s2 i b tile pos r))
          ∧ (pos = 0 → let p := SMap.get s2.rdx.pairs b.layer (0, 0)
            let q := Pair.merge ⟨p.1.toNat, p.2.toNat⟩ (sumPairs (r.map (fun x => some (square32 x))))
            SMap.get t.rdx.pairs b.layer (0, 0) = (BitVec.ofNat 32 q.s, BitVec.ofNat 32 q.c)))))
  ∧ (∀ (s x : State) (i : Image) (o : OrbitSec), liveOrbit s = some (i, o) →
    (∀ k, s.orbit.dueOut = some k → workDue s i 2 = true → packEntries i o k o.sets s = (true, x) → Runs .pack s (fun t =>
      UpToRecords { x with orbit := { x.orbit with out := k % 2 ^ 24, outWritten := true, workDone := x.orbit.workDone ||| 4 } } t
        ∧ Logged 0x0F00 (leBytes 4 k) x t))
    ∧ (workDue s i 3 = true → unpackEntries i o o.sets s = (true, x) → Runs .unpack s (fun t =>
      t = { x with orbit := { x.orbit with workDone := x.orbit.workDone ||| 8 } }))
    ∧ (∀ c ts, workDue s i 5 = true → s.orbit.due = [c] → captureTiles (captureSet i c) s = (some ts, x) →
      let y := t1Write (holdBuffer x o c.checkpoint) (captureAhead i c (captureSet i c) ++ ts.flatten) none x
      (c.checkpoint = true → Runs .capture s (fun t =>
        t = { y with orbit := { y.orbit with ckptWriting := true, writing := some c, workDone := y.orbit.workDone ||| 32 } }))
      ∧ (c.checkpoint = false → Runs .capture s (fun t => Logged 0x0F03 (leBytes 8 c.jobStep) y t ∧ UpToRecords { y with orbit := { y.orbit with
          snapHeld := true, snapWriting := if o.snapDeep then some c else none, workDone := y.orbit.workDone ||| 32 } } t)))
    ∧ (∀ k, s.orbit.staged = some k →
      (firstBadPacket i o k 0 o.sets s = (none, x) → Runs .orbitInValidate s (fun t =>
        t = { x with orbit := { x.orbit with inReady := true, staged := none } }))
      ∧ (∀ n, firstBadPacket i o k 0 o.sets s = (some n, x) → Runs .orbitInValidate s (fun t =>
        UpToRecords { x with orbit := { x.orbit with inReady := false, staged := none } } t ∧ Logged 0x4F00 (detail [(4, k), (4, n)]) x t)))
    ∧ (s.orbit.anchorBusy = true → o.sets.foldl (fun s x => writeAnchor i x s) s = x → Runs .anchorRewriteComplete s (fun t =>
        UpToRecords { x with orbit := { x.orbit with anchorBusy := false } } t ∧ Logged 0x0F02 (leBytes 4 s.orbit.applied) x t
          ∧ ∀ y a g, o.sets = [y] → buoyEntry i y.anchor = some a → buoyEntry i y.stage = some g →
            ∃ d ∈ t.deep.objects, d.area = 1 ∧ d.buoy = a.id ∧ d.epoch = s.orbit.anchorEpoch ∧ d.valid = true ∧ d.tileCount = buoyTiles a))
    ∧ (∀ c, s.orbit.writing = some c → c.checkpoint = true → anchorWhole s.orbit c = true → Runs .checkpointComplete s (fun t =>
        t.orbit.ckptWriting = false ∧ t.orbit.writing = none
          ∧ ∃ d ∈ t.deep.objects, d.area = 3 ∧ d.valid = true ∧ d.jobId = i.jobId ∧ t.orbit.ckptLast = w64 (locator 3 d.c0 d.num)
            ∧ Logged 0x0F04 (detail [(8, locator 3 d.c0 d.num), (8, c.jobStep)]) (writeCapture i o c s).2 t))
    ∧ (∀ c, s.orbit.snapWriting = some c → c.checkpoint = false → Runs .snapshotDeepWriteComplete s (fun t =>
        t.orbit.snapWriting = none ∧ (s.orbit.snapRelease = true → t.orbit.snapHeld = false ∧ t.orbit.snapRelease = false)
          ∧ (s.orbit.snapRelease = false → t.orbit.snapHeld = s.orbit.snapHeld)
          ∧ ∃ d ∈ t.deep.objects, d.area = 2 ∧ d.valid = true ∧ d.jobId = i.jobId)))
  ∧ (∀ (p : Port) (s : State) (k : Nat), let k' := k % 2 ^ 32
    (Reaches p .rdxOrbitHost (at_ 32 k' + 2) s → Runs (.taken p k) s (fun t =>
      t = { s with orbit := { s.orbit with taken := k', outWritten := false } }))
    ∧ (Reaches p .rdxOrbitHost (at_ 32 k' + 1) s → liveOrbit s ≠ none →
      (k' = s.orbit.applied + 1 → s.orbit.inReady = false → Runs (.staged p k) s (fun t =>
        t = { s with orbit := { s.orbit with staged := some k' } }))
      ∧ ((k' ≠ s.orbit.applied + 1 ∨ s.orbit.inReady = true) → Runs (.staged p k) s (fun t =>
        UpToRecords { s with orbit := { s.orbit with inReady := false, staged := none } } t
          ∧ Logged 0x4F00 (detail [(4, k'), (4, 0xFFFFFFFF)]) s t)))
    ∧ (s.orbit.snapRelease = false →
      (Reaches p .rdxCapture 1 s → Runs (.snapReq p) s (fun t => t = { s with orbit := { s.orbit with snapReq := true } }))
      ∧ (Reaches p .rdxCapture 2 s → Runs (.ckptReq p) s (fun t => t = { s with orbit := { s.orbit with ckptReq := true } })))
    ∧ (Reaches p .rdxCapture 4 s → Runs (.snapRelease p) s (fun t =>
      (s.orbit.snapWriting = none → t = { s with orbit := { s.orbit with snapHeld := false, snapRelease := false } })
        ∧ (s.orbit.snapWriting ≠ none → t = { s with orbit := { s.orbit with snapRelease := true } }))))
  ∧ (∀ (p : Port) (v : W64) (s : State), Reaches p .rdxRestore v.toNat s →
    s.glb.state = .ready → s.img.stage = .checked → s.img.kind = .full →
    (∀ o, locatedObject s.deep (v.toNat % 2 ^ 58) = some o → Runs (.rdxRestore p v) s (fun t =>
      UpToRecords { s with orbit := { s.orbit with restore := 1, restoreObj := o.num, restored := none } } t))
    ∧ (locatedObject s.deep (v.toNat % 2 ^ 58) = none → Runs (.rdxRestore p v) s (fun t =>
      UpToRecords { s with orbit := { s.orbit with restore := 3, restored := none } } t ∧ LoggedWithin 3 0x4F03 [1] s t)))
  ∧ (∀ (s : State) (i : Image) (o : DeepObj), s.img.checked = some i → s.orbit.restore = 1 → s.img.stage = .checked → s.img.kind = .full →
    deepObj s.deep s.orbit.restoreObj = some o →
    let fails (x : State) (cause : Byte) (t : State) : Prop :=
      UpToRecords { x with orbit := { x.orbit with restore := 3, restored := none } } t ∧ Logged 0x4F03 [cause] x t
    (captureCrcOk o.content = false → Runs .restoreLoaded s (fails s 1))
    ∧ (captureCrcOk o.content = true → captureIsOf i o.content = false → Runs .restoreLoaded s (fails s 2))
    ∧ (captureCrcOk o.content = true → captureIsOf i o.content = true → captureFits i o.content = false → Runs .restoreLoaded s (fails s 3))
    ∧ (captureCrcOk o.content = true → captureIsOf i o.content = true → captureFits i o.content = true → ∀ x,
      (loadShards i (readEpochs o.content) o 0 (readDirectory o.content) s = (true, x) → Runs .restoreLoaded s (fun t =>
        t = { x with orbit := { x.orbit with
          restore := 2, restoreStep := natAt o.content 16 4, restored := some (readRestored o.content) } }))
      ∧ (loadShards i (readEpochs o.content) o 0 (readDirectory o.content) s = (false, x) → Runs .restoreLoaded s (fails x 4))))

/-! ## The host site (chapter 16) -/

/-- O52. Accesses to T1 from outside (R397, R549, R553 to R560, R564, R566, R584): the host, the two sites through the aperture and the peers
read and write the bytes they address where the firewall lets them; a line that no window grants is a violation, an aperture access out of
reach is event 0x5006, a write to a locked window is event 0x5005, and unbacked inbound accesses are unsupported.
Readings of the model's own: log 73. -/
def Obligations.OutsideAccessesReachT1 : Prop :=
  (∀ s : State, hostServed s = true → s.glb.state ≠ .hostLost → (∀ line, hdmCovers s line = true → let a := s.host.regionBase + 64 * line
    (firstBarred s.live 0 false a 64 = none → badLines s a 64 = [] → (∀ n ∈ linesOf a 64, lineFailed s.lpd n = false) →
      Runs (.cxlMemRead line) s (fun t => t = { s with out := .memData line (t1Bytes s.lpd a 64) false :: s.out }))
    ∧ (∀ x, firstBarred s.live 0 false a 64 = some x → Runs (.cxlMemRead line) s (fun t =>
      t.out.head? = some (.memData line (ones 64) true) ∧ t.host.violations = satAdd 32 s.host.violations 1
        ∧ t.host.fwlLast = w64 (x * 64 % 2 ^ 45) ∧ (0 ∉ s.host.violated → Logged 0x5001 (detail [(1, 0), (1, 0), (8, x * 64)]) s t)))
    ∧ (∀ (mask : W64) (data : Bytes), firstBarred s.live 0 true a 64 = none → Runs (.cxlMemWrite line mask data) s (fun t =>
      t = { s with lpd := t.lpd, out := .memDone line :: s.out }
        ∧ (Lpd.wf s.lpd = true → ∀ k, lineFailed s.lpd (k / 64) = false → t1Bytes t.lpd k 1 =
          if a ≤ k ∧ k < a + 64 ∧ mask.getLsbD (k - a) = true then [data.getD (k - a) 0] else t1Bytes s.lpd k 1)))
    ∧ (∀ (mask : W64) (data : Bytes) (x : Nat), firstBarred s.live 0 true a 64 = some x → Runs (.cxlMemWrite line mask data) s (fun t =>
      t.lpd = s.lpd ∧ t.host.violations = satAdd 32 s.host.violations 1 ∧ t.out.head? = some (.memDone line)))))
  ∧ (∀ (site : Site) (off : Nat) (s : State), siteServed site s = true → let a := apertureAt s off; let who := siteRequester site
    (∀ len, inBar2 off len = true →
      ((s.glb.state = .hostLost ∨ apertureBarred s a len = true) → Runs (.apertureRead site off len) s (fun t =>
        Logged 0x5006 (detail [(1, siteCode site), (8, off)]) s t ∧ t.out.head? = some (.apertureData site (ones len) false false)
          ∧ UpToRecords s t))
      ∧ (s.glb.state ≠ .hostLost → apertureBarred s a len = false →
        (∀ x, firstBarred s.live who false a len = some x → Runs (.apertureRead site off len) s (fun t =>
          t.out.head? = some (.apertureData site (ones len) false true) ∧ t.host.violations = satAdd 32 s.host.violations 1))
        ∧ (∀ x, firstBarred s.live who false a len = none → linesOf a len = [x] →
          (∀ y, (apertureBuf s site).find? (fun y => y.1 == x) = some y → Runs (.apertureRead site off len) s (fun t =>
            t = { s with out := .apertureData site ((y.2.1.drop (a % 64)).take len) y.2.2 false :: s.out }))
          ∧ ((apertureBuf s site).find? (fun y => y.1 == x) = none → s.env.badT1 = [] → lineFailed s.lpd x = false →
            Runs (.apertureRead site off len) s (fun t =>
              t = { s with host := t.host, freeCount := t.freeCount,
                           out := .apertureData site (((t1Bytes s.lpd (x * 64) 64).drop (a % 64)).take len) false false :: s.out })))))
    ∧ (∀ data : Bytes, inBar2 off data.length = true →
      ((s.glb.state = .hostLost ∨ inJob s = true ∨ apertureBarred s a data.length = true) → Runs (.apertureWrite site off data) s (fun t =>
        UpToRecords s t ∧ Logged 0x5006 (detail [(1, siteCode site), (8, off)]) s t))
      ∧ (s.glb.state ≠ .hostLost → inJob s = false → apertureBarred s a data.length = false →
        (firstRefused s who 0 a data.length = none → lockedTouched s 0 a data.length = [] → Runs (.apertureWrite site off data) s (fun t =>
          t.lpd = t1Store s.lpd a data none ∧ t = { s with lpd := t.lpd, host := t.host, out := t.out }
            ∧ ∀ x ∈ t.host.bufHost ++ t.host.bufPartner, x ∈ s.host.bufHost ++ s.host.bufPartner ∧ x.1 ∉ linesOf a data.length))
        ∧ (∀ x, firstRefused s who 0 a data.length = some x → Runs (.apertureWrite site off data) s (fun t =>
          t.lpd = s.lpd ∧ t.host.violations = satAdd 32 s.host.violations 1))))
    ∧ Runs (.apertureDrain site) s (fun t => apertureBuf t site = [] ∧ drainsOf t site = satAdd 32 (drainsOf s site) 1
        ∧ t = { s with host := t.host, out := .drained site (w64 (at_ 32 (drainsOf t site) + (apertureBuf s site).length)) :: s.out }))
  ∧ (∀ (port : Fin 2) (addr : Nat) (s : State), (rootPort s port).up = true →
    (∀ len, inboundUnsupported s addr len = true → Runs (.inboundRead port addr len) s (fun t =>
      t = { s with out := .unsupported port :: s.out }))
    ∧ (∀ data : Bytes, inboundUnsupported s addr data.length = true → Runs (.inboundWrite port addr data) s (fun t =>
      t = { s with out := .unsupported port :: s.out }))
    ∧ (∀ len, inboundUnsupported s addr len = false →
      (firstBarred s.live (3 + port) false addr len = none → badLines s addr len = [] →
        Runs (.inboundRead port addr len) s (fun t =>
          t = { s with out := .peerData port (t1Bytes s.lpd addr len) ((linesOf addr len).any (lineFailed s.lpd)) false :: s.out }))
      ∧ (∀ x, firstBarred s.live (3 + port) false addr len = some x → Runs (.inboundRead port addr len) s (fun t =>
          t.out.head? = some (.peerData port (ones len) false true) ∧ t.host.violations = satAdd 32 s.host.violations 1
            ∧ t.host.fwlLast = w64 (at_ 61 (3 + port) + x * 64 % 2 ^ 45))))
    ∧ (∀ data : Bytes, inboundUnsupported s addr data.length = false →
      (firstRefused s (3 + port) (port + 1) addr data.length = none →
        (lockedTouched s (port + 1) addr data.length = [] → Runs (.inboundWrite port addr data) s (fun t =>
          t = t1Write addr data none s ∧ t.lpd = t1Store s.lpd addr data none))
        ∧ (∀ n w, lockedTouched s (port + 1) addr data.length = [n] → SMap.find? s.host.locked n = some w → w.dropped = false →
          Runs (.inboundWrite port addr data) s (fun t => t.lpd = s.lpd ∧ Logged 0x5005 (leBytes 1 n) s t
            ∧ SMap.find? t.host.locked n = some { w with dropped := true })))
      ∧ (∀ x, firstRefused s (3 + port) (port + 1) addr data.length = some x → Runs (.inboundWrite port addr data) s (fun t =>
          t.lpd = s.lpd ∧ t.host.violations = satAdd 32 s.host.violations 1
            ∧ t.host.fwlLast = w64 (at_ 61 (3 + port) + at_ 60 1 + x * 64 % 2 ^ 45)))))
  ∧ (∀ (off : Nat) (data : Option Bytes) (reply : Bytes) (s : State), hostServed s = true → off < 2 ^ 30 →
    let port := off / 2 ^ 29
    let sent : List Out := if (rootPort s port).up then .peerAccess port (0x200000000000 + off % 2 ^ 29) data :: s.out else s.out
    (data ≠ none → Runs (.bar4Access off data reply) s (fun t => t = { s with out := sent }))
    ∧ (data = none → Runs (.bar4Access off data reply) s (fun t =>
      t = { s with out := .bar4Data (if (rootPort s port).up then reply else ones reply.length) :: sent })))
  ∧ (∀ (p : Port) (s : State), Reaches p .aptCfgData 0 s → (rootPort s (cfgPort s)).up = true →
    (∀ d : W32, Runs (.aptCfgDataRead p (some d)) s (fun t => t = { s with
        host := { s.host with cfgData := d, cfgFailed := false },
        out := .csr p cfgDataOffset (w64 d.toNat) :: .cfgAccess s.host.cfgAddr none :: s.out }))
    ∧ Runs (.aptCfgDataRead p none) s (fun t => t.host.cfgData = 0xFFFFFFFF ∧ t.host.cfgFailed = true)
    ∧ (∀ d : W32, Runs (.aptCfgDataWrite p (w64 d.toNat) true) s (fun t => t = { s with
        host := { s.host with cfgData := d, cfgFailed := false }, out := .cfgAccess s.host.cfgAddr (some d) :: s.out })))

/-- O53. The copy engines (R572 to R575) and the host link (R562, R587 to R590): a copy task moves its tiles from the one reached on, writes
its record and completes; a tile from the host that fails a check is fault 0x9000. The host link is lost and retrained, and HOST_LOST is
left by RECLAIM or SCRUB through RECOVERY.
Readings of the model's own: log 74, 75. -/
def Obligations.CopiesAndTheHostLink : Prop :=
  (∀ (u : Fin 8) (endAt : Nat) (s x : State) (i : Image) (t : RunTask), ceTask s u = some (i, t) → endAt < periodOf s.live →
    let j := (SMap.get s.host.ce u {}).next
    let n := copyCount t.task
    let ends (y : State) : Prop :=
      (t.task.le, t.task.idx) ∈ y.beam.done ∧ SMap.get y.host.ce u {} = {} ∧ (∀ k, k ≠ u.val → SMap.get y.host.ce k {} = SMap.get x.host.ce k {})
        ∧ y.tst = x.tst ∧ y.host.toHost = x.host.toHost ∧ y.host.fromHost = x.host.fromHost
        ∧ (copyRecords t.task = false → y.lpd = x.lpd ∧ y.host.records = x.host.records)
        ∧ (copyRecords t.task = true → y.host.records = satAdd 16 x.host.records 1
          ∧ y.lpd = t1Store (flushWriter x.lpd t.task.le) (x.host.regionBase + copyRecOff t.task) (recordBytes (advanceTo endAt x) i t) none)
    (copyOp t.task = 1 → copyTiles (toHostTile u i t) (n - j) j s = (true, x) → Runs (.toHost u endAt) s ends)
    ∧ (copyOp t.task = 2 → copyTiles (fromHostTile u i t) (n - j) j s = (true, x) → Runs (.fromHost u endAt) s ends)
    ∧ (∀ r, tileRef i t (copyAcc t.task) (copyFirst t.task + j) = some r →
      (∀ h b q, useTile ceCode t.task.le 0x5003 0x9001 r.entry r.tile r.budget s = (.good h b, q) → ∃ y, toHostTile u i t j s = (true, y)
        ∧ y.lpd = t1Store q.lpd (copyAt q t r.entry j) b (some t.task.le) ∧ y.host.toHost = satAdd 16 q.host.toHost 1
        ∧ (SMap.get y.host.ce u {}).next = (SMap.get q.host.ce u {}).next + 1)
      ∧ (∀ q, copyOp t.task = 1 → j < n → useTile ceCode t.task.le 0x5003 0x9001 r.entry r.tile r.budget s = (.held, q) →
        Runs (.toHost u endAt) s (fun y => (SMap.get y.host.ce u {}).held = some ⟨r.entry.id, r.tile⟩ ∧ y.lpd = q.lpd
          ∧ y.host.crcFail = satAdd 16 q.host.crcFail 1 ∧ y.beam = q.beam))
      ∧ (let m := t1Read ceCode (copyAt s t r.entry j) (buoyPitch r.entry) s
        (∀ c, copyOp t.task = 2 → j < n → fromHostCheck r.entry r.tile m.1 = some c → Runs (.fromHost u endAt) s (fun y =>
          Faulted 0x9000 (detail [(2, t.task.idx), (4, r.tile), (1, c)]) m.2 y))
        ∧ (∀ q, fromHostCheck r.entry r.tile m.1 = none →
          writeTile ceCode (some t.task.le) r.entry r.tile (stampTile (jobStep m.2) m.1.data) m.2 = (true, q) →
          ∃ y, fromHostTile u i t j s = (true, y) ∧ y.host.fromHost = satAdd 16 q.host.fromHost 1 ∧ y.lpd = q.lpd ∧ y.tst = q.tst))))
  ∧ (∀ (port : Fin 2) (cause : Nat) (s : State), (rootPort s port).up = true → Runs (.rootPortLinkDown port cause) s (fun t =>
      (rootPort t port).errors = satAdd 16 (rootPort s port).errors 1 ∧ (rootPort t port).up = true
        ∧ Logged 0x5007 (detail [(1, port), (1, if cause = 2 then 2 else 1)]) s t))
  ∧ (∀ (s : State) (c : Instr) (cause : Byte), (c, cause) = (.hostLinkTimeout, 1) ∨ (c, cause) = (.hostDieReset, 2) → s.host.hostUp = true →
    (mayLoseHost s = false → Runs c s (fun t => t = { s with host := { s.host with hostUp := false } }))
    ∧ (mayLoseHost s = true → Runs c s (fun t => t.host.hostUp = false ∧ t.host.lostCause = cause.toNat ∧ Logged 0x5000 [cause] s t
      ∧ (inJob s = false → t.glb.state = .hostLost ∧ t.glb.prev = s.glb.state ∧ t.lpd.selfRefresh = true ∧ t.host.bufHost = []
        ∧ t.host.bufPartner = [] ∧ t.host.port0.up = false ∧ t.host.port1.up = false ∧ t.img.live = s.img.live)
      ∧ (inJob s = true → t.glb.state = s.glb.state ∧ t.beam.stopped = true ∧ t.glb.hostLostAtHalt = some cause.toNat))))
  ∧ (∀ (micros : Nat) (s : State), hostTrains s = true → Runs (.hostLinkRetrain micros) s (fun t =>
      UpToRecords { s with host := { s.host with hostUp := true, retrains := satAdd 16 s.host.retrains 1 } } t
        ∧ Logged 0x1000 (leBytes 4 micros) s t))
  ∧ (∀ (p : Port) (s : State),
    (Reaches p .aptHostCmd 1 s →
      (s.glb.state ≠ .hostLost → Runs (.reclaim p) s (fun t => UpToRecords s t ∧ Logged 0x5008 [] s t))
      ∧ (s.glb.state = .hostLost → Runs (.reclaim p) s (fun t =>
        t.glb.state = .recovery ∧ t.glb.recovery = .reclaim ∧ t.lpd.selfRefresh = false ∧ t.host.scrubBusy = s.host.scrubBusy)))
    ∧ (Reaches p .aptHostCmd 2 s →
      (s.glb.state ≠ .hostLost → Runs (.scrub p) s (fun t => UpToRecords s t ∧ Logged 0x5008 [] s t))
      ∧ (s.glb.state = .hostLost → Runs (.scrub p) s (fun t =>
        t.glb.state = .recovery ∧ t.glb.recovery = .scrub ∧ t.lpd.selfRefresh = false ∧ t.host.scrubBusy = true))))
  ∧ (∀ s : State, s.glb.state = .recovery → (s.glb.recovery = .reclaim ∨ s.glb.recovery = .scrub) → Runs .recoveryComplete s (fun t =>
      t.glb.state = .ready ∧ t.glb.recovery = .none ∧ t.host.scrubBusy = false ∧ t.host.locked = []
        ∧ (∃ r, t.ev.ring.head? = some r ∧ r.code = 0x1001 ∧ r.detail = leBytes 1 (if s.glb.recovery = .reclaim then 1 else 2))
        ∧ (s.glb.recovery = .scrub → t.lpd.generation = 0
          ∧ (failingBanks (scrubMemories s) = [] → t.lpd.cells = [] ∧ t.lpd.wcb = [] ∧ ∀ k v, (k, v) ∈ t.tst → v.cells = []))))

/-! ## Keeper (chapter 17) -/

/-- O54. Transfers and firmware (R595, R602 to R605, Table 17.4): a port opens, reads, writes, closes and aborts its transfer, and any other
command is refused with event 0x5104; a slot is verified, made pending, switched to and tried.
Readings of the model's own: log 80. -/
def Obligations.TransfersAndFirmware : Prop :=
  (∀ (p : Port) (obj : Nat) (s : State), let o := obj % 256
    let refused (t : State) : Prop := UpToRecords s t ∧ Logged 0x5104 [] s t
    let may (write : Bool) : Bool := xferPort p s && s.kpr.xfer.owner == none && objectAllowed o write s.glb.state
      && (!s.kpr.romService || (o == 1 && write))
    (Reaches p .kprXferCtrl (at_ 8 o + 1) s →
      (may false = true → Runs (.openRead p obj) s (fun t =>
        t = { s with kpr := { s.kpr with xfer := { owner := some p, object := o, state := 1, data := objectData o s } },
                     freeCount := t.freeCount }))
      ∧ (may false = false → Runs (.openRead p obj) s refused))
    ∧ (Reaches p .kprXferCtrl (at_ 8 o + 2) s →
      (may true = true → Runs (.openWrite p obj) s (fun t =>
        t.kpr.xfer = { owner := some p, object := o, write := true, state := 1 }
          ∧ (o ≠ 1 → t = { s with kpr := t.kpr })
          ∧ (o = 1 → t = { s with kpr := t.kpr, nor := t.nor } ∧ slotBytes t.nor (!s.nor.active) = []
            ∧ slotBytes t.nor s.nor.active = slotBytes s.nor s.nor.active ∧ slotFlag t (!s.nor.active) = false
            ∧ slotFlag t s.nor.active = slotFlag s s.nor.active)))
      ∧ (may true = false → Runs (.openWrite p obj) s refused))
    ∧ (let x := s.kpr.xfer
      Reaches p .kprXferCtrl 3 s →
      let closes : Bool := xferPort p s && x.owner == some p && objectAllowed x.object x.write s.glb.state
      (closes = false → Runs (.close p) s refused)
      ∧ (closes = true →
        (x.object = 2 → Runs (.close p) s (fun t => t = { s with
          nor := { s.nor with unread := s.nor.unread - x.position / 64 }, kpr := { s.kpr with xfer := {} } }))
        ∧ (x.object ≠ 2 → (x.write = false ∨ x.object = 1) → Runs (.close p) s (fun t => t = { s with kpr := { s.kpr with xfer := {} } }))
        ∧ (x.object = 5 → x.write = true →
          (policyOk x.data = true → operatorSigned s x.data = true → Runs (.close p) s (fun t => Logged 0x1104 [] s t
            ∧ UpToRecords { s with nor := { s.nor with policy := some x.data }, kpr := { s.kpr with xfer := {} } } t))
          ∧ ((policyOk x.data = false ∨ operatorSigned s x.data = false) → Runs (.close p) s (fun t => Logged 0x5105 [] s t
            ∧ UpToRecords { s with kpr := { s.kpr with xfer := { state := 5 } } } t)))
        ∧ (x.object = 6 → x.write = true →
          (operatorSigned s x.data = true → Runs (.close p) s (fun t => ∀ place m, Config.authority x.data = some (place, m) → place ≤ 8 →
            Logged 0x1104 [] s t ∧ t.kpr.xfer = {}
              ∧ (∀ k, SMap.find? t.nor.authorities k = if k = place ∧ place < 8 then m else SMap.find? s.nor.authorities k)
              ∧ t.nor.operator = (if place = 8 then m else s.nor.operator)))
          ∧ (operatorSigned s x.data = false → serviceSigned s x.data = false → Runs (.close p) s (fun t => Logged 0x5105 [] s t
            ∧ UpToRecords { s with kpr := { s.kpr with xfer := { state := 5 } } } t)))))
    ∧ (Reaches p .kprXferCtrl 4 s →
      (xferPort p s = true → s.kpr.xfer.owner = some p → Runs (.xferAbort p) s (fun t => t = { s with kpr := { s.kpr with xfer := {} } }))
      ∧ (s.kpr.xfer.owner ≠ some p → Runs (.xferAbort p) s refused))
    ∧ (Reaches p .kprXferCtrl 5 s → xferPort p s = true → s.glb.state ≠ .lantern →
      (slotValid s (!s.nor.active) = true → s.kpr.romService = false → Runs (.verifyFw p) s (fun t =>
        t = { s with kpr := t.kpr } ∧ slotFlag t (!s.nor.active) = true ∧ slotFlag t s.nor.active = slotFlag s s.nor.active))
      ∧ (slotValid s (!s.nor.active) = true → s.kpr.romService = true → Runs (.verifyFw p) s (fun t =>
        t.glb = {} ∧ t.img = {} ∧ t.nor.active = s.nor.active))
      ∧ (slotValid s (!s.nor.active) = false → Runs (.verifyFw p) s (fun t =>
        Logged 0x5105 [] s t ∧ t.kpr.xfer.state = 5 ∧ slotFlag t (!s.nor.active) = false)))
    ∧ (Reaches p .kprXferCtrl 5 s → s.glb.state = .lantern → Runs (.verifyFw p) s refused)
    ∧ (Reaches p .kprXferCtrl 6 s →
      let ready : Bool := xferPort p s && s.glb.state != .lantern && !s.kpr.romService && slotFlag s (!s.nor.active)
      (ready = true → Runs (.activateFw p) s (fun t => t = { s with nor := { s.nor with pending := some (!s.nor.active) } }))
      ∧ (ready = false → Runs (.activateFw p) s refused)))
  ∧ (∀ s : State, s.kpr.xfer.owner ≠ none → s.kpr.xfer.state = 1 → Runs .xferPrepared s (fun t =>
      UpToRecords { s with kpr := { s.kpr with xfer := { s.kpr.xfer with state := 2 } } } t
        ∧ (s.kpr.xfer.object = 3 → Logged 0x1103 [] s t)))
  ∧ (∀ (p : Port) (s : State), let x := s.kpr.xfer; readServed p s = true →
    (x.owner = some p → x.position < xferLength x → Runs (.kprXferDataRead p) s (fun t => t = { s with
      kpr := { s.kpr with xfer := { x with position := x.position + 8 } },
      out := .csr p xferDataOffset (w64 (leNat (bytesAt x.data x.position 8))) :: s.out }))
    ∧ ((x.owner ≠ some p ∨ xferLength x ≤ x.position) → Runs (.kprXferDataRead p) s (fun t =>
      UpToRecords s t ∧ Logged 0x5106 [] s t ∧ t.out.head? = some (.csr p xferDataOffset 0))))
  ∧ (∀ (p : Port) (v : W64) (s : State), let x := s.kpr.xfer; Reaches p .kprXferData v.toNat s →
    (x.owner = some p → x.write = true → 2 ≤ x.state → x.undrained < 65536 → Runs (.kprXferDataWrite p v) s (fun t =>
      let y := t.kpr.xfer
      y.state = 3 ∧ y.position = (x.position + 8) % 2 ^ 32 ∧ y.undrained ≤ x.undrained + 8
        ∧ (x.object ≠ 1 → y.data = x.data ++ leBytes 8 v.toNat ∧ t.nor = s.nor)
        ∧ (x.object = 1 → slotBytes t.nor (!s.nor.active) = (slotBytes s.nor (!s.nor.active) ++ leBytes 8 v.toNat).take slotCapacity
          ∧ slotBytes t.nor s.nor.active = slotBytes s.nor s.nor.active)
        ∧ t = { s with kpr := { s.kpr with xfer := y }, nor := t.nor, freeCount := s.freeCount + 1 }))
    ∧ ((x.owner ≠ some p ∨ x.write = false ∨ x.state < 2) → Runs (.kprXferDataWrite p v) s (fun t =>
      (p = .host → Logged 0x5106 [] s t) ∧ (p = .mgmt → t.out = .nack :: s.out) ∧ t.nor.slotA = s.nor.slotA ∧ t.nor.slotB = s.nor.slotB)))
  ∧ (∀ (b : Bool) (s : State), s.nor.pending = some b → fenceState s.glb.state = true → s.kpr.romService = false → s.kpr.trial = false →
    Runs .firmwareSwitch s (fun t => t = { s with
      nor := { s.nor with pending := none },
      kpr := { s.kpr with restarts := satAdd 16 s.kpr.restarts 1, restartDue := false, xfer := {}, trial := true, trialSlot := b,
                          restarting := true } }))
  ∧ (∀ s : State, s.kpr.trial = true → let b := s.kpr.trialSlot
    Runs (.firmwareTrial true) s (fun t =>
      UpToRecords { s with nor := { s.nor with active := b },
                           env := { s.env with rollback := max s.env.rollback (natAt (slotBytes s.nor b) 0x0C 1) },
                           kpr := { s.kpr with trial := false, restarting := false } } t
        ∧ Logged 0x1100 (detail [(1, if b then 1 else 0), (4, natAt (slotBytes s.nor b) 8 4)]) s t)
    ∧ Runs (.firmwareTrial false) s (fun t => t.nor.active = s.nor.active ∧ t.glb = {} ∧ t.kpr.trial = false
      ∧ ∃ r ∈ t.nor.log, r.code = 0x5102 ∧ r.detail = []))

/-- O55. The CSR space and the I3C target (R5 to R8, R107, R598, R606, R607): a narrow or misaligned access has no effect but event 0x4000; a
write of a register that has a row is that row; an RWS register's shadow and an RW register take the fields that accept their values; the
target reads and writes through its offset, takes and drops its dynamic address, and answers the CCCs.
Readings of the model's own: log 76, 77. -/
def Obligations.PortsReachTheRegisters : Prop :=
  (∀ (p : Port) (off width : Nat) (v : W64) (s : State), readServed p s = true → romSilent p off s = false →
    (wholeAccess off width = false →
      Runs (.csrWrite p off width v) s (fun t => UpToRecords s t ∧ Logged 0x4000 [] s t)
      ∧ Runs (.narrowCsrRead p off width) s (fun t => UpToRecords s t ∧ Logged 0x4000 [] s t ∧ t.out.head? = some (.csr p off 0)))
    ∧ (wholeAccess off width = true → regAt off = none →
      Runs (.csrWrite p off width v) s (fun t => t = s)
      ∧ Runs (.narrowCsrRead p off width) s (fun t => t = { s with out := .csr p off 0 :: s.out }))
    ∧ (∀ r, wholeAccess off width = true → regAt off = some r →
      (∀ c, (rowOf p v r = some c ∨ (r, c) = (.evSel, .glbEventSel p v) ∨ (r, c) = (.lntRtcAdjust, .lntRtcAdjust p v)) → exec (.csrWrite p off width v) s = exec c s)
      ∧ (∀ x, Reaches p r v.toNat s → Rws.value s.shadow r = some x → let y := w64 (acceptFields r.spec.fields x.toNat v.toNat)
        (s.img.stage ≠ .checking → s.img.stage ≠ .armed → Runs (.csrWrite p off width v) s (fun t =>
          UpToRecords { s with shadow := t.shadow } t ∧ Rws.value t.shadow r = some y ∧ t.shadow = Rws.put r y s.shadow
            ∧ (writeRefused r.spec v.toNat = true → Logged 0x4001 [] s t)))
        ∧ ((s.img.stage = .checking ∨ s.img.stage = .armed) → Runs (.csrWrite p off width v) s (fun t =>
          UpToRecords s t ∧ LoggedWithin 3 0x4301 [] s t)))
      ∧ (∀ x, Reaches p r v.toNat s → plainValue s r = some x → Runs (.csrWrite p off width v) s (fun t =>
        plainValue t r = some (w64 (acceptFields r.spec.fields x.toNat v.toNat)) ∧ t.live = s.live ∧ t.shadow = s.shadow ∧ t.glb = s.glb
          ∧ t.img = s.img ∧ t.lpd = s.lpd ∧ t.num.census = s.num.census
          ∧ (writeRefused r.spec v.toNat = true → Logged 0x4001 [] s t)))
      ∧ (plainRead r = true → Runs (.narrowCsrRead p off width) s (fun t => t = { s with out := .csr p off (readReg r s) :: s.out }))))
  ∧ (∀ (off : Nat) (v : W64) (s : State), mgmtServed s = true → s.kpr.dynAddr ≠ none →
    let u : State := { s with kpr := { s.kpr with mgmtOffset := off % 2 ^ 32 } }
    Runs (.privateWrite off []) s (fun t => t = u)
    ∧ exec (.privateWrite off [v]) s = exec (.csrWrite .mgmt (off % 2 ^ 32) 8 v) u
    ∧ (∀ r, let o := s.kpr.mgmtOffset; romSilent .mgmt o s = false → o % 8 = 0 → regAt o = some r → plainRead r = true →
      Runs (.privateRead 1) s (fun t => t = { s with out := .i3c (leBytes 8 (readReg r s).toNat) :: s.out }))
    ∧ (s.kpr.romService = false → s.kpr.mgmtOffset % 8 ≠ 0 → Runs (.privateRead 1) s (fun t =>
      UpToRecords s t ∧ Logged 0x4000 [] s t ∧ t.out.head? = some (.i3c (List.replicate 8 0))))
    ∧ (∀ (c : Instr) (b : Bytes), (c, b) = (.getpid, bytesAt s.env.i3cId 0 6) ∨ (c, b) = (.getbcr, [s.env.bcr])
      ∨ (c, b) = (.getdcr, [s.env.dcr]) ∨ (c, b) = (.getmxds, bytesAt s.env.mxds 0 2) →
      Runs c s (fun t => t = { s with out := .i3c b :: s.out }))
    ∧ Runs .getstatus s (fun t => t = { s with freeCount := s.freeCount + 1, out := .i3c (Config.i3cStatus (s.freeCount + 1)) :: s.out }))
  ∧ (∀ (s : State), (mgmtServed s = false ∨ s.kpr.dynAddr = none) → ∀ c : Instr,
    (c = .getpid ∨ c = .getbcr ∨ c = .getdcr ∨ c = .getstatus ∨ c = .getmxds ∨ (∃ n, c = .privateRead n) ∨ ∃ o ws, c = .privateWrite o ws) →
    Runs c s (fun t => t = { s with out := .nack :: s.out }))
  ∧ (∀ (a : BitVec 7) (s : State),
    (mgmtPowered s = true → s.kpr.dynAddr = none → Runs (.entdaa a) s (fun t => t = { s with
      kpr := { s.kpr with dynAddr := some a }, out := .i3c (bytesAt s.env.i3cId 0 6 ++ [s.env.bcr, s.env.dcr]) :: s.out }))
    ∧ (s.kpr.dynAddr ≠ none → Runs (.entdaa a) s (fun t => t = s))
    ∧ (mgmtServed s = true → s.kpr.dynAddr = none → Runs (.setdasa a) s (fun t => t = { s with kpr := { s.kpr with dynAddr := some a } }))
    ∧ (mgmtPowered s = true → Runs .rstdaa s (fun t => t = { s with kpr := { s.kpr with dynAddr := none } })
      ∧ Runs .enec s (fun t => t = { s with kpr := { s.kpr with ibi := true } })
      ∧ Runs .disec s (fun t => t = { s with kpr := { s.kpr with ibi := false } })))

/-! ## Service, halts and telemetry (chapters 17, 18) -/

/-- O56. Service (R31, R585, R598, R600, R601, R620 to R623, R628): service commands act or are refused with event 0x5200; engine errors and
Keeper's failures are faults in a job; telemetry entries go to the host in order; periods, rates and shedding count on.
Readings of the model's own: log 17, 79, 84. -/
def Obligations.ServiceActs : Prop :=
  (∀ (p : Port) (arg : Nat) (s : State), let a := arg % 2 ^ 32
    let asked (n : Nat) : Prop := Reaches p .glbService (at_ 32 a + n) s
    let refused (n : Nat) (t : State) : Prop := UpToRecords s t ∧ Logged 0x5200 (leBytes 1 n) s t
    (Reaches p .glbService 1 s →
      ((s.glb.state = .off ∨ s.glb.state = .lantern ∨ s.glb.state = .recovery) → Runs (.enterRecovery p) s (refused 1))
      ∧ (inJob s = true → Runs (.enterRecovery p) s (fun t =>
        t.glb.recoveryAtHalt = true ∧ t.beam.stopped = true ∧ t.glb.state = s.glb.state ∧ Halting s t))
      ∧ ((s.glb.state = .ready ∨ s.glb.state = .halted ∨ s.glb.state = .hostLost) → Runs (.enterRecovery p) s (fun t =>
        t.glb.state = .recovery ∧ t.glb.recovery = .service ∧ t.glb.prev = s.glb.state)))
    ∧ (Reaches p .glbService 2 s →
      (s.glb.state = .recovery → s.glb.recovery = .service → Runs (.leaveRecovery p) s (fun t =>
        t.glb.state = .ready ∧ t.glb.recovery = .none ∧ t.host.locked = []))
      ∧ ((s.glb.state ≠ .recovery ∨ s.glb.recovery ≠ .service) → Runs (.leaveRecovery p) s (refused 2)))
    ∧ (∀ (n : Nat) (k : FenceKind) (c : Instr), (n, k, c) = (3, .engine, .fenceEngine p arg) ∨ (n, k, c) = (4, .full, .fenceFull p arg)
      ∨ (n, k, c) = (5, .lift, .unfence p arg) → asked n →
      (fenceAllowed arg s = false → Runs c s (refused n))
      ∧ (∀ d : Fin 8, d.val = arg → s.glb.state ≠ .off → s.glb.state ≠ .lantern →
        (fenceState s.glb.state = false → Runs c s (fun t => t = { s with
          nor := keepFence ⟨d, k⟩ s.nor, glb := { s.glb with heldFences := s.glb.heldFences ++ [⟨d, k⟩] } }))
        ∧ (fenceState s.glb.state = true → Runs c s (fun t => t.nor.engineFences = (keepFence ⟨d, k⟩ s.nor).engineFences
          ∧ t.nor.fullFences = (keepFence ⟨d, k⟩ s.nor).fullFences ∧ t.glb.heldFences = s.glb.heldFences
          ∧ (k = .engine → (t.glb.engineFenced ||| t.glb.fullFenced).getLsbD d = true ∧ t.glb.fullFenced = s.glb.fullFenced)
          ∧ (k = .full → t.glb.fullFenced.getLsbD d = true
            ∧ (s.glb.fullFenced.getLsbD d = false → ∀ u ∈ dieUnits s.lpd d, u ∈ t.lpd.failed))
          ∧ (k = .lift → s.glb.present.getLsbD d = true →
            t.glb.engineFenced.getLsbD d = false ∧ t.glb.fullFenced.getLsbD d = false)
          ∧ ((s.img.stage = .checking ∨ s.img.stage = .checked) →
            t.glb.engineFenced = s.glb.engineFenced ∧ t.glb.fullFenced = s.glb.fullFenced ∨ t.img.checked = none)))))
    ∧ (asked 6 →
      ((fenceState s.glb.state = false ∨ retiredPartOk a = false) → Runs (.clearRetired p arg) s (refused 6))
      ∧ (fenceState s.glb.state = true → retiredPartOk a = true → Runs (.clearRetired p arg) s (fun t => t = { s with nor := t.nor }
        ∧ (a / 2 ^ 24 = 0 → t.nor.retiredUnits = s.nor.retiredUnits.filter (· != a % 2 ^ 16))
        ∧ (a / 2 ^ 24 = 1 → t.nor.retiredBanks = s.nor.retiredBanks.filter (· != a % 2 ^ 16))
        ∧ (a / 2 ^ 24 = 2 → t.nor.retiredChannels = s.nor.retiredChannels.filter (· != a % 2 ^ 16))))))
  ∧ (∀ (engine : Nat) (s : State),
    let u : State := { s with nor := { s.nor with engineFaults := s.nor.engineFaults ++ [⟨engine, s.lnt.rtc⟩] } }
    ((fenceCount s = 0 ∨ recentFaults u engine < fenceCount s) → Runs (.engineError engine) s (fun t =>
      Faulted 0x9200 (leBytes 2 engine) u t))
    ∧ (∀ d : Fin 8, fenceCount s ≠ 0 → fenceCount s ≤ recentFaults u engine → engine / 256 = d.val → Runs (.engineError engine) s (fun t =>
      Logged 0x9200 (leBytes 2 engine) s t ∧ LoggedWithin 3 0x5202 (leBytes 2 engine) s t
        ∧ t.nor.engineFences.getLsbD d = true ∧ (inJob s = true → ⟨d, .engine⟩ ∈ t.glb.heldFences ∧ t.beam.stopped = true))))
  ∧ (∀ (s : State) (c : Instr) (code : Nat), (c, code) = (.watchdogExpiry, 0x9100) ∨ (c, code) = (.lockstepMismatch, 0x9101) →
    keeperRuns s = true →
    (inJob s = true → Runs c s (fun t => Faulted code [] { s with kpr := { s.kpr with restartDue := true } } t))
    ∧ (inJob s = false → Runs c s (fun t => Logged 0x5103 [] s t
      ∧ UpToRecords { s with kpr := { s.kpr with restarts := satAdd 16 s.kpr.restarts 1, restartDue := false, xfer := {} } } t)))
  ∧ (∀ (percent : Nat) (s : State), keeperRuns s = true → Runs (.shedEvaluation percent) s (fun t =>
      UpToRecords { s with kpr := { s.kpr with shed := t.kpr.shed, band := t.kpr.band, occupancy := min percent 100 } } t
        ∧ (90 < percent → t.kpr.shed = min (s.kpr.shed + 1) 4 ∧ t.kpr.band = 1 ∧ (s.kpr.shed = 0 → Logged 0x5101 [1] s t))
        ∧ (70 ≤ percent → percent ≤ 90 → t.kpr.shed = s.kpr.shed ∧ t.kpr.band = 0)
        ∧ (percent < 70 → t.kpr.band = 2 ∧ t.kpr.shed = (if s.kpr.band = 2 then s.kpr.shed - 1 else s.kpr.shed)
          ∧ (s.kpr.band = 2 → s.kpr.shed = 1 → Logged 0x1101 [] s t))))
  ∧ (∀ s : State, Runs .signallingPeriod s (fun t => t.host.violated = [] ∧ t = { s with host := t.host, ev := { s.ev with msix := t.ev.msix }, out := t.out }
      ∧ ∀ v < 5, let m := SMap.get s.ev.msix v {}
        (m.owed = true → s.host.hostUp = true → SMap.get t.ev.msix v {} = { sent := true, owed := false } ∧ Out.msix v ∈ t.out)
        ∧ (¬(m.owed = true ∧ s.host.hostUp = true) → SMap.get t.ev.msix v {} = { sent := false, owed := m.owed })))
  ∧ (∀ s : State, let u : State := { s with host := { s.host with lastSecond := s.host.thisSecond, thisSecond := 0 } }
    let above : Prop := s.host.alarmRate ≠ 0 ∧ s.host.alarmRate.toNat < s.host.thisSecond
    (¬above → Runs .firewallRate s (fun t => t = u)) ∧ (above → Runs .firewallRate s (fun t => Logged 0xD000 [] s t ∧ t.host = u.host)))
  ∧ (∀ s : State, s.ev.telemQueue ≠ [] →
    ((telemEnabled s = false ∨ s.kpr.shed ≠ 0) → Runs .telemetryWrite s (fun t => t = { s with ev := { s.ev with telemQueue := [] } }))
    ∧ (telemEnabled s = true → s.kpr.shed = 0 → let n := min (telemRoom s) s.ev.telemQueue.length
      Runs .telemetryWrite s (fun t => t.ev.writeSeq = s.ev.writeSeq + n ∧ t.ev.telemQueue = []
        ∧ (s.ev.telemQueue.length ≤ telemRoom s → t.ev.ring = s.ev.ring)
        ∧ (telemRoom s < s.ev.telemQueue.length → Logged 0x5201 (leBytes 4 s.ev.telemStep) s t)
        ∧ (Lpd.wf s.lpd = true → (∀ k, lineFailed s.lpd k = false) → let base := s.host.regionBase + telemBase s
          t1Bytes t.lpd base 8 = leBytes 8 (s.ev.writeSeq + n)
            ∧ (n ≤ telemCapacity s → ∀ k < n, ∀ b, s.ev.telemQueue[k]? = some b →
              t1Bytes t.lpd (base + 64 + 64 * ((s.ev.writeSeq + k) % telemCapacity s)) 64 = bytesAt b 0 64)))))

/-! ## Memories, words and the whole machine -/

/-- O57. Memories read back what was written. T1 (R390, R397, R399): a read finds the newest byte written, in a buffer or behind it, and every
other byte of units that work stays, also as buffers are written out; a read of a run is the reads of its bytes. T0 (R311, R329): a word
holds what was last written whole, and no other word changes.
Readings of the model's own: log 2. -/
def Obligations.MemoriesReadBack : Prop :=
  (∀ (l : Lpd) (a : Nat) (bs : Bytes) (w : Option Nat), Lpd.wf l = true →
    (∀ k, lineFailed l (k / 64) = false → t1Bytes (t1Store l a bs w) k 1 =
      if a ≤ k ∧ k < a + bs.length then [bs.getD (k - a) 0] else t1Bytes l k 1)
    ∧ ((∀ n ∈ linesOf a bs.length, lineFailed l n = true) → t1Store l a bs w = l)
    ∧ (∀ k, lineFailed l (k / 64) = false → t1Bytes (flushAll l) k 1 = t1Bytes l k 1
      ∧ (∀ p, t1Bytes (writeOutOldest l p) k 1 = t1Bytes l k 1) ∧ (∀ w, t1Bytes (flushWriter l w) k 1 = t1Bytes l k 1))
    ∧ (∀ n, (t1Bytes l a n).length = n ∧ ∀ k < n, [(t1Bytes l a n).getD k 0] = t1Bytes l (a + k) 1))
  ∧ (∀ (x : TileStore) (w : Nat) (b : Bytes), b.length = 64 →
    wordBytes (putWord x w b) w = b ∧ ∀ v, v ≠ w → wordBytes (putWord x w b) v = wordBytes x v)

/-- O58. Vector words (R245, R249, Tables 7.4 and 7.6): reading a word that was written gives every field back, writing a word that was read
gives the same word, and every vector command's word spells that command. -/
def Obligations.VectorWordsRoundTrip : Prop :=
  (∀ (op : BitVec 8) (w : VWord), wordOp (VWord.encode op w) = op ∧ VWord.decode (VWord.encode op w) = w)
  ∧ (∀ x : W64, VWord.encode (wordOp x) (VWord.decode x) = x)
  ∧ (∀ (body : BitVec 16) (count : BitVec 32) (u : Fin 16) (e : Nat),
    wordOp (loopWord body count) = 0x03 ∧ decodeVectorWord u e (loopWord body count) = some (.loopN u body count))
  ∧ (∀ (c : Instr) (u : Fin 16) (x : W64), encodeVectorWord c = some (u, x) → ∃ e, decodeVectorWord u e x = some c)
  ∧ (∀ (u : Fin 16) (e : Nat) (x : W64) (c : Instr), decodeVectorWord u e x = some c → wordOp x ≠ 0x01 → wordOp x ≠ 0x03 →
    encodeVectorWord c = some (u, x))

/-- O59. Every step keeps the event logs within their capacities (R618): 4 096 records in the ring, 229 376 in the serial NOR, of which no
more are unread than are kept; it takes the front command off the queue, and no command touches the rest of it. -/
def Obligations.StepsKeepTheLogs : Prop :=
  ∀ s t : State, step s = .next t → t.pending = s.pending.tail ∧ (LogsBounded s → LogsBounded t)

/-- O60. The machine after reset meets what the other statements assume of a state: bounded logs, T1 in canonical form, tables in order and
every vector engine's registers in canonical form.
Readings of the model's own: log 1. -/
def Obligations.ResetMeetsTheInvariants : Prop :=
  LogsBounded State.reset ∧ Lpd.wf State.reset.lpd = true ∧ (∀ u, Canonical (veUnit State.reset u).regs)
    ∧ SMap.sorted State.reset.ve = true ∧ SMap.sorted State.reset.me = true ∧ SMap.sorted State.reset.tst = true
    ∧ SMap.sorted State.reset.fab.links = true ∧ SMap.sorted State.reset.ple.table = true ∧ State.reset.pending = []
end

