-- ==== Sys2Proof/Laws/Events.lean ====
section
/-! SUPPORT. Records, halts and faults: what each changes, said once. -/
namespace Sys2Proof.Machine
open Claims

/-! ## A record -/

theorem upToRecords_refl (s : State) : UpToRecords s s := rfl

theorem upToRecords_trans {s t u : State} (h : UpToRecords s t) (k : UpToRecords t u) : UpToRecords s u := by
  unfold UpToRecords at *
  rw [k, h]
  rfl

theorem keepRecord_frame (r : EvRecord) (s : State) : UpToRecords s (keepRecord r s) := rfl

theorem logRecord_frame (r : EvRecord) (s : State) : UpToRecords s (logRecord r s) := by
  unfold logRecord
  split <;> rfl

theorem signal_frame (v : Nat) (s : State) : UpToRecords s (signal v s) := by
  unfold signal
  dsimp only
  split <;> rfl

theorem interrupt_frame (code : Nat) (s : State) : UpToRecords s (interrupt code s) := by
  unfold interrupt
  split
  · split <;> rfl
  · rfl

/-- Recording changes the event records, their log and what has left the module, and nothing else (R616 to R620). -/
theorem recordOne_frame (code : Nat) (d : Bytes) (s : State) : UpToRecords s (recordOne code d s) :=
  upToRecords_trans (upToRecords_trans (upToRecords_trans (keepRecord_frame _ _) (logRecord_frame _ _)) (signal_frame _ _))
    (interrupt_frame _ _)

/-- A record, and the overflow record that may follow it, change nothing else (R619). -/
theorem record_frame (code : Nat) (d : Bytes) (s : State) : UpToRecords s (record code d s) := by
  unfold record
  simp only
  split
  · exact upToRecords_trans (recordOne_frame code d s) (recordOne_frame _ _ _)
  · exact recordOne_frame code d s

theorem signal_ring (v : Nat) (s : State) : (signal v s).ev.ring = s.ev.ring := by
  unfold signal
  dsimp only
  split <;> rfl

theorem interrupt_ev (code : Nat) (s : State) : (interrupt code s).ev = s.ev := by
  unfold interrupt
  split
  · split <;> rfl
  · rfl

theorem logRecord_ring (r : EvRecord) (s : State) : (logRecord r s).ev.ring = s.ev.ring := by
  unfold logRecord
  split <;> rfl

theorem recordOne_ring (code : Nat) (d : Bytes) (s : State) :
    (recordOne code d s).ev.ring = (mkRecord code d s :: s.ev.ring).take 4096 := by
  unfold recordOne
  dsimp only
  rw [interrupt_ev, signal_ring, logRecord_ring]
  rfl

/-- The record is in the ring, with the sequence number and the tick count it was made at (R616, R617). -/
theorem record_logged (code : Nat) (d : Bytes) (s : State) : Logged code d s (record code d s) := by
  refine ⟨mkRecord code d s, ?_, rfl, rfl, rfl, rfl⟩
  unfold record
  simp only
  split
  · rw [recordOne_ring, recordOne_ring]
    simp
  · rw [recordOne_ring]
    simp

@[simp] theorem record_glb (code : Nat) (d : Bytes) (s : State) : (record code d s).glb = s.glb := by rw [record_frame code d s]; rfl
@[simp] theorem record_beam (code : Nat) (d : Bytes) (s : State) : (record code d s).beam = s.beam := by rw [record_frame code d s]; rfl
@[simp] theorem record_img (code : Nat) (d : Bytes) (s : State) : (record code d s).img = s.img := by rw [record_frame code d s]; rfl
@[simp] theorem record_live (code : Nat) (d : Bytes) (s : State) : (record code d s).live = s.live := by rw [record_frame code d s]; rfl
@[simp] theorem record_shadow (code : Nat) (d : Bytes) (s : State) : (record code d s).shadow = s.shadow := by rw [record_frame code d s]; rfl
@[simp] theorem record_num (code : Nat) (d : Bytes) (s : State) : (record code d s).num = s.num := by rw [record_frame code d s]; rfl
@[simp] theorem record_me (code : Nat) (d : Bytes) (s : State) : (record code d s).me = s.me := by rw [record_frame code d s]; rfl
@[simp] theorem record_ve (code : Nat) (d : Bytes) (s : State) : (record code d s).ve = s.ve := by rw [record_frame code d s]; rfl
@[simp] theorem record_ae (code : Nat) (d : Bytes) (s : State) : (record code d s).ae = s.ae := by rw [record_frame code d s]; rfl
@[simp] theorem record_gse (code : Nat) (d : Bytes) (s : State) : (record code d s).gse = s.gse := by rw [record_frame code d s]; rfl
@[simp] theorem record_lye (code : Nat) (d : Bytes) (s : State) : (record code d s).lye = s.lye := by rw [record_frame code d s]; rfl
@[simp] theorem record_tst (code : Nat) (d : Bytes) (s : State) : (record code d s).tst = s.tst := by rw [record_frame code d s]; rfl
@[simp] theorem record_ple (code : Nat) (d : Bytes) (s : State) : (record code d s).ple = s.ple := by rw [record_frame code d s]; rfl
@[simp] theorem record_lpd (code : Nat) (d : Bytes) (s : State) : (record code d s).lpd = s.lpd := by rw [record_frame code d s]; rfl
@[simp] theorem record_deep (code : Nat) (d : Bytes) (s : State) : (record code d s).deep = s.deep := by rw [record_frame code d s]; rfl
@[simp] theorem record_fab (code : Nat) (d : Bytes) (s : State) : (record code d s).fab = s.fab := by rw [record_frame code d s]; rfl
@[simp] theorem record_rdx (code : Nat) (d : Bytes) (s : State) : (record code d s).rdx = s.rdx := by rw [record_frame code d s]; rfl
@[simp] theorem record_orbit (code : Nat) (d : Bytes) (s : State) : (record code d s).orbit = s.orbit := by rw [record_frame code d s]; rfl
@[simp] theorem record_host (code : Nat) (d : Bytes) (s : State) : (record code d s).host = s.host := by rw [record_frame code d s]; rfl
@[simp] theorem record_kpr (code : Nat) (d : Bytes) (s : State) : (record code d s).kpr = s.kpr := by rw [record_frame code d s]; rfl
@[simp] theorem record_lnt (code : Nat) (d : Bytes) (s : State) : (record code d s).lnt = s.lnt := by rw [record_frame code d s]; rfl
@[simp] theorem record_env (code : Nat) (d : Bytes) (s : State) : (record code d s).env = s.env := by rw [record_frame code d s]; rfl
@[simp] theorem record_freeCount (code : Nat) (d : Bytes) (s : State) : (record code d s).freeCount = s.freeCount := by rw [record_frame code d s]; rfl
@[simp] theorem record_pending (code : Nat) (d : Bytes) (s : State) : (record code d s).pending = s.pending := by rw [record_frame code d s]; rfl

/-- A module state change is recorded, and nothing else changes (R34). -/
theorem setState_frame (n : ModState) (s : State) :
    UpToRecords { s with glb := { s.glb with prev := s.glb.state, state := n } } (setState n s) := record_frame _ _ _

@[simp] theorem setState_state (n : ModState) (s : State) : (setState n s).glb.state = n := by simp [setState]
@[simp] theorem setState_prev (n : ModState) (s : State) : (setState n s).glb.prev = s.glb.state := by simp [setState]

/-! ## Halts and faults -/

/-- A halt changes the halt, the halts seen and the links, and only in ARMED and RUNNING (R73, R467). -/
theorem raiseHalt_frame (s : State) :
    raiseHalt s = { s with
      beam := { s.beam with stopped := (raiseHalt s).beam.stopped, halt := (raiseHalt s).beam.halt },
      fab := { s.fab with haltSeen := (raiseHalt s).fab.haltSeen, links := (raiseHalt s).fab.links } } := by
  unfold raiseHalt
  split
  · dsimp only
    split <;> rfl
  · rfl

theorem raiseHalt_outside (s : State) (h : inJob s = false) : raiseHalt s = s := by
  simp [raiseHalt, h]

theorem raiseHalt_stopped (s : State) (h : inJob s = true) : (raiseHalt s).beam.stopped = true := by
  simp only [raiseHalt, h, if_true]
  split <;> rfl

theorem earliestHalt_le (old : Option PendingHalt) (new : PendingHalt) : (earliestHalt old new).tick ≤ new.tick := by
  unfold earliestHalt
  split
  · split <;> omega
  · exact Nat.le_refl _

theorem raiseHalt_tick (s : State) (h : inJob s = true) : ∃ p, (raiseHalt s).beam.halt = some p ∧ p.tick ≤ haltTickNow s := by
  refine ⟨earliestHalt s.beam.halt ⟨haltTickNow s, s.glb.moduleNumber.toNat⟩, ?_, earliestHalt_le _ _⟩
  simp only [raiseHalt, h, if_true]
  split <;> rfl

/-- A halt makes the module stop (R73). -/
theorem raiseHalt_halting (s : State) : Halting s (raiseHalt s) := fun h => ⟨raiseHalt_stopped s h, raiseHalt_tick s h⟩

@[simp] theorem raiseHalt_ev (s : State) : (raiseHalt s).ev = s.ev := by rw [raiseHalt_frame]
@[simp] theorem raiseHalt_nor (s : State) : (raiseHalt s).nor = s.nor := by rw [raiseHalt_frame]
@[simp] theorem raiseHalt_out (s : State) : (raiseHalt s).out = s.out := by rw [raiseHalt_frame]
@[simp] theorem raiseHalt_ownFault (s : State) : (raiseHalt s).beam.ownFault = s.beam.ownFault := by rw [raiseHalt_frame]

@[simp] theorem inJob_record (code : Nat) (d : Bytes) (s : State) : inJob (record code d s) = inJob s := by simp [inJob]

/-- A fault is its record, this member's first fault of the beam, and the halt (R12, R73, R624). -/
theorem raiseFault_faulted (code : Nat) (d : Bytes) (s : State) : Faulted code d s (raiseFault code d s) := by
  refine ⟨?_, ?_, ?_, ?_, ?_⟩
  · obtain ⟨r, hr, h⟩ := record_logged code d s
    exact ⟨r, by simpa [raiseFault] using hr, h⟩
  · unfold UpToHalt withHalt raiseFault
    have h := record_frame code d s
    unfold UpToRecords withRecords at h
    dsimp only
    rw [raiseHalt_frame, h]
    rfl
  · intro h
    have ht : ∀ o, haltTickNow { record code d s with beam := { (record code d s).beam with ownFault := o } } = haltTickNow s := by
      intro o
      rw [record_frame code d s]
      rfl
    obtain ⟨h1, p, h2, h3⟩ := raiseHalt_halting _ (show inJob { record code d s with beam := { (record code d s).beam with
      ownFault := if inJob s && (record code d s).beam.ownFault = 0 then code else (record code d s).beam.ownFault } } = true by
        simpa [inJob] using h)
    rw [ht] at h3
    exact ⟨h1, p, h2, h3⟩
  · intro h h0
    simp [raiseFault, h, h0]
  · intro h
    unfold raiseFault
    rw [raiseHalt_outside _ (by simpa [inJob] using h)]
    have hb : (if inJob s && (record code d s).beam.ownFault = 0 then code else (record code d s).beam.ownFault) =
        (record code d s).beam.ownFault := by simp [h]
    dsimp only
    rw [hb]
    exact record_frame code d s

end Sys2Proof.Machine
end

