-- ==== Sys2Proof/Laws/Maps.lean ====
section
/-! SUPPORT. Maps: what a key reads as after each operation, and that every operation keeps the canonical form. -/
namespace Sys2Proof

/-! ## Reads after writes -/

@[simp] theorem SMap.find?_nil {α : Type} (k : Nat) : SMap.find? ([] : SMap α) k = none := rfl

@[simp] theorem SMap.get_nil {α : Type} (k : Nat) (d : α) : SMap.get ([] : SMap α) k d = d := rfl

@[simp] theorem SMap.find?_insert_same {α : Type} (m : SMap α) (k : Nat) (v : α) : SMap.find? (SMap.insert m k v) k = some v := by
  induction m with
  | nil => simp [SMap.insert, SMap.find?]
  | cons e r ih =>
    obtain ⟨j, w⟩ := e
    simp only [SMap.insert]
    split
    · simp [SMap.find?]
    · split
      · simp [SMap.find?]
      · rename_i h1 h2
        simp only [SMap.find?, ih]
        rw [if_neg (fun h => h2 h.symm)]

@[simp] theorem SMap.find?_insert_other {α : Type} (m : SMap α) {k j : Nat} (v : α) (h : j ≠ k) :
    SMap.find? (SMap.insert m k v) j = SMap.find? m j := by
  induction m with
  | nil => simp [SMap.insert, SMap.find?, Ne.symm h]
  | cons e r ih =>
    obtain ⟨i, w⟩ := e
    simp only [SMap.insert]
    split
    · simp [SMap.find?, Ne.symm h]
    · split
      · rename_i h1 h2
        subst h2
        simp [SMap.find?, Ne.symm h]
      · simp only [SMap.find?, ih]

@[simp] theorem SMap.find?_erase_same {α : Type} (m : SMap α) (k : Nat) : SMap.find? (SMap.erase m k) k = none := by
  induction m with
  | nil => rfl
  | cons e r ih =>
    obtain ⟨i, w⟩ := e
    by_cases h : i = k
    · subst h
      simpa [SMap.erase] using ih
    · simp only [SMap.erase, List.filter_cons, bne_iff_ne, ne_eq, h, not_false_eq_true, if_true, SMap.find?, if_false]
      exact ih

@[simp] theorem SMap.find?_erase_other {α : Type} (m : SMap α) {k j : Nat} (h : j ≠ k) :
    SMap.find? (SMap.erase m k) j = SMap.find? m j := by
  induction m with
  | nil => rfl
  | cons e r ih =>
    obtain ⟨i, w⟩ := e
    by_cases hi : i = k
    · subst hi
      simp only [SMap.erase, List.filter_cons, bne_self_eq_false, Bool.false_eq_true, if_false, SMap.find?, Ne.symm h]
      exact ih
    · simp only [SMap.erase, List.filter_cons, bne_iff_ne, ne_eq, hi, not_false_eq_true, if_true, SMap.find?]
      split
      · rfl
      · exact ih

@[simp] theorem SMap.get_insert_same {α : Type} (m : SMap α) (k : Nat) (v d : α) : SMap.get (SMap.insert m k v) k d = v := by
  simp [SMap.get]

@[simp] theorem SMap.get_insert_other {α : Type} (m : SMap α) {k j : Nat} (v d : α) (h : j ≠ k) :
    SMap.get (SMap.insert m k v) j d = SMap.get m j d := by
  simp [SMap.get, h]

@[simp] theorem SMap.get_erase_same {α : Type} (m : SMap α) (k : Nat) (d : α) : SMap.get (SMap.erase m k) k d = d := by
  simp [SMap.get]

@[simp] theorem SMap.get_erase_other {α : Type} (m : SMap α) {k j : Nat} (d : α) (h : j ≠ k) :
    SMap.get (SMap.erase m k) j d = SMap.get m j d := by
  simp [SMap.get, h]

@[simp] theorem SMap.get_set_same {α : Type} [DecidableEq α] (m : SMap α) (k : Nat) (v d : α) : SMap.get (SMap.set m k v d) k d = v := by
  unfold SMap.set
  split
  · rename_i h
    simp [h]
  · simp

@[simp] theorem SMap.get_set_other {α : Type} [DecidableEq α] (m : SMap α) {k j : Nat} (v d : α) (h : j ≠ k) :
    SMap.get (SMap.set m k v d) j d = SMap.get m j d := by
  unfold SMap.set
  split <;> simp [h]

@[simp] theorem SMap.get_modify_same {α : Type} [DecidableEq α] (m : SMap α) (k : Nat) (d : α) (f : α → α) :
    SMap.get (SMap.modify m k d f) k d = f (SMap.get m k d) := by
  simp [SMap.modify]

@[simp] theorem SMap.get_modify_other {α : Type} [DecidableEq α] (m : SMap α) {k j : Nat} (d : α) (f : α → α) (h : j ≠ k) :
    SMap.get (SMap.modify m k d f) j d = SMap.get m j d := by
  simp [SMap.modify, h]

/-- A write to one key, read anywhere. -/
theorem SMap.get_set {α : Type} [DecidableEq α] (m : SMap α) (k j : Nat) (v d : α) :
    SMap.get (SMap.set m k v d) j d = if j = k then v else SMap.get m j d := by
  split
  · rename_i h
    subst h
    simp
  · rename_i h
    simp [h]

/-! ## The canonical form -/

theorem SMap.sortedFrom_mono {α : Type} {a b : Nat} {m : SMap α} (h : SMap.sortedFrom b m = true) (hab : a ≤ b) :
    SMap.sortedFrom a m = true := by
  cases m with
  | nil => rfl
  | cons e r =>
    obtain ⟨i, w⟩ := e
    simp only [SMap.sortedFrom, Bool.and_eq_true, decide_eq_true_eq] at h ⊢
    exact ⟨Nat.le_trans hab h.1, h.2⟩

theorem SMap.sortedFrom_filter {α : Type} (f : Nat × α → Bool) {a : Nat} {m : SMap α} (h : SMap.sortedFrom a m = true) :
    SMap.sortedFrom a (m.filter f) = true := by
  induction m generalizing a with
  | nil => rfl
  | cons e r ih =>
    obtain ⟨i, w⟩ := e
    simp only [SMap.sortedFrom, Bool.and_eq_true, decide_eq_true_eq] at h
    simp only [List.filter_cons]
    split
    · simp only [SMap.sortedFrom, Bool.and_eq_true, decide_eq_true_eq]
      exact ⟨h.1, ih h.2⟩
    · exact SMap.sortedFrom_mono (ih h.2) (by omega)

theorem SMap.sortedFrom_insert {α : Type} {a k : Nat} {m : SMap α} (v : α) (h : SMap.sortedFrom a m = true) (hk : a ≤ k) :
    SMap.sortedFrom a (SMap.insert m k v) = true := by
  induction m generalizing a with
  | nil => simp [SMap.insert, SMap.sortedFrom, hk]
  | cons e r ih =>
    obtain ⟨i, w⟩ := e
    simp only [SMap.sortedFrom, Bool.and_eq_true, decide_eq_true_eq] at h
    simp only [SMap.insert]
    split
    · simp only [SMap.sortedFrom, Bool.and_eq_true, decide_eq_true_eq]
      exact ⟨hk, by omega, h.2⟩
    · split
      · rename_i h1 h2
        subst h2
        simp only [SMap.sortedFrom, Bool.and_eq_true, decide_eq_true_eq]
        exact ⟨hk, h.2⟩
      · simp only [SMap.sortedFrom, Bool.and_eq_true, decide_eq_true_eq]
        exact ⟨h.1, ih h.2 (by omega)⟩

theorem SMap.sorted_insert {α : Type} {m : SMap α} (k : Nat) (v : α) (h : SMap.sorted m = true) : SMap.sorted (SMap.insert m k v) = true :=
  SMap.sortedFrom_insert v h (Nat.zero_le k)

theorem SMap.sorted_filter {α : Type} {m : SMap α} (f : Nat × α → Bool) (h : SMap.sorted m = true) : SMap.sorted (m.filter f) = true :=
  SMap.sortedFrom_filter f h

theorem SMap.sorted_erase {α : Type} {m : SMap α} (k : Nat) (h : SMap.sorted m = true) : SMap.sorted (SMap.erase m k) = true :=
  SMap.sorted_filter _ h

theorem SMap.sorted_set {α : Type} [DecidableEq α] {m : SMap α} (k : Nat) (v d : α) (h : SMap.sorted m = true) :
    SMap.sorted (SMap.set m k v d) = true := by
  unfold SMap.set
  split
  · exact SMap.sorted_erase k h
  · exact SMap.sorted_insert k v h

theorem SMap.sorted_modify {α : Type} [DecidableEq α] {m : SMap α} (k : Nat) (d : α) (f : α → α) (h : SMap.sorted m = true) :
    SMap.sorted (SMap.modify m k d f) = true := SMap.sorted_set k _ d h

theorem SMap.mem_insert {α : Type} {m : SMap α} {k : Nat} {v : α} {e : Nat × α} (h : e ∈ SMap.insert m k v) : e = (k, v) ∨ e ∈ m := by
  induction m with
  | nil => simpa [SMap.insert] using h
  | cons x r ih =>
    obtain ⟨i, w⟩ := x
    simp only [SMap.insert] at h
    split at h
    · simpa using h
    · split at h
      · rename_i h1 h2
        rcases List.mem_cons.1 h with h | h
        · exact .inl h
        · exact .inr (List.mem_cons_of_mem _ h)
      · rcases List.mem_cons.1 h with h | h
        · exact .inr (h ▸ List.mem_cons_self ..)
        · rcases ih h with h | h
          · exact .inl h
          · exact .inr (List.mem_cons_of_mem _ h)

theorem SMap.wf_iff {α : Type} [DecidableEq α] {m : SMap α} {d : α} :
    SMap.wf m d = true ↔ SMap.sorted m = true ∧ ∀ e ∈ m, e.2 ≠ d := by
  simp [SMap.wf, SMap.sorted]

theorem SMap.wf_set {α : Type} [DecidableEq α] {m : SMap α} {d : α} (k : Nat) (v : α) (h : SMap.wf m d = true) :
    SMap.wf (SMap.set m k v d) d = true := by
  rw [SMap.wf_iff] at h ⊢
  refine ⟨SMap.sorted_set k v d h.1, fun e he => ?_⟩
  unfold SMap.set at he
  split at he
  · exact h.2 e (List.mem_filter.1 he).1
  · rename_i hv
    rcases SMap.mem_insert he with he | he
    · subst he
      exact hv
    · exact h.2 e he

theorem SMap.wf_modify {α : Type} [DecidableEq α] {m : SMap α} {d : α} (k : Nat) (f : α → α) (h : SMap.wf m d = true) :
    SMap.wf (SMap.modify m k d f) d = true := SMap.wf_set k _ h

theorem SMap.sortedFrom_append {α : Type} {a b : Nat} {m n : SMap α} (hm : SMap.sortedFrom a m = true) (hn : SMap.sortedFrom b n = true)
    (hb : ∀ e ∈ m, e.1 < b) (hab : a ≤ b) : SMap.sortedFrom a (m ++ n) = true := by
  induction m generalizing a with
  | nil => exact SMap.sortedFrom_mono hn hab
  | cons e r ih =>
    obtain ⟨i, w⟩ := e
    simp only [SMap.sortedFrom, Bool.and_eq_true, decide_eq_true_eq] at hm
    have hi := hb (i, w) (List.mem_cons_self ..)
    simp only [List.cons_append, SMap.sortedFrom, Bool.and_eq_true, decide_eq_true_eq]
    exact ⟨hm.1, ih hm.2 (fun e he => hb e (List.mem_cons_of_mem _ he)) hi⟩

theorem SMap.sortedFrom_of_ge {α : Type} {a b : Nat} {m : SMap α} (h : SMap.sortedFrom a m = true) (hb : ∀ e ∈ m, b ≤ e.1) :
    SMap.sortedFrom b m = true := by
  cases m with
  | nil => rfl
  | cons e r =>
    obtain ⟨i, w⟩ := e
    simp only [SMap.sortedFrom, Bool.and_eq_true, decide_eq_true_eq] at h ⊢
    exact ⟨hb (i, w) (List.mem_cons_self ..), h.2⟩

theorem SMap.keyed_sorted {α : Type} (a : Nat) (vs : List α) : SMap.sortedFrom a (SMap.keyed a vs) = true := by
  induction vs generalizing a with
  | nil => rfl
  | cons v r ih => simp [SMap.keyed, SMap.sortedFrom, ih]

theorem SMap.mem_keyed {α : Type} {a : Nat} {vs : List α} {e : Nat × α} (h : e ∈ SMap.keyed a vs) : a ≤ e.1 ∧ e.1 < a + vs.length := by
  induction vs generalizing a with
  | nil => simp [SMap.keyed] at h
  | cons v r ih =>
    rcases List.mem_cons.1 h with h | h
    · subst h
      simp
    · have := ih h
      simp only [List.length_cons]
      omega

/-- A run of keys written between what lies below and what lies above keeps the order. -/
theorem SMap.sorted_splice {α : Type} {m : SMap α} (a n : Nat) (mid : SMap α) (h : SMap.sorted m = true)
    (hmid : SMap.sortedFrom a mid = true) (hlt : ∀ e ∈ mid, e.1 < a + n) :
    SMap.sorted (m.filter (fun e => e.1 < a) ++ mid ++ m.filter (fun e => a + n ≤ e.1)) = true := by
  have hhi : SMap.sortedFrom (a + n) (m.filter (fun e => decide (a + n ≤ e.1))) = true :=
    SMap.sortedFrom_of_ge (SMap.sortedFrom_filter _ h) (fun e he => by simpa using (List.mem_filter.1 he).2)
  rw [List.append_assoc]
  refine SMap.sortedFrom_append (SMap.sortedFrom_filter _ h)
    (SMap.sortedFrom_append hmid hhi hlt (by omega)) (fun e he => by simpa using (List.mem_filter.1 he).2) (by omega)

theorem SMap.sorted_writeAll {α : Type} {m : SMap α} (a : Nat) (vs : List α) (h : SMap.sorted m = true) :
    SMap.sorted (SMap.writeAll m a vs) = true :=
  SMap.sorted_splice a vs.length _ h (SMap.keyed_sorted a vs) (fun _ he => (SMap.mem_keyed he).2)

theorem SMap.wf_write {α : Type} [DecidableEq α] {m : SMap α} {d : α} (a : Nat) (vs : List α) (h : SMap.wf m d = true) :
    SMap.wf (SMap.write m a vs d) d = true := by
  rw [SMap.wf_iff] at h ⊢
  refine ⟨SMap.sorted_splice a vs.length _ h.1 (SMap.sortedFrom_filter _ (SMap.keyed_sorted a vs))
    (fun e he => (SMap.mem_keyed (List.mem_filter.1 he).1).2), fun e he => ?_⟩
  simp only [SMap.write, List.mem_append, List.mem_filter] at he
  rcases he with (he | he) | he
  · exact h.2 e he.1
  · simpa using he.2
  · exact h.2 e he.1

theorem SMap.sorted_clear {α : Type} {m : SMap α} (a n : Nat) (h : SMap.sorted m = true) : SMap.sorted (SMap.clear m a n) = true :=
  SMap.sorted_filter _ h

theorem SMap.sortedFrom_shift {α : Type} {a : Nat} {m : SMap α} (d : Nat) (h : SMap.sortedFrom a m = true) :
    SMap.sortedFrom (a + d) (SMap.shift m d) = true := by
  induction m generalizing a with
  | nil => rfl
  | cons e r ih =>
    obtain ⟨i, w⟩ := e
    simp only [SMap.sortedFrom, Bool.and_eq_true, decide_eq_true_eq] at h
    have hr := ih h.2
    simp only [SMap.shift, List.map_cons, SMap.sortedFrom, Bool.and_eq_true, decide_eq_true_eq]
    exact ⟨by omega, by simpa [SMap.shift, Nat.add_right_comm] using hr⟩

theorem SMap.sortedFrom_mergeFuel {α : Type} (n : Nat) {lo : Nat} {a b : SMap α} (ha : SMap.sortedFrom lo a = true)
    (hb : SMap.sortedFrom lo b = true) : SMap.sortedFrom lo (SMap.mergeFuel n a b) = true := by
  induction n generalizing lo a b with
  | zero => rfl
  | succ n ih =>
    match a, b with
    | [], b => simpa [SMap.mergeFuel] using hb
    | e :: r, [] => simpa [SMap.mergeFuel] using ha
    | (j, v) :: r, (k, w) :: q =>
      simp only [SMap.sortedFrom, Bool.and_eq_true, decide_eq_true_eq] at ha hb
      simp only [SMap.mergeFuel]
      split
      · simp only [SMap.sortedFrom, Bool.and_eq_true, decide_eq_true_eq]
        exact ⟨ha.1, ih ha.2 (by simp only [SMap.sortedFrom, Bool.and_eq_true, decide_eq_true_eq]; exact ⟨by omega, hb.2⟩)⟩
      · split
        · rename_i h1 h2
          subst h2
          simp only [SMap.sortedFrom, Bool.and_eq_true, decide_eq_true_eq]
          exact ⟨ha.1, ih ha.2 hb.2⟩
        · simp only [SMap.sortedFrom, Bool.and_eq_true, decide_eq_true_eq]
          exact ⟨hb.1, ih (by simp only [SMap.sortedFrom, Bool.and_eq_true, decide_eq_true_eq]; exact ⟨by omega, ha.2⟩) hb.2⟩

theorem SMap.sorted_over {α : Type} {a b : SMap α} (ha : SMap.sorted a = true) (hb : SMap.sorted b = true) :
    SMap.sorted (SMap.overlay a b) = true := SMap.sortedFrom_mergeFuel _ ha hb

theorem SMap.sortedFrom_mapAll {α : Type} [DecidableEq α] {lo : Nat} {m : SMap α} (d : α) (f : α → α) (h : SMap.sortedFrom lo m = true) :
    SMap.sortedFrom lo (SMap.mapAll m d f) = true := by
  induction m generalizing lo with
  | nil => rfl
  | cons e r ih =>
    obtain ⟨i, w⟩ := e
    simp only [SMap.sortedFrom, Bool.and_eq_true, decide_eq_true_eq] at h
    have hr := ih h.2
    simp only [SMap.mapAll, List.filterMap_cons]
    split
    · exact SMap.sortedFrom_mono hr (by omega)
    · rename_i x hx
      split at hx
      · simp at hx
      · simp only [Option.some.injEq] at hx
        subst hx
        simp only [SMap.sortedFrom, Bool.and_eq_true, decide_eq_true_eq]
        exact ⟨h.1, hr⟩

theorem SMap.sorted_mapAll {α : Type} [DecidableEq α] {m : SMap α} (d : α) (f : α → α) (h : SMap.sorted m = true) :
    SMap.sorted (SMap.mapAll m d f) = true := SMap.sortedFrom_mapAll d f h

end Sys2Proof
end

