-- ==== Sys2Proof/Laws/Memory.lean ====
section
/-! SUPPORT. T1: every memory operation keeps the canonical form, and what each leaves as it was. -/
namespace Sys2Proof.Machine

/-! ## What the operations leave -/

theorem writeOut_frame (l : Lpd) (e : WcbEntry) :
    writeOut l e = { l with cells := (writeOut l e).cells, mergeReads := (writeOut l e).mergeReads } := rfl

@[simp] theorem writeOut_units (l : Lpd) (e : WcbEntry) : (writeOut l e).units = l.units := rfl
@[simp] theorem writeOut_failed (l : Lpd) (e : WcbEntry) : (writeOut l e).failed = l.failed := rfl
@[simp] theorem writeOut_wcb (l : Lpd) (e : WcbEntry) : (writeOut l e).wcb = l.wcb := rfl
@[simp] theorem writeOut_generation (l : Lpd) (e : WcbEntry) : (writeOut l e).generation = l.generation := rfl
@[simp] theorem setWcb_units (l : Lpd) (p : Nat) (es : List WcbEntry) : (setWcb l p es).units = l.units := rfl
@[simp] theorem setWcb_failed (l : Lpd) (p : Nat) (es : List WcbEntry) : (setWcb l p es).failed = l.failed := rfl
@[simp] theorem setWcb_cells (l : Lpd) (p : Nat) (es : List WcbEntry) : (setWcb l p es).cells = l.cells := rfl
@[simp] theorem setWcb_generation (l : Lpd) (p : Nat) (es : List WcbEntry) : (setWcb l p es).generation = l.generation := rfl
@[simp] theorem wcbOf_setWcb_same (l : Lpd) (p : Nat) (es : List WcbEntry) : wcbOf (setWcb l p es) p = es := by
  simp [wcbOf, setWcb]
@[simp] theorem wcbOf_setWcb_other (l : Lpd) {p q : Nat} (es : List WcbEntry) (h : q ≠ p) : wcbOf (setWcb l p es) q = wcbOf l q := by
  simp [wcbOf, setWcb, h]

theorem writeOutOldest_units (l : Lpd) (p : Nat) : (writeOutOldest l p).units = l.units := by
  unfold writeOutOldest
  split <;> rfl

/-! ## The canonical form -/

theorem packageAt_congr {l m : Lpd} (h : m.units = l.units) (a : Nat) : packageAt m a = packageAt l a := by
  simp [packageAt, unitAt, h]

theorem wcbWf_congr {l m : Lpd} (h : m.units = l.units) (p : Nat) (es : List WcbEntry) : wcbWf m p es = wcbWf l p es := by
  induction es with
  | nil => rfl
  | cons e r ih => simp only [wcbWf, packageAt_congr h, ih]

/-- One entry of a buffer in canonical form. -/
theorem wcbWf_cons {l : Lpd} {p : Nat} {e : WcbEntry} {es : List WcbEntry} :
    wcbWf l p (e :: es) = true ↔ packageAt l (e.line * 64) = p ∧ SMap.sorted e.bytes = true ∧ (∀ b ∈ e.bytes, b.1 < 64)
      ∧ (∀ x ∈ es, x.line ≠ e.line) ∧ wcbWf l p es = true := by
  simp [wcbWf, and_assoc]

theorem wcbWf_filter {l : Lpd} {p : Nat} {es : List WcbEntry} (f : WcbEntry → Bool) (h : wcbWf l p es = true) :
    wcbWf l p (es.filter f) = true := by
  induction es with
  | nil => rfl
  | cons e r ih =>
    rw [wcbWf_cons] at h
    simp only [List.filter_cons]
    split
    · rw [wcbWf_cons]
      exact ⟨h.1, h.2.1, h.2.2.1, fun x hx => h.2.2.2.1 x (List.mem_filter.1 hx).1, ih h.2.2.2.2⟩
    · exact ih h.2.2.2.2

/-- What the canonical form says, part by part. -/
theorem Lpd.wf_iff {l : Lpd} : Lpd.wf l = true ↔ SMap.sorted l.cells = true ∧ (l.generation = 0 → ∀ e ∈ l.cells, e.2 ≠ 0)
    ∧ SMap.wf l.wcb [] = true ∧ ∀ c ∈ l.wcb, wcbWf l c.1 c.2 = true := by
  have hg : (l.generation != 0 || l.cells.all (fun e => e.2 != 0)) = true ↔ (l.generation = 0 → ∀ e ∈ l.cells, e.2 ≠ 0) := by
    simp only [Bool.or_eq_true, bne_iff_ne, ne_eq, List.all_eq_true]
    exact ⟨fun h hz => h.resolve_left (fun hn => hn hz), fun h => (Decidable.em (l.generation = 0)).elim (fun hz => .inr (h hz)) .inl⟩
  simp only [Lpd.wf, Bool.and_eq_true, hg, List.all_eq_true, and_assoc]

theorem find?_mem {α : Type} {m : SMap α} {k : Nat} {v : α} (h : SMap.find? m k = some v) : (k, v) ∈ m := by
  induction m with
  | nil => simp at h
  | cons e r ih =>
    obtain ⟨j, w⟩ := e
    simp only [SMap.find?] at h
    split at h
    · rename_i hj
      simp only [Option.some.injEq] at h
      subst hj h
      exact List.mem_cons_self ..
    · exact List.mem_cons_of_mem _ (ih h)

theorem wcbOf_wf {l : Lpd} (h : Lpd.wf l = true) (p : Nat) : wcbWf l p (wcbOf l p) = true := by
  unfold wcbOf SMap.get
  cases hf : SMap.find? l.wcb p with
  | none => rfl
  | some es => exact (Lpd.wf_iff.1 h).2.2.2 (p, es) (find?_mem hf)

theorem canonCells_sorted {l : Lpd} {m : SMap Byte} (h : SMap.sorted m = true) : SMap.sorted (canonCells l m) = true := by
  unfold canonCells
  split
  · exact SMap.sorted_filter _ h
  · exact h

theorem canonCells_nonzero {l : Lpd} {m : SMap Byte} (hz : l.generation = 0) : ∀ e ∈ canonCells l m, e.2 ≠ 0 := by
  intro e he
  simp only [canonCells, hz, if_true, List.mem_filter, bne_iff_ne] at he
  exact he.2

theorem setWcb_wf {l : Lpd} {p : Nat} {es : List WcbEntry} (h : Lpd.wf l = true) (hes : wcbWf l p es = true) :
    Lpd.wf (setWcb l p es) = true := by
  rw [Lpd.wf_iff] at h ⊢
  refine ⟨h.1, h.2.1, SMap.wf_set p es h.2.2.1, fun c hc => ?_⟩
  rw [wcbWf_congr (setWcb_units l p es)]
  simp only [setWcb, SMap.set] at hc
  split at hc
  · exact h.2.2.2 c (List.mem_filter.1 hc).1
  · rcases SMap.mem_insert hc with hc | hc
    · subst hc
      exact hes
    · exact h.2.2.2 c hc

theorem writeOut_wf {l : Lpd} {e : WcbEntry} (h : Lpd.wf l = true) (he : SMap.sorted e.bytes = true) : Lpd.wf (writeOut l e) = true := by
  rw [Lpd.wf_iff] at h ⊢
  refine ⟨?_, fun hz => ?_, h.2.2.1, fun c hc => (wcbWf_congr (writeOut_units l e) c.1 c.2).trans (h.2.2.2 c hc)⟩
  · simp only [writeOut]
    split
    · exact h.1
    · exact canonCells_sorted (SMap.sorted_over
        (SMap.sortedFrom_mono (SMap.sortedFrom_shift _ he) (Nat.zero_le _)) h.1)
  · simp only [writeOut]
    split
    · exact h.2.1 hz
    · exact canonCells_nonzero hz

theorem writeOutOldest_wf {l : Lpd} (p : Nat) (h : Lpd.wf l = true) : Lpd.wf (writeOutOldest l p) = true := by
  unfold writeOutOldest
  have hw := wcbOf_wf h p
  split
  · exact h
  · rename_i e es heq
    rw [heq, wcbWf_cons] at hw
    exact writeOut_wf (setWcb_wf h hw.2.2.2.2) hw.2.1

theorem foldl_writeOut_wf {l : Lpd} (es : List WcbEntry) (h : Lpd.wf l = true) (hes : ∀ e ∈ es, SMap.sorted e.bytes = true) :
    Lpd.wf (es.foldl writeOut l) = true := by
  induction es generalizing l with
  | nil => exact h
  | cons e r ih =>
    exact ih (writeOut_wf h (hes e (List.mem_cons_self ..))) (fun x hx => hes x (List.mem_cons_of_mem _ hx))

theorem wcbWf_sorted {l : Lpd} {p : Nat} {es : List WcbEntry} (h : wcbWf l p es = true) : ∀ e ∈ es, SMap.sorted e.bytes = true := by
  induction es with
  | nil => simp
  | cons e r ih =>
    rw [wcbWf_cons] at h
    intro x hx
    rcases List.mem_cons.1 hx with hx | hx
    · exact hx ▸ h.2.1
    · exact ih h.2.2.2.2 x hx

theorem writeOutWhere_wf {l : Lpd} (p : Nat) (f : WcbEntry → Bool) (h : Lpd.wf l = true) : Lpd.wf (writeOutWhere l p f) = true :=
  foldl_writeOut_wf _ (setWcb_wf h (wcbWf_filter _ (wcbOf_wf h p)))
    (fun e he => wcbWf_sorted (wcbOf_wf h p) e (List.mem_filter.1 he).1)

theorem foldl_writeOutWhere_wf {l : Lpd} (ps : List Nat) (f : WcbEntry → Bool) (h : Lpd.wf l = true) :
    Lpd.wf (ps.foldl (fun l p => writeOutWhere l p f) l) = true := by
  induction ps generalizing l with
  | nil => exact h
  | cons p r ih => exact ih (writeOutWhere_wf p f h)

theorem flushAll_wf {l : Lpd} (h : Lpd.wf l = true) : Lpd.wf (flushAll l) = true := foldl_writeOutWhere_wf _ _ h

/-- A counter is no part of the canonical form. -/
theorem wf_recordFlushes {l : Lpd} (n : Nat) (h : Lpd.wf l = true) : Lpd.wf { l with recordFlushes := n } = true := by
  rw [Lpd.wf_iff] at h ⊢
  exact ⟨h.1, h.2.1, h.2.2.1, fun c hc => (wcbWf_congr (l := l) (m := { l with recordFlushes := n }) rfl c.1 c.2).trans (h.2.2.2 c hc)⟩

theorem flushWriter_wf {l : Lpd} (w : Nat) (h : Lpd.wf l = true) : Lpd.wf (flushWriter l w) = true := by
  unfold flushWriter
  exact wf_recordFlushes _ (foldl_writeOutWhere_wf _ _ h)

theorem wcbWf_map {l : Lpd} {p : Nat} {es : List WcbEntry} (f : WcbEntry → WcbEntry) (hl : ∀ e ∈ es, (f e).line = e.line)
    (hs : ∀ e ∈ es, SMap.sorted e.bytes = true → SMap.sorted (f e).bytes = true)
    (hb : ∀ e ∈ es, (∀ b ∈ e.bytes, b.1 < 64) → ∀ b ∈ (f e).bytes, b.1 < 64) (h : wcbWf l p es = true) : wcbWf l p (es.map f) = true := by
  induction es with
  | nil => rfl
  | cons e r ih =>
    rw [wcbWf_cons] at h
    have he := List.mem_cons_self (a := e) (l := r)
    rw [List.map_cons, wcbWf_cons, hl e he]
    refine ⟨h.1, hs e he h.2.1, hb e he h.2.2.1, ?_,
      ih (fun x hx => hl x (List.mem_cons_of_mem _ hx)) (fun x hx => hs x (List.mem_cons_of_mem _ hx))
        (fun x hx => hb x (List.mem_cons_of_mem _ hx)) h.2.2.2.2⟩
    intro x hx
    obtain ⟨y, hy, rfl⟩ := List.mem_map.1 hx
    rw [hl y (List.mem_cons_of_mem _ hy)]
    exact h.2.2.2.1 y hy

theorem forgetWriter_wf {l : Lpd} (w : Nat) (h : Lpd.wf l = true) : Lpd.wf (forgetWriter l w) = true := by
  rw [Lpd.wf_iff] at h ⊢
  have hkeys : ∀ (lo : Nat) (m : SMap (List WcbEntry)), SMap.sortedFrom lo m = true →
      SMap.sortedFrom lo (m.map (fun c => (c.1, c.2.map (fun e => { e with writers := e.writers.erase w })))) = true := by
    intro lo m
    induction m generalizing lo with
    | nil => exact id
    | cons c r ih =>
      intro hm
      simp only [List.map_cons, SMap.sortedFrom, Bool.and_eq_true, decide_eq_true_eq] at hm ⊢
      exact ⟨hm.1, ih _ hm.2⟩
  refine ⟨h.1, h.2.1, SMap.wf_iff.2 ⟨hkeys 0 _ (SMap.wf_iff.1 h.2.2.1).1, ?_⟩, ?_⟩
  · intro e he
    obtain ⟨c, hc, rfl⟩ := List.mem_map.1 he
    simpa using (SMap.wf_iff.1 h.2.2.1).2 c hc
  · intro e he
    obtain ⟨c, hc, rfl⟩ := List.mem_map.1 he
    have hu : (forgetWriter l w).units = l.units := rfl
    rw [wcbWf_congr hu]
    have hw := h.2.2.2 c hc
    exact wcbWf_map (es := c.2) (p := c.1) _ (fun _ _ => rfl) (fun _ _ hs => hs) (fun _ _ hb => hb) hw

theorem wcbWf_append_one {l : Lpd} {p : Nat} {es : List WcbEntry} {e : WcbEntry} (h : wcbWf l p es = true) (hp : packageAt l (e.line * 64) = p)
    (hs : SMap.sorted e.bytes = true) (hb : ∀ b ∈ e.bytes, b.1 < 64) (hn : ∀ x ∈ es, x.line ≠ e.line) : wcbWf l p (es ++ [e]) = true := by
  induction es with
  | nil =>
    rw [List.nil_append, wcbWf_cons]
    exact ⟨hp, hs, hb, by simp, rfl⟩
  | cons x r ih =>
    rw [wcbWf_cons] at h
    rw [List.cons_append, wcbWf_cons]
    refine ⟨h.1, h.2.1, h.2.2.1, ?_, ih h.2.2.2.2 (fun y hy => hn y (List.mem_cons_of_mem _ hy))⟩
    intro y hy
    rcases List.mem_append.1 hy with hy | hy
    · exact h.2.2.2.1 y hy
    · rw [List.mem_singleton.1 hy]
      exact (hn x (List.mem_cons_self ..)).symm

theorem mem_writeAll {α : Type} {m : SMap α} {a : Nat} {vs : List α} {e : Nat × α} (h : e ∈ SMap.writeAll m a vs) :
    e ∈ m ∨ e.1 < a + vs.length := by
  simp only [SMap.writeAll, List.mem_append, List.mem_filter] at h
  rcases h with (h | h) | h
  · exact .inl h.1
  · exact .inr (SMap.mem_keyed h).2
  · exact .inl h.1

theorem wcbOf_writeOutOldest (l : Lpd) (p : Nat) : wcbOf (writeOutOldest l p) p = (wcbOf l p).tail := by
  unfold writeOutOldest
  split
  · rename_i h
    simp [h]
  · rename_i e es h
    rw [h]
    exact wcbOf_setWcb_same l p es

theorem acceptLine_wf {l : Lpd} (w : Option Nat) {c : Nat × Nat × Bytes} (hc : c.2.1 + c.2.2.length ≤ 64) (h : Lpd.wf l = true) :
    Lpd.wf (acceptLine w l c) = true := by
  unfold acceptLine
  split
  · exact h
  · simp only
    split
    · refine setWcb_wf h (wcbWf_map _ (fun e _ => ?_) (fun e _ hs => ?_) (fun e _ hb => ?_) (wcbOf_wf h _))
      · split <;> rfl
      · split
        · exact SMap.sorted_writeAll _ _ hs
        · exact hs
      · split
        · intro b hbm
          rcases mem_writeAll hbm with hbm | hbm
          · exact hb b hbm
          · omega
        · exact hb
    · rename_i hany
      have hne : ∀ x ∈ wcbOf l (packageAt l (c.1 * 64)), x.line ≠ c.1 := by
        intro x hx hxe
        exact hany (List.any_eq_true.2 ⟨x, hx, by simp [hxe]⟩)
      have hk : ∀ b ∈ SMap.keyed c.2.1 c.2.2, b.1 < 64 := fun b hb => by
        have := (SMap.mem_keyed hb).2
        omega
      have hks : SMap.sorted (SMap.keyed c.2.1 c.2.2) = true := SMap.sortedFrom_mono (SMap.keyed_sorted _ _) (Nat.zero_le _)
      split
      · have hu := writeOutOldest_units l (packageAt l (c.1 * 64))
        have hw := writeOutOldest_wf (packageAt l (c.1 * 64)) h
        refine setWcb_wf hw (wcbWf_append_one (wcbOf_wf hw _) (packageAt_congr hu _) hks hk ?_)
        rw [wcbOf_writeOutOldest]
        exact fun x hx => hne x (List.mem_of_mem_tail hx)
      · exact setWcb_wf h (wcbWf_append_one (wcbOf_wf h _) rfl hks hk hne)

theorem lineChunks_fits (n a : Nat) (bs : Bytes) : ∀ c ∈ lineChunks n a bs, c.2.1 + c.2.2.length ≤ 64 := by
  induction n generalizing a bs with
  | zero => simp [lineChunks]
  | succ n ih =>
    intro c hc
    simp only [lineChunks] at hc
    split at hc
    · simp at hc
    · rcases List.mem_cons.1 hc with hc | hc
      · subst hc
        simp only [List.length_take]
        omega
      · exact ih _ _ c hc

theorem foldl_acceptLine_wf {l : Lpd} (w : Option Nat) (cs : List (Nat × Nat × Bytes)) (hcs : ∀ c ∈ cs, c.2.1 + c.2.2.length ≤ 64)
    (h : Lpd.wf l = true) : Lpd.wf (cs.foldl (acceptLine w) l) = true := by
  induction cs generalizing l with
  | nil => exact h
  | cons c r ih =>
    exact ih (fun x hx => hcs x (List.mem_cons_of_mem _ hx)) (acceptLine_wf w (hcs c (List.mem_cons_self ..)) h)

/-- A store keeps T1 in canonical form (R397, R399). -/
theorem t1Store_wf {l : Lpd} (a : Nat) (bs : Bytes) (w : Option Nat) (h : Lpd.wf l = true) : Lpd.wf (t1Store l a bs w) = true :=
  foldl_acceptLine_wf w _ (lineChunks_fits _ _ _) h

/-- A write under a byte mask keeps the canonical form (R549). -/
theorem maskedStore_wf {l : Lpd} (a mask : Nat) (data : Bytes) (h : Lpd.wf l = true) : Lpd.wf (maskedStore a mask data l) = true := by
  unfold maskedStore
  generalize List.range 64 = ks
  induction ks generalizing l with
  | nil => exact h
  | cons k r ih =>
    rw [List.foldl_cons]
    split
    · exact ih (t1Store_wf _ _ _ h)
    · exact ih h

theorem t1Write_wf {s : State} (a : Nat) (bs : Bytes) (w : Option Nat) (h : Lpd.wf s.lpd = true) : Lpd.wf (t1Write a bs w s).lpd = true := by
  have : (t1Write a bs w s).lpd = t1Store s.lpd a bs w := by
    unfold t1Write tellHost
    split <;> rfl
  rw [this]
  exact t1Store_wf a bs w h

theorem zeroT1_wf (s : State) : Lpd.wf (zeroT1 s).lpd = true := rfl

/-- T1 after reset is in canonical form. -/
theorem reset_lpd_wf : Lpd.wf State.reset.lpd = true := rfl

end Sys2Proof.Machine
end

