-- ==== Sys2Proof/Laws/State.lean ====
section
/-! SUPPORT. The named updates of State, one lemma per field each: no later proof unfolds a record update. -/
namespace Sys2Proof.Machine

/-- The laws of reset: every field at its own default, nothing waiting. -/
@[simp] theorem reset_pending : State.reset.pending = [] := rfl

/-! `setLink`: one link; the fabric block alone. -/

@[simp] theorem setLink_glb (l : Nat) (k : Link) (s : State) : (setLink l k s).glb = s.glb := rfl
@[simp] theorem setLink_ev (l : Nat) (k : Link) (s : State) : (setLink l k s).ev = s.ev := rfl
@[simp] theorem setLink_beam (l : Nat) (k : Link) (s : State) : (setLink l k s).beam = s.beam := rfl
@[simp] theorem setLink_img (l : Nat) (k : Link) (s : State) : (setLink l k s).img = s.img := rfl
@[simp] theorem setLink_live (l : Nat) (k : Link) (s : State) : (setLink l k s).live = s.live := rfl
@[simp] theorem setLink_shadow (l : Nat) (k : Link) (s : State) : (setLink l k s).shadow = s.shadow := rfl
@[simp] theorem setLink_num (l : Nat) (k : Link) (s : State) : (setLink l k s).num = s.num := rfl
@[simp] theorem setLink_me (l : Nat) (k : Link) (s : State) : (setLink l k s).me = s.me := rfl
@[simp] theorem setLink_ve (l : Nat) (k : Link) (s : State) : (setLink l k s).ve = s.ve := rfl
@[simp] theorem setLink_ae (l : Nat) (k : Link) (s : State) : (setLink l k s).ae = s.ae := rfl
@[simp] theorem setLink_gse (l : Nat) (k : Link) (s : State) : (setLink l k s).gse = s.gse := rfl
@[simp] theorem setLink_lye (l : Nat) (k : Link) (s : State) : (setLink l k s).lye = s.lye := rfl
@[simp] theorem setLink_tst (l : Nat) (k : Link) (s : State) : (setLink l k s).tst = s.tst := rfl
@[simp] theorem setLink_ple (l : Nat) (k : Link) (s : State) : (setLink l k s).ple = s.ple := rfl
@[simp] theorem setLink_lpd (l : Nat) (k : Link) (s : State) : (setLink l k s).lpd = s.lpd := rfl
@[simp] theorem setLink_deep (l : Nat) (k : Link) (s : State) : (setLink l k s).deep = s.deep := rfl
@[simp] theorem setLink_rdx (l : Nat) (k : Link) (s : State) : (setLink l k s).rdx = s.rdx := rfl
@[simp] theorem setLink_orbit (l : Nat) (k : Link) (s : State) : (setLink l k s).orbit = s.orbit := rfl
@[simp] theorem setLink_host (l : Nat) (k : Link) (s : State) : (setLink l k s).host = s.host := rfl
@[simp] theorem setLink_kpr (l : Nat) (k : Link) (s : State) : (setLink l k s).kpr = s.kpr := rfl
@[simp] theorem setLink_lnt (l : Nat) (k : Link) (s : State) : (setLink l k s).lnt = s.lnt := rfl
@[simp] theorem setLink_nor (l : Nat) (k : Link) (s : State) : (setLink l k s).nor = s.nor := rfl
@[simp] theorem setLink_env (l : Nat) (k : Link) (s : State) : (setLink l k s).env = s.env := rfl
@[simp] theorem setLink_out (l : Nat) (k : Link) (s : State) : (setLink l k s).out = s.out := rfl
@[simp] theorem setLink_freeCount (l : Nat) (k : Link) (s : State) : (setLink l k s).freeCount = s.freeCount := rfl
@[simp] theorem setLink_pending (l : Nat) (k : Link) (s : State) : (setLink l k s).pending = s.pending := rfl

/-! `updLink`: one link; the fabric block alone. -/

@[simp] theorem updLink_glb (l : Nat) (f : Link → Link) (s : State) : (updLink l f s).glb = s.glb := rfl
@[simp] theorem updLink_ev (l : Nat) (f : Link → Link) (s : State) : (updLink l f s).ev = s.ev := rfl
@[simp] theorem updLink_beam (l : Nat) (f : Link → Link) (s : State) : (updLink l f s).beam = s.beam := rfl
@[simp] theorem updLink_img (l : Nat) (f : Link → Link) (s : State) : (updLink l f s).img = s.img := rfl
@[simp] theorem updLink_live (l : Nat) (f : Link → Link) (s : State) : (updLink l f s).live = s.live := rfl
@[simp] theorem updLink_shadow (l : Nat) (f : Link → Link) (s : State) : (updLink l f s).shadow = s.shadow := rfl
@[simp] theorem updLink_num (l : Nat) (f : Link → Link) (s : State) : (updLink l f s).num = s.num := rfl
@[simp] theorem updLink_me (l : Nat) (f : Link → Link) (s : State) : (updLink l f s).me = s.me := rfl
@[simp] theorem updLink_ve (l : Nat) (f : Link → Link) (s : State) : (updLink l f s).ve = s.ve := rfl
@[simp] theorem updLink_ae (l : Nat) (f : Link → Link) (s : State) : (updLink l f s).ae = s.ae := rfl
@[simp] theorem updLink_gse (l : Nat) (f : Link → Link) (s : State) : (updLink l f s).gse = s.gse := rfl
@[simp] theorem updLink_lye (l : Nat) (f : Link → Link) (s : State) : (updLink l f s).lye = s.lye := rfl
@[simp] theorem updLink_tst (l : Nat) (f : Link → Link) (s : State) : (updLink l f s).tst = s.tst := rfl
@[simp] theorem updLink_ple (l : Nat) (f : Link → Link) (s : State) : (updLink l f s).ple = s.ple := rfl
@[simp] theorem updLink_lpd (l : Nat) (f : Link → Link) (s : State) : (updLink l f s).lpd = s.lpd := rfl
@[simp] theorem updLink_deep (l : Nat) (f : Link → Link) (s : State) : (updLink l f s).deep = s.deep := rfl
@[simp] theorem updLink_rdx (l : Nat) (f : Link → Link) (s : State) : (updLink l f s).rdx = s.rdx := rfl
@[simp] theorem updLink_orbit (l : Nat) (f : Link → Link) (s : State) : (updLink l f s).orbit = s.orbit := rfl
@[simp] theorem updLink_host (l : Nat) (f : Link → Link) (s : State) : (updLink l f s).host = s.host := rfl
@[simp] theorem updLink_kpr (l : Nat) (f : Link → Link) (s : State) : (updLink l f s).kpr = s.kpr := rfl
@[simp] theorem updLink_lnt (l : Nat) (f : Link → Link) (s : State) : (updLink l f s).lnt = s.lnt := rfl
@[simp] theorem updLink_nor (l : Nat) (f : Link → Link) (s : State) : (updLink l f s).nor = s.nor := rfl
@[simp] theorem updLink_env (l : Nat) (f : Link → Link) (s : State) : (updLink l f s).env = s.env := rfl
@[simp] theorem updLink_out (l : Nat) (f : Link → Link) (s : State) : (updLink l f s).out = s.out := rfl
@[simp] theorem updLink_freeCount (l : Nat) (f : Link → Link) (s : State) : (updLink l f s).freeCount = s.freeCount := rfl
@[simp] theorem updLink_pending (l : Nat) (f : Link → Link) (s : State) : (updLink l f s).pending = s.pending := rfl

/-! `setTst`: one tile store. -/

@[simp] theorem setTst_glb (n : Nat) (x : TileStore) (s : State) : (setTst n x s).glb = s.glb := rfl
@[simp] theorem setTst_ev (n : Nat) (x : TileStore) (s : State) : (setTst n x s).ev = s.ev := rfl
@[simp] theorem setTst_beam (n : Nat) (x : TileStore) (s : State) : (setTst n x s).beam = s.beam := rfl
@[simp] theorem setTst_img (n : Nat) (x : TileStore) (s : State) : (setTst n x s).img = s.img := rfl
@[simp] theorem setTst_live (n : Nat) (x : TileStore) (s : State) : (setTst n x s).live = s.live := rfl
@[simp] theorem setTst_shadow (n : Nat) (x : TileStore) (s : State) : (setTst n x s).shadow = s.shadow := rfl
@[simp] theorem setTst_num (n : Nat) (x : TileStore) (s : State) : (setTst n x s).num = s.num := rfl
@[simp] theorem setTst_me (n : Nat) (x : TileStore) (s : State) : (setTst n x s).me = s.me := rfl
@[simp] theorem setTst_ve (n : Nat) (x : TileStore) (s : State) : (setTst n x s).ve = s.ve := rfl
@[simp] theorem setTst_ae (n : Nat) (x : TileStore) (s : State) : (setTst n x s).ae = s.ae := rfl
@[simp] theorem setTst_gse (n : Nat) (x : TileStore) (s : State) : (setTst n x s).gse = s.gse := rfl
@[simp] theorem setTst_lye (n : Nat) (x : TileStore) (s : State) : (setTst n x s).lye = s.lye := rfl
@[simp] theorem setTst_ple (n : Nat) (x : TileStore) (s : State) : (setTst n x s).ple = s.ple := rfl
@[simp] theorem setTst_lpd (n : Nat) (x : TileStore) (s : State) : (setTst n x s).lpd = s.lpd := rfl
@[simp] theorem setTst_deep (n : Nat) (x : TileStore) (s : State) : (setTst n x s).deep = s.deep := rfl
@[simp] theorem setTst_fab (n : Nat) (x : TileStore) (s : State) : (setTst n x s).fab = s.fab := rfl
@[simp] theorem setTst_rdx (n : Nat) (x : TileStore) (s : State) : (setTst n x s).rdx = s.rdx := rfl
@[simp] theorem setTst_orbit (n : Nat) (x : TileStore) (s : State) : (setTst n x s).orbit = s.orbit := rfl
@[simp] theorem setTst_host (n : Nat) (x : TileStore) (s : State) : (setTst n x s).host = s.host := rfl
@[simp] theorem setTst_kpr (n : Nat) (x : TileStore) (s : State) : (setTst n x s).kpr = s.kpr := rfl
@[simp] theorem setTst_lnt (n : Nat) (x : TileStore) (s : State) : (setTst n x s).lnt = s.lnt := rfl
@[simp] theorem setTst_nor (n : Nat) (x : TileStore) (s : State) : (setTst n x s).nor = s.nor := rfl
@[simp] theorem setTst_env (n : Nat) (x : TileStore) (s : State) : (setTst n x s).env = s.env := rfl
@[simp] theorem setTst_out (n : Nat) (x : TileStore) (s : State) : (setTst n x s).out = s.out := rfl
@[simp] theorem setTst_freeCount (n : Nat) (x : TileStore) (s : State) : (setTst n x s).freeCount = s.freeCount := rfl
@[simp] theorem setTst_pending (n : Nat) (x : TileStore) (s : State) : (setTst n x s).pending = s.pending := rfl

/-! `updTst`: one tile store. -/

@[simp] theorem updTst_glb (n : Nat) (f : TileStore → TileStore) (s : State) : (updTst n f s).glb = s.glb := rfl
@[simp] theorem updTst_ev (n : Nat) (f : TileStore → TileStore) (s : State) : (updTst n f s).ev = s.ev := rfl
@[simp] theorem updTst_beam (n : Nat) (f : TileStore → TileStore) (s : State) : (updTst n f s).beam = s.beam := rfl
@[simp] theorem updTst_img (n : Nat) (f : TileStore → TileStore) (s : State) : (updTst n f s).img = s.img := rfl
@[simp] theorem updTst_live (n : Nat) (f : TileStore → TileStore) (s : State) : (updTst n f s).live = s.live := rfl
@[simp] theorem updTst_shadow (n : Nat) (f : TileStore → TileStore) (s : State) : (updTst n f s).shadow = s.shadow := rfl
@[simp] theorem updTst_num (n : Nat) (f : TileStore → TileStore) (s : State) : (updTst n f s).num = s.num := rfl
@[simp] theorem updTst_me (n : Nat) (f : TileStore → TileStore) (s : State) : (updTst n f s).me = s.me := rfl
@[simp] theorem updTst_ve (n : Nat) (f : TileStore → TileStore) (s : State) : (updTst n f s).ve = s.ve := rfl
@[simp] theorem updTst_ae (n : Nat) (f : TileStore → TileStore) (s : State) : (updTst n f s).ae = s.ae := rfl
@[simp] theorem updTst_gse (n : Nat) (f : TileStore → TileStore) (s : State) : (updTst n f s).gse = s.gse := rfl
@[simp] theorem updTst_lye (n : Nat) (f : TileStore → TileStore) (s : State) : (updTst n f s).lye = s.lye := rfl
@[simp] theorem updTst_ple (n : Nat) (f : TileStore → TileStore) (s : State) : (updTst n f s).ple = s.ple := rfl
@[simp] theorem updTst_lpd (n : Nat) (f : TileStore → TileStore) (s : State) : (updTst n f s).lpd = s.lpd := rfl
@[simp] theorem updTst_deep (n : Nat) (f : TileStore → TileStore) (s : State) : (updTst n f s).deep = s.deep := rfl
@[simp] theorem updTst_fab (n : Nat) (f : TileStore → TileStore) (s : State) : (updTst n f s).fab = s.fab := rfl
@[simp] theorem updTst_rdx (n : Nat) (f : TileStore → TileStore) (s : State) : (updTst n f s).rdx = s.rdx := rfl
@[simp] theorem updTst_orbit (n : Nat) (f : TileStore → TileStore) (s : State) : (updTst n f s).orbit = s.orbit := rfl
@[simp] theorem updTst_host (n : Nat) (f : TileStore → TileStore) (s : State) : (updTst n f s).host = s.host := rfl
@[simp] theorem updTst_kpr (n : Nat) (f : TileStore → TileStore) (s : State) : (updTst n f s).kpr = s.kpr := rfl
@[simp] theorem updTst_lnt (n : Nat) (f : TileStore → TileStore) (s : State) : (updTst n f s).lnt = s.lnt := rfl
@[simp] theorem updTst_nor (n : Nat) (f : TileStore → TileStore) (s : State) : (updTst n f s).nor = s.nor := rfl
@[simp] theorem updTst_env (n : Nat) (f : TileStore → TileStore) (s : State) : (updTst n f s).env = s.env := rfl
@[simp] theorem updTst_out (n : Nat) (f : TileStore → TileStore) (s : State) : (updTst n f s).out = s.out := rfl
@[simp] theorem updTst_freeCount (n : Nat) (f : TileStore → TileStore) (s : State) : (updTst n f s).freeCount = s.freeCount := rfl
@[simp] theorem updTst_pending (n : Nat) (f : TileStore → TileStore) (s : State) : (updTst n f s).pending = s.pending := rfl

/-! `setBuoy`: one buoy of the placement table. -/

@[simp] theorem setBuoy_glb (id : Nat) (b : BuoyState) (s : State) : (setBuoy id b s).glb = s.glb := rfl
@[simp] theorem setBuoy_ev (id : Nat) (b : BuoyState) (s : State) : (setBuoy id b s).ev = s.ev := rfl
@[simp] theorem setBuoy_beam (id : Nat) (b : BuoyState) (s : State) : (setBuoy id b s).beam = s.beam := rfl
@[simp] theorem setBuoy_img (id : Nat) (b : BuoyState) (s : State) : (setBuoy id b s).img = s.img := rfl
@[simp] theorem setBuoy_live (id : Nat) (b : BuoyState) (s : State) : (setBuoy id b s).live = s.live := rfl
@[simp] theorem setBuoy_shadow (id : Nat) (b : BuoyState) (s : State) : (setBuoy id b s).shadow = s.shadow := rfl
@[simp] theorem setBuoy_num (id : Nat) (b : BuoyState) (s : State) : (setBuoy id b s).num = s.num := rfl
@[simp] theorem setBuoy_me (id : Nat) (b : BuoyState) (s : State) : (setBuoy id b s).me = s.me := rfl
@[simp] theorem setBuoy_ve (id : Nat) (b : BuoyState) (s : State) : (setBuoy id b s).ve = s.ve := rfl
@[simp] theorem setBuoy_ae (id : Nat) (b : BuoyState) (s : State) : (setBuoy id b s).ae = s.ae := rfl
@[simp] theorem setBuoy_gse (id : Nat) (b : BuoyState) (s : State) : (setBuoy id b s).gse = s.gse := rfl
@[simp] theorem setBuoy_lye (id : Nat) (b : BuoyState) (s : State) : (setBuoy id b s).lye = s.lye := rfl
@[simp] theorem setBuoy_tst (id : Nat) (b : BuoyState) (s : State) : (setBuoy id b s).tst = s.tst := rfl
@[simp] theorem setBuoy_lpd (id : Nat) (b : BuoyState) (s : State) : (setBuoy id b s).lpd = s.lpd := rfl
@[simp] theorem setBuoy_deep (id : Nat) (b : BuoyState) (s : State) : (setBuoy id b s).deep = s.deep := rfl
@[simp] theorem setBuoy_fab (id : Nat) (b : BuoyState) (s : State) : (setBuoy id b s).fab = s.fab := rfl
@[simp] theorem setBuoy_rdx (id : Nat) (b : BuoyState) (s : State) : (setBuoy id b s).rdx = s.rdx := rfl
@[simp] theorem setBuoy_orbit (id : Nat) (b : BuoyState) (s : State) : (setBuoy id b s).orbit = s.orbit := rfl
@[simp] theorem setBuoy_host (id : Nat) (b : BuoyState) (s : State) : (setBuoy id b s).host = s.host := rfl
@[simp] theorem setBuoy_kpr (id : Nat) (b : BuoyState) (s : State) : (setBuoy id b s).kpr = s.kpr := rfl
@[simp] theorem setBuoy_lnt (id : Nat) (b : BuoyState) (s : State) : (setBuoy id b s).lnt = s.lnt := rfl
@[simp] theorem setBuoy_nor (id : Nat) (b : BuoyState) (s : State) : (setBuoy id b s).nor = s.nor := rfl
@[simp] theorem setBuoy_env (id : Nat) (b : BuoyState) (s : State) : (setBuoy id b s).env = s.env := rfl
@[simp] theorem setBuoy_out (id : Nat) (b : BuoyState) (s : State) : (setBuoy id b s).out = s.out := rfl
@[simp] theorem setBuoy_freeCount (id : Nat) (b : BuoyState) (s : State) : (setBuoy id b s).freeCount = s.freeCount := rfl
@[simp] theorem setBuoy_pending (id : Nat) (b : BuoyState) (s : State) : (setBuoy id b s).pending = s.pending := rfl

/-! `updBuoy`: one buoy of the placement table. -/

@[simp] theorem updBuoy_glb (id : Nat) (f : BuoyState → BuoyState) (s : State) : (updBuoy id f s).glb = s.glb := rfl
@[simp] theorem updBuoy_ev (id : Nat) (f : BuoyState → BuoyState) (s : State) : (updBuoy id f s).ev = s.ev := rfl
@[simp] theorem updBuoy_beam (id : Nat) (f : BuoyState → BuoyState) (s : State) : (updBuoy id f s).beam = s.beam := rfl
@[simp] theorem updBuoy_img (id : Nat) (f : BuoyState → BuoyState) (s : State) : (updBuoy id f s).img = s.img := rfl
@[simp] theorem updBuoy_live (id : Nat) (f : BuoyState → BuoyState) (s : State) : (updBuoy id f s).live = s.live := rfl
@[simp] theorem updBuoy_shadow (id : Nat) (f : BuoyState → BuoyState) (s : State) : (updBuoy id f s).shadow = s.shadow := rfl
@[simp] theorem updBuoy_num (id : Nat) (f : BuoyState → BuoyState) (s : State) : (updBuoy id f s).num = s.num := rfl
@[simp] theorem updBuoy_me (id : Nat) (f : BuoyState → BuoyState) (s : State) : (updBuoy id f s).me = s.me := rfl
@[simp] theorem updBuoy_ve (id : Nat) (f : BuoyState → BuoyState) (s : State) : (updBuoy id f s).ve = s.ve := rfl
@[simp] theorem updBuoy_ae (id : Nat) (f : BuoyState → BuoyState) (s : State) : (updBuoy id f s).ae = s.ae := rfl
@[simp] theorem updBuoy_gse (id : Nat) (f : BuoyState → BuoyState) (s : State) : (updBuoy id f s).gse = s.gse := rfl
@[simp] theorem updBuoy_lye (id : Nat) (f : BuoyState → BuoyState) (s : State) : (updBuoy id f s).lye = s.lye := rfl
@[simp] theorem updBuoy_tst (id : Nat) (f : BuoyState → BuoyState) (s : State) : (updBuoy id f s).tst = s.tst := rfl
@[simp] theorem updBuoy_lpd (id : Nat) (f : BuoyState → BuoyState) (s : State) : (updBuoy id f s).lpd = s.lpd := rfl
@[simp] theorem updBuoy_deep (id : Nat) (f : BuoyState → BuoyState) (s : State) : (updBuoy id f s).deep = s.deep := rfl
@[simp] theorem updBuoy_fab (id : Nat) (f : BuoyState → BuoyState) (s : State) : (updBuoy id f s).fab = s.fab := rfl
@[simp] theorem updBuoy_rdx (id : Nat) (f : BuoyState → BuoyState) (s : State) : (updBuoy id f s).rdx = s.rdx := rfl
@[simp] theorem updBuoy_orbit (id : Nat) (f : BuoyState → BuoyState) (s : State) : (updBuoy id f s).orbit = s.orbit := rfl
@[simp] theorem updBuoy_host (id : Nat) (f : BuoyState → BuoyState) (s : State) : (updBuoy id f s).host = s.host := rfl
@[simp] theorem updBuoy_kpr (id : Nat) (f : BuoyState → BuoyState) (s : State) : (updBuoy id f s).kpr = s.kpr := rfl
@[simp] theorem updBuoy_lnt (id : Nat) (f : BuoyState → BuoyState) (s : State) : (updBuoy id f s).lnt = s.lnt := rfl
@[simp] theorem updBuoy_nor (id : Nat) (f : BuoyState → BuoyState) (s : State) : (updBuoy id f s).nor = s.nor := rfl
@[simp] theorem updBuoy_env (id : Nat) (f : BuoyState → BuoyState) (s : State) : (updBuoy id f s).env = s.env := rfl
@[simp] theorem updBuoy_out (id : Nat) (f : BuoyState → BuoyState) (s : State) : (updBuoy id f s).out = s.out := rfl
@[simp] theorem updBuoy_freeCount (id : Nat) (f : BuoyState → BuoyState) (s : State) : (updBuoy id f s).freeCount = s.freeCount := rfl
@[simp] theorem updBuoy_pending (id : Nat) (f : BuoyState → BuoyState) (s : State) : (updBuoy id f s).pending = s.pending := rfl

/-! `updCounts`: the placement counters. -/

@[simp] theorem updCounts_glb (f : PleCounts → PleCounts) (s : State) : (updCounts f s).glb = s.glb := rfl
@[simp] theorem updCounts_ev (f : PleCounts → PleCounts) (s : State) : (updCounts f s).ev = s.ev := rfl
@[simp] theorem updCounts_beam (f : PleCounts → PleCounts) (s : State) : (updCounts f s).beam = s.beam := rfl
@[simp] theorem updCounts_img (f : PleCounts → PleCounts) (s : State) : (updCounts f s).img = s.img := rfl
@[simp] theorem updCounts_live (f : PleCounts → PleCounts) (s : State) : (updCounts f s).live = s.live := rfl
@[simp] theorem updCounts_shadow (f : PleCounts → PleCounts) (s : State) : (updCounts f s).shadow = s.shadow := rfl
@[simp] theorem updCounts_num (f : PleCounts → PleCounts) (s : State) : (updCounts f s).num = s.num := rfl
@[simp] theorem updCounts_me (f : PleCounts → PleCounts) (s : State) : (updCounts f s).me = s.me := rfl
@[simp] theorem updCounts_ve (f : PleCounts → PleCounts) (s : State) : (updCounts f s).ve = s.ve := rfl
@[simp] theorem updCounts_ae (f : PleCounts → PleCounts) (s : State) : (updCounts f s).ae = s.ae := rfl
@[simp] theorem updCounts_gse (f : PleCounts → PleCounts) (s : State) : (updCounts f s).gse = s.gse := rfl
@[simp] theorem updCounts_lye (f : PleCounts → PleCounts) (s : State) : (updCounts f s).lye = s.lye := rfl
@[simp] theorem updCounts_tst (f : PleCounts → PleCounts) (s : State) : (updCounts f s).tst = s.tst := rfl
@[simp] theorem updCounts_lpd (f : PleCounts → PleCounts) (s : State) : (updCounts f s).lpd = s.lpd := rfl
@[simp] theorem updCounts_deep (f : PleCounts → PleCounts) (s : State) : (updCounts f s).deep = s.deep := rfl
@[simp] theorem updCounts_fab (f : PleCounts → PleCounts) (s : State) : (updCounts f s).fab = s.fab := rfl
@[simp] theorem updCounts_rdx (f : PleCounts → PleCounts) (s : State) : (updCounts f s).rdx = s.rdx := rfl
@[simp] theorem updCounts_orbit (f : PleCounts → PleCounts) (s : State) : (updCounts f s).orbit = s.orbit := rfl
@[simp] theorem updCounts_host (f : PleCounts → PleCounts) (s : State) : (updCounts f s).host = s.host := rfl
@[simp] theorem updCounts_kpr (f : PleCounts → PleCounts) (s : State) : (updCounts f s).kpr = s.kpr := rfl
@[simp] theorem updCounts_lnt (f : PleCounts → PleCounts) (s : State) : (updCounts f s).lnt = s.lnt := rfl
@[simp] theorem updCounts_nor (f : PleCounts → PleCounts) (s : State) : (updCounts f s).nor = s.nor := rfl
@[simp] theorem updCounts_env (f : PleCounts → PleCounts) (s : State) : (updCounts f s).env = s.env := rfl
@[simp] theorem updCounts_out (f : PleCounts → PleCounts) (s : State) : (updCounts f s).out = s.out := rfl
@[simp] theorem updCounts_freeCount (f : PleCounts → PleCounts) (s : State) : (updCounts f s).freeCount = s.freeCount := rfl
@[simp] theorem updCounts_pending (f : PleCounts → PleCounts) (s : State) : (updCounts f s).pending = s.pending := rfl

/-! `updMe`: one matrix engine. -/

@[simp] theorem updMe_glb (die u : Nat) (f : MeUnit → MeUnit) (s : State) : (updMe die u f s).glb = s.glb := rfl
@[simp] theorem updMe_ev (die u : Nat) (f : MeUnit → MeUnit) (s : State) : (updMe die u f s).ev = s.ev := rfl
@[simp] theorem updMe_beam (die u : Nat) (f : MeUnit → MeUnit) (s : State) : (updMe die u f s).beam = s.beam := rfl
@[simp] theorem updMe_img (die u : Nat) (f : MeUnit → MeUnit) (s : State) : (updMe die u f s).img = s.img := rfl
@[simp] theorem updMe_live (die u : Nat) (f : MeUnit → MeUnit) (s : State) : (updMe die u f s).live = s.live := rfl
@[simp] theorem updMe_shadow (die u : Nat) (f : MeUnit → MeUnit) (s : State) : (updMe die u f s).shadow = s.shadow := rfl
@[simp] theorem updMe_num (die u : Nat) (f : MeUnit → MeUnit) (s : State) : (updMe die u f s).num = s.num := rfl
@[simp] theorem updMe_ve (die u : Nat) (f : MeUnit → MeUnit) (s : State) : (updMe die u f s).ve = s.ve := rfl
@[simp] theorem updMe_ae (die u : Nat) (f : MeUnit → MeUnit) (s : State) : (updMe die u f s).ae = s.ae := rfl
@[simp] theorem updMe_gse (die u : Nat) (f : MeUnit → MeUnit) (s : State) : (updMe die u f s).gse = s.gse := rfl
@[simp] theorem updMe_lye (die u : Nat) (f : MeUnit → MeUnit) (s : State) : (updMe die u f s).lye = s.lye := rfl
@[simp] theorem updMe_tst (die u : Nat) (f : MeUnit → MeUnit) (s : State) : (updMe die u f s).tst = s.tst := rfl
@[simp] theorem updMe_ple (die u : Nat) (f : MeUnit → MeUnit) (s : State) : (updMe die u f s).ple = s.ple := rfl
@[simp] theorem updMe_lpd (die u : Nat) (f : MeUnit → MeUnit) (s : State) : (updMe die u f s).lpd = s.lpd := rfl
@[simp] theorem updMe_deep (die u : Nat) (f : MeUnit → MeUnit) (s : State) : (updMe die u f s).deep = s.deep := rfl
@[simp] theorem updMe_fab (die u : Nat) (f : MeUnit → MeUnit) (s : State) : (updMe die u f s).fab = s.fab := rfl
@[simp] theorem updMe_rdx (die u : Nat) (f : MeUnit → MeUnit) (s : State) : (updMe die u f s).rdx = s.rdx := rfl
@[simp] theorem updMe_orbit (die u : Nat) (f : MeUnit → MeUnit) (s : State) : (updMe die u f s).orbit = s.orbit := rfl
@[simp] theorem updMe_host (die u : Nat) (f : MeUnit → MeUnit) (s : State) : (updMe die u f s).host = s.host := rfl
@[simp] theorem updMe_kpr (die u : Nat) (f : MeUnit → MeUnit) (s : State) : (updMe die u f s).kpr = s.kpr := rfl
@[simp] theorem updMe_lnt (die u : Nat) (f : MeUnit → MeUnit) (s : State) : (updMe die u f s).lnt = s.lnt := rfl
@[simp] theorem updMe_nor (die u : Nat) (f : MeUnit → MeUnit) (s : State) : (updMe die u f s).nor = s.nor := rfl
@[simp] theorem updMe_env (die u : Nat) (f : MeUnit → MeUnit) (s : State) : (updMe die u f s).env = s.env := rfl
@[simp] theorem updMe_out (die u : Nat) (f : MeUnit → MeUnit) (s : State) : (updMe die u f s).out = s.out := rfl
@[simp] theorem updMe_freeCount (die u : Nat) (f : MeUnit → MeUnit) (s : State) : (updMe die u f s).freeCount = s.freeCount := rfl
@[simp] theorem updMe_pending (die u : Nat) (f : MeUnit → MeUnit) (s : State) : (updMe die u f s).pending = s.pending := rfl

/-! `updVe`: one vector engine. -/

@[simp] theorem updVe_glb (die u : Nat) (f : VeUnit → VeUnit) (s : State) : (updVe die u f s).glb = s.glb := rfl
@[simp] theorem updVe_ev (die u : Nat) (f : VeUnit → VeUnit) (s : State) : (updVe die u f s).ev = s.ev := rfl
@[simp] theorem updVe_beam (die u : Nat) (f : VeUnit → VeUnit) (s : State) : (updVe die u f s).beam = s.beam := rfl
@[simp] theorem updVe_img (die u : Nat) (f : VeUnit → VeUnit) (s : State) : (updVe die u f s).img = s.img := rfl
@[simp] theorem updVe_live (die u : Nat) (f : VeUnit → VeUnit) (s : State) : (updVe die u f s).live = s.live := rfl
@[simp] theorem updVe_shadow (die u : Nat) (f : VeUnit → VeUnit) (s : State) : (updVe die u f s).shadow = s.shadow := rfl
@[simp] theorem updVe_num (die u : Nat) (f : VeUnit → VeUnit) (s : State) : (updVe die u f s).num = s.num := rfl
@[simp] theorem updVe_me (die u : Nat) (f : VeUnit → VeUnit) (s : State) : (updVe die u f s).me = s.me := rfl
@[simp] theorem updVe_ae (die u : Nat) (f : VeUnit → VeUnit) (s : State) : (updVe die u f s).ae = s.ae := rfl
@[simp] theorem updVe_gse (die u : Nat) (f : VeUnit → VeUnit) (s : State) : (updVe die u f s).gse = s.gse := rfl
@[simp] theorem updVe_lye (die u : Nat) (f : VeUnit → VeUnit) (s : State) : (updVe die u f s).lye = s.lye := rfl
@[simp] theorem updVe_tst (die u : Nat) (f : VeUnit → VeUnit) (s : State) : (updVe die u f s).tst = s.tst := rfl
@[simp] theorem updVe_ple (die u : Nat) (f : VeUnit → VeUnit) (s : State) : (updVe die u f s).ple = s.ple := rfl
@[simp] theorem updVe_lpd (die u : Nat) (f : VeUnit → VeUnit) (s : State) : (updVe die u f s).lpd = s.lpd := rfl
@[simp] theorem updVe_deep (die u : Nat) (f : VeUnit → VeUnit) (s : State) : (updVe die u f s).deep = s.deep := rfl
@[simp] theorem updVe_fab (die u : Nat) (f : VeUnit → VeUnit) (s : State) : (updVe die u f s).fab = s.fab := rfl
@[simp] theorem updVe_rdx (die u : Nat) (f : VeUnit → VeUnit) (s : State) : (updVe die u f s).rdx = s.rdx := rfl
@[simp] theorem updVe_orbit (die u : Nat) (f : VeUnit → VeUnit) (s : State) : (updVe die u f s).orbit = s.orbit := rfl
@[simp] theorem updVe_host (die u : Nat) (f : VeUnit → VeUnit) (s : State) : (updVe die u f s).host = s.host := rfl
@[simp] theorem updVe_kpr (die u : Nat) (f : VeUnit → VeUnit) (s : State) : (updVe die u f s).kpr = s.kpr := rfl
@[simp] theorem updVe_lnt (die u : Nat) (f : VeUnit → VeUnit) (s : State) : (updVe die u f s).lnt = s.lnt := rfl
@[simp] theorem updVe_nor (die u : Nat) (f : VeUnit → VeUnit) (s : State) : (updVe die u f s).nor = s.nor := rfl
@[simp] theorem updVe_env (die u : Nat) (f : VeUnit → VeUnit) (s : State) : (updVe die u f s).env = s.env := rfl
@[simp] theorem updVe_out (die u : Nat) (f : VeUnit → VeUnit) (s : State) : (updVe die u f s).out = s.out := rfl
@[simp] theorem updVe_freeCount (die u : Nat) (f : VeUnit → VeUnit) (s : State) : (updVe die u f s).freeCount = s.freeCount := rfl
@[simp] theorem updVe_pending (die u : Nat) (f : VeUnit → VeUnit) (s : State) : (updVe die u f s).pending = s.pending := rfl

/-! `updMeUnit`: one matrix engine. -/

@[simp] theorem updMeUnit_glb (u : Nat) (f : MeUnit → MeUnit) (s : State) : (updMeUnit u f s).glb = s.glb := rfl
@[simp] theorem updMeUnit_ev (u : Nat) (f : MeUnit → MeUnit) (s : State) : (updMeUnit u f s).ev = s.ev := rfl
@[simp] theorem updMeUnit_beam (u : Nat) (f : MeUnit → MeUnit) (s : State) : (updMeUnit u f s).beam = s.beam := rfl
@[simp] theorem updMeUnit_img (u : Nat) (f : MeUnit → MeUnit) (s : State) : (updMeUnit u f s).img = s.img := rfl
@[simp] theorem updMeUnit_live (u : Nat) (f : MeUnit → MeUnit) (s : State) : (updMeUnit u f s).live = s.live := rfl
@[simp] theorem updMeUnit_shadow (u : Nat) (f : MeUnit → MeUnit) (s : State) : (updMeUnit u f s).shadow = s.shadow := rfl
@[simp] theorem updMeUnit_num (u : Nat) (f : MeUnit → MeUnit) (s : State) : (updMeUnit u f s).num = s.num := rfl
@[simp] theorem updMeUnit_ve (u : Nat) (f : MeUnit → MeUnit) (s : State) : (updMeUnit u f s).ve = s.ve := rfl
@[simp] theorem updMeUnit_ae (u : Nat) (f : MeUnit → MeUnit) (s : State) : (updMeUnit u f s).ae = s.ae := rfl
@[simp] theorem updMeUnit_gse (u : Nat) (f : MeUnit → MeUnit) (s : State) : (updMeUnit u f s).gse = s.gse := rfl
@[simp] theorem updMeUnit_lye (u : Nat) (f : MeUnit → MeUnit) (s : State) : (updMeUnit u f s).lye = s.lye := rfl
@[simp] theorem updMeUnit_tst (u : Nat) (f : MeUnit → MeUnit) (s : State) : (updMeUnit u f s).tst = s.tst := rfl
@[simp] theorem updMeUnit_ple (u : Nat) (f : MeUnit → MeUnit) (s : State) : (updMeUnit u f s).ple = s.ple := rfl
@[simp] theorem updMeUnit_lpd (u : Nat) (f : MeUnit → MeUnit) (s : State) : (updMeUnit u f s).lpd = s.lpd := rfl
@[simp] theorem updMeUnit_deep (u : Nat) (f : MeUnit → MeUnit) (s : State) : (updMeUnit u f s).deep = s.deep := rfl
@[simp] theorem updMeUnit_fab (u : Nat) (f : MeUnit → MeUnit) (s : State) : (updMeUnit u f s).fab = s.fab := rfl
@[simp] theorem updMeUnit_rdx (u : Nat) (f : MeUnit → MeUnit) (s : State) : (updMeUnit u f s).rdx = s.rdx := rfl
@[simp] theorem updMeUnit_orbit (u : Nat) (f : MeUnit → MeUnit) (s : State) : (updMeUnit u f s).orbit = s.orbit := rfl
@[simp] theorem updMeUnit_host (u : Nat) (f : MeUnit → MeUnit) (s : State) : (updMeUnit u f s).host = s.host := rfl
@[simp] theorem updMeUnit_kpr (u : Nat) (f : MeUnit → MeUnit) (s : State) : (updMeUnit u f s).kpr = s.kpr := rfl
@[simp] theorem updMeUnit_lnt (u : Nat) (f : MeUnit → MeUnit) (s : State) : (updMeUnit u f s).lnt = s.lnt := rfl
@[simp] theorem updMeUnit_nor (u : Nat) (f : MeUnit → MeUnit) (s : State) : (updMeUnit u f s).nor = s.nor := rfl
@[simp] theorem updMeUnit_env (u : Nat) (f : MeUnit → MeUnit) (s : State) : (updMeUnit u f s).env = s.env := rfl
@[simp] theorem updMeUnit_out (u : Nat) (f : MeUnit → MeUnit) (s : State) : (updMeUnit u f s).out = s.out := rfl
@[simp] theorem updMeUnit_freeCount (u : Nat) (f : MeUnit → MeUnit) (s : State) : (updMeUnit u f s).freeCount = s.freeCount := rfl
@[simp] theorem updMeUnit_pending (u : Nat) (f : MeUnit → MeUnit) (s : State) : (updMeUnit u f s).pending = s.pending := rfl

/-! `updVeUnit`: one vector engine. -/

@[simp] theorem updVeUnit_glb (u : Nat) (f : VeUnit → VeUnit) (s : State) : (updVeUnit u f s).glb = s.glb := rfl
@[simp] theorem updVeUnit_ev (u : Nat) (f : VeUnit → VeUnit) (s : State) : (updVeUnit u f s).ev = s.ev := rfl
@[simp] theorem updVeUnit_beam (u : Nat) (f : VeUnit → VeUnit) (s : State) : (updVeUnit u f s).beam = s.beam := rfl
@[simp] theorem updVeUnit_img (u : Nat) (f : VeUnit → VeUnit) (s : State) : (updVeUnit u f s).img = s.img := rfl
@[simp] theorem updVeUnit_live (u : Nat) (f : VeUnit → VeUnit) (s : State) : (updVeUnit u f s).live = s.live := rfl
@[simp] theorem updVeUnit_shadow (u : Nat) (f : VeUnit → VeUnit) (s : State) : (updVeUnit u f s).shadow = s.shadow := rfl
@[simp] theorem updVeUnit_num (u : Nat) (f : VeUnit → VeUnit) (s : State) : (updVeUnit u f s).num = s.num := rfl
@[simp] theorem updVeUnit_me (u : Nat) (f : VeUnit → VeUnit) (s : State) : (updVeUnit u f s).me = s.me := rfl
@[simp] theorem updVeUnit_ae (u : Nat) (f : VeUnit → VeUnit) (s : State) : (updVeUnit u f s).ae = s.ae := rfl
@[simp] theorem updVeUnit_gse (u : Nat) (f : VeUnit → VeUnit) (s : State) : (updVeUnit u f s).gse = s.gse := rfl
@[simp] theorem updVeUnit_lye (u : Nat) (f : VeUnit → VeUnit) (s : State) : (updVeUnit u f s).lye = s.lye := rfl
@[simp] theorem updVeUnit_tst (u : Nat) (f : VeUnit → VeUnit) (s : State) : (updVeUnit u f s).tst = s.tst := rfl
@[simp] theorem updVeUnit_ple (u : Nat) (f : VeUnit → VeUnit) (s : State) : (updVeUnit u f s).ple = s.ple := rfl
@[simp] theorem updVeUnit_lpd (u : Nat) (f : VeUnit → VeUnit) (s : State) : (updVeUnit u f s).lpd = s.lpd := rfl
@[simp] theorem updVeUnit_deep (u : Nat) (f : VeUnit → VeUnit) (s : State) : (updVeUnit u f s).deep = s.deep := rfl
@[simp] theorem updVeUnit_fab (u : Nat) (f : VeUnit → VeUnit) (s : State) : (updVeUnit u f s).fab = s.fab := rfl
@[simp] theorem updVeUnit_rdx (u : Nat) (f : VeUnit → VeUnit) (s : State) : (updVeUnit u f s).rdx = s.rdx := rfl
@[simp] theorem updVeUnit_orbit (u : Nat) (f : VeUnit → VeUnit) (s : State) : (updVeUnit u f s).orbit = s.orbit := rfl
@[simp] theorem updVeUnit_host (u : Nat) (f : VeUnit → VeUnit) (s : State) : (updVeUnit u f s).host = s.host := rfl
@[simp] theorem updVeUnit_kpr (u : Nat) (f : VeUnit → VeUnit) (s : State) : (updVeUnit u f s).kpr = s.kpr := rfl
@[simp] theorem updVeUnit_lnt (u : Nat) (f : VeUnit → VeUnit) (s : State) : (updVeUnit u f s).lnt = s.lnt := rfl
@[simp] theorem updVeUnit_nor (u : Nat) (f : VeUnit → VeUnit) (s : State) : (updVeUnit u f s).nor = s.nor := rfl
@[simp] theorem updVeUnit_env (u : Nat) (f : VeUnit → VeUnit) (s : State) : (updVeUnit u f s).env = s.env := rfl
@[simp] theorem updVeUnit_out (u : Nat) (f : VeUnit → VeUnit) (s : State) : (updVeUnit u f s).out = s.out := rfl
@[simp] theorem updVeUnit_freeCount (u : Nat) (f : VeUnit → VeUnit) (s : State) : (updVeUnit u f s).freeCount = s.freeCount := rfl
@[simp] theorem updVeUnit_pending (u : Nat) (f : VeUnit → VeUnit) (s : State) : (updVeUnit u f s).pending = s.pending := rfl

/-! `updRegs`: the registers of one vector engine. -/

@[simp] theorem updRegs_glb (u : Nat) (f : VeRegs → VeRegs) (s : State) : (updRegs u f s).glb = s.glb := rfl
@[simp] theorem updRegs_ev (u : Nat) (f : VeRegs → VeRegs) (s : State) : (updRegs u f s).ev = s.ev := rfl
@[simp] theorem updRegs_beam (u : Nat) (f : VeRegs → VeRegs) (s : State) : (updRegs u f s).beam = s.beam := rfl
@[simp] theorem updRegs_img (u : Nat) (f : VeRegs → VeRegs) (s : State) : (updRegs u f s).img = s.img := rfl
@[simp] theorem updRegs_live (u : Nat) (f : VeRegs → VeRegs) (s : State) : (updRegs u f s).live = s.live := rfl
@[simp] theorem updRegs_shadow (u : Nat) (f : VeRegs → VeRegs) (s : State) : (updRegs u f s).shadow = s.shadow := rfl
@[simp] theorem updRegs_num (u : Nat) (f : VeRegs → VeRegs) (s : State) : (updRegs u f s).num = s.num := rfl
@[simp] theorem updRegs_me (u : Nat) (f : VeRegs → VeRegs) (s : State) : (updRegs u f s).me = s.me := rfl
@[simp] theorem updRegs_ae (u : Nat) (f : VeRegs → VeRegs) (s : State) : (updRegs u f s).ae = s.ae := rfl
@[simp] theorem updRegs_gse (u : Nat) (f : VeRegs → VeRegs) (s : State) : (updRegs u f s).gse = s.gse := rfl
@[simp] theorem updRegs_lye (u : Nat) (f : VeRegs → VeRegs) (s : State) : (updRegs u f s).lye = s.lye := rfl
@[simp] theorem updRegs_tst (u : Nat) (f : VeRegs → VeRegs) (s : State) : (updRegs u f s).tst = s.tst := rfl
@[simp] theorem updRegs_ple (u : Nat) (f : VeRegs → VeRegs) (s : State) : (updRegs u f s).ple = s.ple := rfl
@[simp] theorem updRegs_lpd (u : Nat) (f : VeRegs → VeRegs) (s : State) : (updRegs u f s).lpd = s.lpd := rfl
@[simp] theorem updRegs_deep (u : Nat) (f : VeRegs → VeRegs) (s : State) : (updRegs u f s).deep = s.deep := rfl
@[simp] theorem updRegs_fab (u : Nat) (f : VeRegs → VeRegs) (s : State) : (updRegs u f s).fab = s.fab := rfl
@[simp] theorem updRegs_rdx (u : Nat) (f : VeRegs → VeRegs) (s : State) : (updRegs u f s).rdx = s.rdx := rfl
@[simp] theorem updRegs_orbit (u : Nat) (f : VeRegs → VeRegs) (s : State) : (updRegs u f s).orbit = s.orbit := rfl
@[simp] theorem updRegs_host (u : Nat) (f : VeRegs → VeRegs) (s : State) : (updRegs u f s).host = s.host := rfl
@[simp] theorem updRegs_kpr (u : Nat) (f : VeRegs → VeRegs) (s : State) : (updRegs u f s).kpr = s.kpr := rfl
@[simp] theorem updRegs_lnt (u : Nat) (f : VeRegs → VeRegs) (s : State) : (updRegs u f s).lnt = s.lnt := rfl
@[simp] theorem updRegs_nor (u : Nat) (f : VeRegs → VeRegs) (s : State) : (updRegs u f s).nor = s.nor := rfl
@[simp] theorem updRegs_env (u : Nat) (f : VeRegs → VeRegs) (s : State) : (updRegs u f s).env = s.env := rfl
@[simp] theorem updRegs_out (u : Nat) (f : VeRegs → VeRegs) (s : State) : (updRegs u f s).out = s.out := rfl
@[simp] theorem updRegs_freeCount (u : Nat) (f : VeRegs → VeRegs) (s : State) : (updRegs u f s).freeCount = s.freeCount := rfl
@[simp] theorem updRegs_pending (u : Nat) (f : VeRegs → VeRegs) (s : State) : (updRegs u f s).pending = s.pending := rfl

/-! `updAe`: one attention engine. -/

@[simp] theorem updAe_glb (die : Nat) (f : SeqUnit → SeqUnit) (s : State) : (updAe die f s).glb = s.glb := rfl
@[simp] theorem updAe_ev (die : Nat) (f : SeqUnit → SeqUnit) (s : State) : (updAe die f s).ev = s.ev := rfl
@[simp] theorem updAe_beam (die : Nat) (f : SeqUnit → SeqUnit) (s : State) : (updAe die f s).beam = s.beam := rfl
@[simp] theorem updAe_img (die : Nat) (f : SeqUnit → SeqUnit) (s : State) : (updAe die f s).img = s.img := rfl
@[simp] theorem updAe_live (die : Nat) (f : SeqUnit → SeqUnit) (s : State) : (updAe die f s).live = s.live := rfl
@[simp] theorem updAe_shadow (die : Nat) (f : SeqUnit → SeqUnit) (s : State) : (updAe die f s).shadow = s.shadow := rfl
@[simp] theorem updAe_num (die : Nat) (f : SeqUnit → SeqUnit) (s : State) : (updAe die f s).num = s.num := rfl
@[simp] theorem updAe_me (die : Nat) (f : SeqUnit → SeqUnit) (s : State) : (updAe die f s).me = s.me := rfl
@[simp] theorem updAe_ve (die : Nat) (f : SeqUnit → SeqUnit) (s : State) : (updAe die f s).ve = s.ve := rfl
@[simp] theorem updAe_gse (die : Nat) (f : SeqUnit → SeqUnit) (s : State) : (updAe die f s).gse = s.gse := rfl
@[simp] theorem updAe_lye (die : Nat) (f : SeqUnit → SeqUnit) (s : State) : (updAe die f s).lye = s.lye := rfl
@[simp] theorem updAe_tst (die : Nat) (f : SeqUnit → SeqUnit) (s : State) : (updAe die f s).tst = s.tst := rfl
@[simp] theorem updAe_ple (die : Nat) (f : SeqUnit → SeqUnit) (s : State) : (updAe die f s).ple = s.ple := rfl
@[simp] theorem updAe_lpd (die : Nat) (f : SeqUnit → SeqUnit) (s : State) : (updAe die f s).lpd = s.lpd := rfl
@[simp] theorem updAe_deep (die : Nat) (f : SeqUnit → SeqUnit) (s : State) : (updAe die f s).deep = s.deep := rfl
@[simp] theorem updAe_fab (die : Nat) (f : SeqUnit → SeqUnit) (s : State) : (updAe die f s).fab = s.fab := rfl
@[simp] theorem updAe_rdx (die : Nat) (f : SeqUnit → SeqUnit) (s : State) : (updAe die f s).rdx = s.rdx := rfl
@[simp] theorem updAe_orbit (die : Nat) (f : SeqUnit → SeqUnit) (s : State) : (updAe die f s).orbit = s.orbit := rfl
@[simp] theorem updAe_host (die : Nat) (f : SeqUnit → SeqUnit) (s : State) : (updAe die f s).host = s.host := rfl
@[simp] theorem updAe_kpr (die : Nat) (f : SeqUnit → SeqUnit) (s : State) : (updAe die f s).kpr = s.kpr := rfl
@[simp] theorem updAe_lnt (die : Nat) (f : SeqUnit → SeqUnit) (s : State) : (updAe die f s).lnt = s.lnt := rfl
@[simp] theorem updAe_nor (die : Nat) (f : SeqUnit → SeqUnit) (s : State) : (updAe die f s).nor = s.nor := rfl
@[simp] theorem updAe_env (die : Nat) (f : SeqUnit → SeqUnit) (s : State) : (updAe die f s).env = s.env := rfl
@[simp] theorem updAe_out (die : Nat) (f : SeqUnit → SeqUnit) (s : State) : (updAe die f s).out = s.out := rfl
@[simp] theorem updAe_freeCount (die : Nat) (f : SeqUnit → SeqUnit) (s : State) : (updAe die f s).freeCount = s.freeCount := rfl
@[simp] theorem updAe_pending (die : Nat) (f : SeqUnit → SeqUnit) (s : State) : (updAe die f s).pending = s.pending := rfl

/-! `updGse`: one gather-scatter engine. -/

@[simp] theorem updGse_glb (die : Nat) (f : SeqUnit → SeqUnit) (s : State) : (updGse die f s).glb = s.glb := rfl
@[simp] theorem updGse_ev (die : Nat) (f : SeqUnit → SeqUnit) (s : State) : (updGse die f s).ev = s.ev := rfl
@[simp] theorem updGse_beam (die : Nat) (f : SeqUnit → SeqUnit) (s : State) : (updGse die f s).beam = s.beam := rfl
@[simp] theorem updGse_img (die : Nat) (f : SeqUnit → SeqUnit) (s : State) : (updGse die f s).img = s.img := rfl
@[simp] theorem updGse_live (die : Nat) (f : SeqUnit → SeqUnit) (s : State) : (updGse die f s).live = s.live := rfl
@[simp] theorem updGse_shadow (die : Nat) (f : SeqUnit → SeqUnit) (s : State) : (updGse die f s).shadow = s.shadow := rfl
@[simp] theorem updGse_num (die : Nat) (f : SeqUnit → SeqUnit) (s : State) : (updGse die f s).num = s.num := rfl
@[simp] theorem updGse_me (die : Nat) (f : SeqUnit → SeqUnit) (s : State) : (updGse die f s).me = s.me := rfl
@[simp] theorem updGse_ve (die : Nat) (f : SeqUnit → SeqUnit) (s : State) : (updGse die f s).ve = s.ve := rfl
@[simp] theorem updGse_ae (die : Nat) (f : SeqUnit → SeqUnit) (s : State) : (updGse die f s).ae = s.ae := rfl
@[simp] theorem updGse_lye (die : Nat) (f : SeqUnit → SeqUnit) (s : State) : (updGse die f s).lye = s.lye := rfl
@[simp] theorem updGse_tst (die : Nat) (f : SeqUnit → SeqUnit) (s : State) : (updGse die f s).tst = s.tst := rfl
@[simp] theorem updGse_ple (die : Nat) (f : SeqUnit → SeqUnit) (s : State) : (updGse die f s).ple = s.ple := rfl
@[simp] theorem updGse_lpd (die : Nat) (f : SeqUnit → SeqUnit) (s : State) : (updGse die f s).lpd = s.lpd := rfl
@[simp] theorem updGse_deep (die : Nat) (f : SeqUnit → SeqUnit) (s : State) : (updGse die f s).deep = s.deep := rfl
@[simp] theorem updGse_fab (die : Nat) (f : SeqUnit → SeqUnit) (s : State) : (updGse die f s).fab = s.fab := rfl
@[simp] theorem updGse_rdx (die : Nat) (f : SeqUnit → SeqUnit) (s : State) : (updGse die f s).rdx = s.rdx := rfl
@[simp] theorem updGse_orbit (die : Nat) (f : SeqUnit → SeqUnit) (s : State) : (updGse die f s).orbit = s.orbit := rfl
@[simp] theorem updGse_host (die : Nat) (f : SeqUnit → SeqUnit) (s : State) : (updGse die f s).host = s.host := rfl
@[simp] theorem updGse_kpr (die : Nat) (f : SeqUnit → SeqUnit) (s : State) : (updGse die f s).kpr = s.kpr := rfl
@[simp] theorem updGse_lnt (die : Nat) (f : SeqUnit → SeqUnit) (s : State) : (updGse die f s).lnt = s.lnt := rfl
@[simp] theorem updGse_nor (die : Nat) (f : SeqUnit → SeqUnit) (s : State) : (updGse die f s).nor = s.nor := rfl
@[simp] theorem updGse_env (die : Nat) (f : SeqUnit → SeqUnit) (s : State) : (updGse die f s).env = s.env := rfl
@[simp] theorem updGse_out (die : Nat) (f : SeqUnit → SeqUnit) (s : State) : (updGse die f s).out = s.out := rfl
@[simp] theorem updGse_freeCount (die : Nat) (f : SeqUnit → SeqUnit) (s : State) : (updGse die f s).freeCount = s.freeCount := rfl
@[simp] theorem updGse_pending (die : Nat) (f : SeqUnit → SeqUnit) (s : State) : (updGse die f s).pending = s.pending := rfl

/-! `updLye`: one layout engine. -/

@[simp] theorem updLye_glb (die : Nat) (f : SeqUnit → SeqUnit) (s : State) : (updLye die f s).glb = s.glb := rfl
@[simp] theorem updLye_ev (die : Nat) (f : SeqUnit → SeqUnit) (s : State) : (updLye die f s).ev = s.ev := rfl
@[simp] theorem updLye_beam (die : Nat) (f : SeqUnit → SeqUnit) (s : State) : (updLye die f s).beam = s.beam := rfl
@[simp] theorem updLye_img (die : Nat) (f : SeqUnit → SeqUnit) (s : State) : (updLye die f s).img = s.img := rfl
@[simp] theorem updLye_live (die : Nat) (f : SeqUnit → SeqUnit) (s : State) : (updLye die f s).live = s.live := rfl
@[simp] theorem updLye_shadow (die : Nat) (f : SeqUnit → SeqUnit) (s : State) : (updLye die f s).shadow = s.shadow := rfl
@[simp] theorem updLye_num (die : Nat) (f : SeqUnit → SeqUnit) (s : State) : (updLye die f s).num = s.num := rfl
@[simp] theorem updLye_me (die : Nat) (f : SeqUnit → SeqUnit) (s : State) : (updLye die f s).me = s.me := rfl
@[simp] theorem updLye_ve (die : Nat) (f : SeqUnit → SeqUnit) (s : State) : (updLye die f s).ve = s.ve := rfl
@[simp] theorem updLye_ae (die : Nat) (f : SeqUnit → SeqUnit) (s : State) : (updLye die f s).ae = s.ae := rfl
@[simp] theorem updLye_gse (die : Nat) (f : SeqUnit → SeqUnit) (s : State) : (updLye die f s).gse = s.gse := rfl
@[simp] theorem updLye_tst (die : Nat) (f : SeqUnit → SeqUnit) (s : State) : (updLye die f s).tst = s.tst := rfl
@[simp] theorem updLye_ple (die : Nat) (f : SeqUnit → SeqUnit) (s : State) : (updLye die f s).ple = s.ple := rfl
@[simp] theorem updLye_lpd (die : Nat) (f : SeqUnit → SeqUnit) (s : State) : (updLye die f s).lpd = s.lpd := rfl
@[simp] theorem updLye_deep (die : Nat) (f : SeqUnit → SeqUnit) (s : State) : (updLye die f s).deep = s.deep := rfl
@[simp] theorem updLye_fab (die : Nat) (f : SeqUnit → SeqUnit) (s : State) : (updLye die f s).fab = s.fab := rfl
@[simp] theorem updLye_rdx (die : Nat) (f : SeqUnit → SeqUnit) (s : State) : (updLye die f s).rdx = s.rdx := rfl
@[simp] theorem updLye_orbit (die : Nat) (f : SeqUnit → SeqUnit) (s : State) : (updLye die f s).orbit = s.orbit := rfl
@[simp] theorem updLye_host (die : Nat) (f : SeqUnit → SeqUnit) (s : State) : (updLye die f s).host = s.host := rfl
@[simp] theorem updLye_kpr (die : Nat) (f : SeqUnit → SeqUnit) (s : State) : (updLye die f s).kpr = s.kpr := rfl
@[simp] theorem updLye_lnt (die : Nat) (f : SeqUnit → SeqUnit) (s : State) : (updLye die f s).lnt = s.lnt := rfl
@[simp] theorem updLye_nor (die : Nat) (f : SeqUnit → SeqUnit) (s : State) : (updLye die f s).nor = s.nor := rfl
@[simp] theorem updLye_env (die : Nat) (f : SeqUnit → SeqUnit) (s : State) : (updLye die f s).env = s.env := rfl
@[simp] theorem updLye_out (die : Nat) (f : SeqUnit → SeqUnit) (s : State) : (updLye die f s).out = s.out := rfl
@[simp] theorem updLye_freeCount (die : Nat) (f : SeqUnit → SeqUnit) (s : State) : (updLye die f s).freeCount = s.freeCount := rfl
@[simp] theorem updLye_pending (die : Nat) (f : SeqUnit → SeqUnit) (s : State) : (updLye die f s).pending = s.pending := rfl

/-! `updCe`: one copy engine. -/

@[simp] theorem updCe_glb (u : Nat) (f : CopyUnit → CopyUnit) (s : State) : (updCe u f s).glb = s.glb := rfl
@[simp] theorem updCe_ev (u : Nat) (f : CopyUnit → CopyUnit) (s : State) : (updCe u f s).ev = s.ev := rfl
@[simp] theorem updCe_beam (u : Nat) (f : CopyUnit → CopyUnit) (s : State) : (updCe u f s).beam = s.beam := rfl
@[simp] theorem updCe_img (u : Nat) (f : CopyUnit → CopyUnit) (s : State) : (updCe u f s).img = s.img := rfl
@[simp] theorem updCe_live (u : Nat) (f : CopyUnit → CopyUnit) (s : State) : (updCe u f s).live = s.live := rfl
@[simp] theorem updCe_shadow (u : Nat) (f : CopyUnit → CopyUnit) (s : State) : (updCe u f s).shadow = s.shadow := rfl
@[simp] theorem updCe_num (u : Nat) (f : CopyUnit → CopyUnit) (s : State) : (updCe u f s).num = s.num := rfl
@[simp] theorem updCe_me (u : Nat) (f : CopyUnit → CopyUnit) (s : State) : (updCe u f s).me = s.me := rfl
@[simp] theorem updCe_ve (u : Nat) (f : CopyUnit → CopyUnit) (s : State) : (updCe u f s).ve = s.ve := rfl
@[simp] theorem updCe_ae (u : Nat) (f : CopyUnit → CopyUnit) (s : State) : (updCe u f s).ae = s.ae := rfl
@[simp] theorem updCe_gse (u : Nat) (f : CopyUnit → CopyUnit) (s : State) : (updCe u f s).gse = s.gse := rfl
@[simp] theorem updCe_lye (u : Nat) (f : CopyUnit → CopyUnit) (s : State) : (updCe u f s).lye = s.lye := rfl
@[simp] theorem updCe_tst (u : Nat) (f : CopyUnit → CopyUnit) (s : State) : (updCe u f s).tst = s.tst := rfl
@[simp] theorem updCe_ple (u : Nat) (f : CopyUnit → CopyUnit) (s : State) : (updCe u f s).ple = s.ple := rfl
@[simp] theorem updCe_lpd (u : Nat) (f : CopyUnit → CopyUnit) (s : State) : (updCe u f s).lpd = s.lpd := rfl
@[simp] theorem updCe_deep (u : Nat) (f : CopyUnit → CopyUnit) (s : State) : (updCe u f s).deep = s.deep := rfl
@[simp] theorem updCe_fab (u : Nat) (f : CopyUnit → CopyUnit) (s : State) : (updCe u f s).fab = s.fab := rfl
@[simp] theorem updCe_rdx (u : Nat) (f : CopyUnit → CopyUnit) (s : State) : (updCe u f s).rdx = s.rdx := rfl
@[simp] theorem updCe_orbit (u : Nat) (f : CopyUnit → CopyUnit) (s : State) : (updCe u f s).orbit = s.orbit := rfl
@[simp] theorem updCe_kpr (u : Nat) (f : CopyUnit → CopyUnit) (s : State) : (updCe u f s).kpr = s.kpr := rfl
@[simp] theorem updCe_lnt (u : Nat) (f : CopyUnit → CopyUnit) (s : State) : (updCe u f s).lnt = s.lnt := rfl
@[simp] theorem updCe_nor (u : Nat) (f : CopyUnit → CopyUnit) (s : State) : (updCe u f s).nor = s.nor := rfl
@[simp] theorem updCe_env (u : Nat) (f : CopyUnit → CopyUnit) (s : State) : (updCe u f s).env = s.env := rfl
@[simp] theorem updCe_out (u : Nat) (f : CopyUnit → CopyUnit) (s : State) : (updCe u f s).out = s.out := rfl
@[simp] theorem updCe_freeCount (u : Nat) (f : CopyUnit → CopyUnit) (s : State) : (updCe u f s).freeCount = s.freeCount := rfl
@[simp] theorem updCe_pending (u : Nat) (f : CopyUnit → CopyUnit) (s : State) : (updCe u f s).pending = s.pending := rfl

/-! `setCredit`: the write credit and its copy in the serial NOR. -/

@[simp] theorem setCredit_glb (c : Int) (s : State) : (setCredit c s).glb = s.glb := rfl
@[simp] theorem setCredit_ev (c : Int) (s : State) : (setCredit c s).ev = s.ev := rfl
@[simp] theorem setCredit_beam (c : Int) (s : State) : (setCredit c s).beam = s.beam := rfl
@[simp] theorem setCredit_img (c : Int) (s : State) : (setCredit c s).img = s.img := rfl
@[simp] theorem setCredit_live (c : Int) (s : State) : (setCredit c s).live = s.live := rfl
@[simp] theorem setCredit_shadow (c : Int) (s : State) : (setCredit c s).shadow = s.shadow := rfl
@[simp] theorem setCredit_num (c : Int) (s : State) : (setCredit c s).num = s.num := rfl
@[simp] theorem setCredit_me (c : Int) (s : State) : (setCredit c s).me = s.me := rfl
@[simp] theorem setCredit_ve (c : Int) (s : State) : (setCredit c s).ve = s.ve := rfl
@[simp] theorem setCredit_ae (c : Int) (s : State) : (setCredit c s).ae = s.ae := rfl
@[simp] theorem setCredit_gse (c : Int) (s : State) : (setCredit c s).gse = s.gse := rfl
@[simp] theorem setCredit_lye (c : Int) (s : State) : (setCredit c s).lye = s.lye := rfl
@[simp] theorem setCredit_tst (c : Int) (s : State) : (setCredit c s).tst = s.tst := rfl
@[simp] theorem setCredit_ple (c : Int) (s : State) : (setCredit c s).ple = s.ple := rfl
@[simp] theorem setCredit_lpd (c : Int) (s : State) : (setCredit c s).lpd = s.lpd := rfl
@[simp] theorem setCredit_fab (c : Int) (s : State) : (setCredit c s).fab = s.fab := rfl
@[simp] theorem setCredit_rdx (c : Int) (s : State) : (setCredit c s).rdx = s.rdx := rfl
@[simp] theorem setCredit_orbit (c : Int) (s : State) : (setCredit c s).orbit = s.orbit := rfl
@[simp] theorem setCredit_host (c : Int) (s : State) : (setCredit c s).host = s.host := rfl
@[simp] theorem setCredit_kpr (c : Int) (s : State) : (setCredit c s).kpr = s.kpr := rfl
@[simp] theorem setCredit_lnt (c : Int) (s : State) : (setCredit c s).lnt = s.lnt := rfl
@[simp] theorem setCredit_nor (c : Int) (s : State) : (setCredit c s).nor = s.nor := rfl
@[simp] theorem setCredit_env (c : Int) (s : State) : (setCredit c s).env = s.env := rfl
@[simp] theorem setCredit_out (c : Int) (s : State) : (setCredit c s).out = s.out := rfl
@[simp] theorem setCredit_freeCount (c : Int) (s : State) : (setCredit c s).freeCount = s.freeCount := rfl
@[simp] theorem setCredit_pending (c : Int) (s : State) : (setCredit c s).pending = s.pending := rfl

/-! `setCount`: the tick count. -/

@[simp] theorem setCount_glb (n : Nat) (s : State) : (setCount n s).glb = s.glb := rfl
@[simp] theorem setCount_ev (n : Nat) (s : State) : (setCount n s).ev = s.ev := rfl
@[simp] theorem setCount_img (n : Nat) (s : State) : (setCount n s).img = s.img := rfl
@[simp] theorem setCount_live (n : Nat) (s : State) : (setCount n s).live = s.live := rfl
@[simp] theorem setCount_shadow (n : Nat) (s : State) : (setCount n s).shadow = s.shadow := rfl
@[simp] theorem setCount_num (n : Nat) (s : State) : (setCount n s).num = s.num := rfl
@[simp] theorem setCount_me (n : Nat) (s : State) : (setCount n s).me = s.me := rfl
@[simp] theorem setCount_ve (n : Nat) (s : State) : (setCount n s).ve = s.ve := rfl
@[simp] theorem setCount_ae (n : Nat) (s : State) : (setCount n s).ae = s.ae := rfl
@[simp] theorem setCount_gse (n : Nat) (s : State) : (setCount n s).gse = s.gse := rfl
@[simp] theorem setCount_lye (n : Nat) (s : State) : (setCount n s).lye = s.lye := rfl
@[simp] theorem setCount_tst (n : Nat) (s : State) : (setCount n s).tst = s.tst := rfl
@[simp] theorem setCount_ple (n : Nat) (s : State) : (setCount n s).ple = s.ple := rfl
@[simp] theorem setCount_lpd (n : Nat) (s : State) : (setCount n s).lpd = s.lpd := rfl
@[simp] theorem setCount_deep (n : Nat) (s : State) : (setCount n s).deep = s.deep := rfl
@[simp] theorem setCount_fab (n : Nat) (s : State) : (setCount n s).fab = s.fab := rfl
@[simp] theorem setCount_rdx (n : Nat) (s : State) : (setCount n s).rdx = s.rdx := rfl
@[simp] theorem setCount_orbit (n : Nat) (s : State) : (setCount n s).orbit = s.orbit := rfl
@[simp] theorem setCount_host (n : Nat) (s : State) : (setCount n s).host = s.host := rfl
@[simp] theorem setCount_kpr (n : Nat) (s : State) : (setCount n s).kpr = s.kpr := rfl
@[simp] theorem setCount_lnt (n : Nat) (s : State) : (setCount n s).lnt = s.lnt := rfl
@[simp] theorem setCount_nor (n : Nat) (s : State) : (setCount n s).nor = s.nor := rfl
@[simp] theorem setCount_env (n : Nat) (s : State) : (setCount n s).env = s.env := rfl
@[simp] theorem setCount_out (n : Nat) (s : State) : (setCount n s).out = s.out := rfl
@[simp] theorem setCount_freeCount (n : Nat) (s : State) : (setCount n s).freeCount = s.freeCount := rfl
@[simp] theorem setCount_pending (n : Nat) (s : State) : (setCount n s).pending = s.pending := rfl

/-! `noteImgEvent`: LAST_EVENT. -/

@[simp] theorem noteImgEvent_glb (code : Nat) (s : State) : (noteImgEvent code s).glb = s.glb := rfl
@[simp] theorem noteImgEvent_ev (code : Nat) (s : State) : (noteImgEvent code s).ev = s.ev := rfl
@[simp] theorem noteImgEvent_beam (code : Nat) (s : State) : (noteImgEvent code s).beam = s.beam := rfl
@[simp] theorem noteImgEvent_live (code : Nat) (s : State) : (noteImgEvent code s).live = s.live := rfl
@[simp] theorem noteImgEvent_shadow (code : Nat) (s : State) : (noteImgEvent code s).shadow = s.shadow := rfl
@[simp] theorem noteImgEvent_num (code : Nat) (s : State) : (noteImgEvent code s).num = s.num := rfl
@[simp] theorem noteImgEvent_me (code : Nat) (s : State) : (noteImgEvent code s).me = s.me := rfl
@[simp] theorem noteImgEvent_ve (code : Nat) (s : State) : (noteImgEvent code s).ve = s.ve := rfl
@[simp] theorem noteImgEvent_ae (code : Nat) (s : State) : (noteImgEvent code s).ae = s.ae := rfl
@[simp] theorem noteImgEvent_gse (code : Nat) (s : State) : (noteImgEvent code s).gse = s.gse := rfl
@[simp] theorem noteImgEvent_lye (code : Nat) (s : State) : (noteImgEvent code s).lye = s.lye := rfl
@[simp] theorem noteImgEvent_tst (code : Nat) (s : State) : (noteImgEvent code s).tst = s.tst := rfl
@[simp] theorem noteImgEvent_ple (code : Nat) (s : State) : (noteImgEvent code s).ple = s.ple := rfl
@[simp] theorem noteImgEvent_lpd (code : Nat) (s : State) : (noteImgEvent code s).lpd = s.lpd := rfl
@[simp] theorem noteImgEvent_deep (code : Nat) (s : State) : (noteImgEvent code s).deep = s.deep := rfl
@[simp] theorem noteImgEvent_fab (code : Nat) (s : State) : (noteImgEvent code s).fab = s.fab := rfl
@[simp] theorem noteImgEvent_rdx (code : Nat) (s : State) : (noteImgEvent code s).rdx = s.rdx := rfl
@[simp] theorem noteImgEvent_orbit (code : Nat) (s : State) : (noteImgEvent code s).orbit = s.orbit := rfl
@[simp] theorem noteImgEvent_host (code : Nat) (s : State) : (noteImgEvent code s).host = s.host := rfl
@[simp] theorem noteImgEvent_kpr (code : Nat) (s : State) : (noteImgEvent code s).kpr = s.kpr := rfl
@[simp] theorem noteImgEvent_lnt (code : Nat) (s : State) : (noteImgEvent code s).lnt = s.lnt := rfl
@[simp] theorem noteImgEvent_nor (code : Nat) (s : State) : (noteImgEvent code s).nor = s.nor := rfl
@[simp] theorem noteImgEvent_env (code : Nat) (s : State) : (noteImgEvent code s).env = s.env := rfl
@[simp] theorem noteImgEvent_out (code : Nat) (s : State) : (noteImgEvent code s).out = s.out := rfl
@[simp] theorem noteImgEvent_freeCount (code : Nat) (s : State) : (noteImgEvent code s).freeCount = s.freeCount := rfl
@[simp] theorem noteImgEvent_pending (code : Nat) (s : State) : (noteImgEvent code s).pending = s.pending := rfl

/-! `emptyStage`: the staged set and the shadow copies. -/

@[simp] theorem emptyStage_glb (s : State) : (emptyStage s).glb = s.glb := rfl
@[simp] theorem emptyStage_ev (s : State) : (emptyStage s).ev = s.ev := rfl
@[simp] theorem emptyStage_beam (s : State) : (emptyStage s).beam = s.beam := rfl
@[simp] theorem emptyStage_live (s : State) : (emptyStage s).live = s.live := rfl
@[simp] theorem emptyStage_num (s : State) : (emptyStage s).num = s.num := rfl
@[simp] theorem emptyStage_me (s : State) : (emptyStage s).me = s.me := rfl
@[simp] theorem emptyStage_ve (s : State) : (emptyStage s).ve = s.ve := rfl
@[simp] theorem emptyStage_ae (s : State) : (emptyStage s).ae = s.ae := rfl
@[simp] theorem emptyStage_gse (s : State) : (emptyStage s).gse = s.gse := rfl
@[simp] theorem emptyStage_lye (s : State) : (emptyStage s).lye = s.lye := rfl
@[simp] theorem emptyStage_tst (s : State) : (emptyStage s).tst = s.tst := rfl
@[simp] theorem emptyStage_ple (s : State) : (emptyStage s).ple = s.ple := rfl
@[simp] theorem emptyStage_lpd (s : State) : (emptyStage s).lpd = s.lpd := rfl
@[simp] theorem emptyStage_deep (s : State) : (emptyStage s).deep = s.deep := rfl
@[simp] theorem emptyStage_fab (s : State) : (emptyStage s).fab = s.fab := rfl
@[simp] theorem emptyStage_rdx (s : State) : (emptyStage s).rdx = s.rdx := rfl
@[simp] theorem emptyStage_orbit (s : State) : (emptyStage s).orbit = s.orbit := rfl
@[simp] theorem emptyStage_host (s : State) : (emptyStage s).host = s.host := rfl
@[simp] theorem emptyStage_kpr (s : State) : (emptyStage s).kpr = s.kpr := rfl
@[simp] theorem emptyStage_lnt (s : State) : (emptyStage s).lnt = s.lnt := rfl
@[simp] theorem emptyStage_nor (s : State) : (emptyStage s).nor = s.nor := rfl
@[simp] theorem emptyStage_env (s : State) : (emptyStage s).env = s.env := rfl
@[simp] theorem emptyStage_out (s : State) : (emptyStage s).out = s.out := rfl
@[simp] theorem emptyStage_freeCount (s : State) : (emptyStage s).freeCount = s.freeCount := rfl
@[simp] theorem emptyStage_pending (s : State) : (emptyStage s).pending = s.pending := rfl

/-! `dropRestore`: the restore in progress. -/

@[simp] theorem dropRestore_glb (s : State) : (dropRestore s).glb = s.glb := rfl
@[simp] theorem dropRestore_ev (s : State) : (dropRestore s).ev = s.ev := rfl
@[simp] theorem dropRestore_beam (s : State) : (dropRestore s).beam = s.beam := rfl
@[simp] theorem dropRestore_img (s : State) : (dropRestore s).img = s.img := rfl
@[simp] theorem dropRestore_live (s : State) : (dropRestore s).live = s.live := rfl
@[simp] theorem dropRestore_shadow (s : State) : (dropRestore s).shadow = s.shadow := rfl
@[simp] theorem dropRestore_num (s : State) : (dropRestore s).num = s.num := rfl
@[simp] theorem dropRestore_me (s : State) : (dropRestore s).me = s.me := rfl
@[simp] theorem dropRestore_ve (s : State) : (dropRestore s).ve = s.ve := rfl
@[simp] theorem dropRestore_ae (s : State) : (dropRestore s).ae = s.ae := rfl
@[simp] theorem dropRestore_gse (s : State) : (dropRestore s).gse = s.gse := rfl
@[simp] theorem dropRestore_lye (s : State) : (dropRestore s).lye = s.lye := rfl
@[simp] theorem dropRestore_tst (s : State) : (dropRestore s).tst = s.tst := rfl
@[simp] theorem dropRestore_ple (s : State) : (dropRestore s).ple = s.ple := rfl
@[simp] theorem dropRestore_lpd (s : State) : (dropRestore s).lpd = s.lpd := rfl
@[simp] theorem dropRestore_deep (s : State) : (dropRestore s).deep = s.deep := rfl
@[simp] theorem dropRestore_fab (s : State) : (dropRestore s).fab = s.fab := rfl
@[simp] theorem dropRestore_rdx (s : State) : (dropRestore s).rdx = s.rdx := rfl
@[simp] theorem dropRestore_host (s : State) : (dropRestore s).host = s.host := rfl
@[simp] theorem dropRestore_kpr (s : State) : (dropRestore s).kpr = s.kpr := rfl
@[simp] theorem dropRestore_lnt (s : State) : (dropRestore s).lnt = s.lnt := rfl
@[simp] theorem dropRestore_nor (s : State) : (dropRestore s).nor = s.nor := rfl
@[simp] theorem dropRestore_env (s : State) : (dropRestore s).env = s.env := rfl
@[simp] theorem dropRestore_out (s : State) : (dropRestore s).out = s.out := rfl
@[simp] theorem dropRestore_freeCount (s : State) : (dropRestore s).freeCount = s.freeCount := rfl
@[simp] theorem dropRestore_pending (s : State) : (dropRestore s).pending = s.pending := rfl

/-! `unlockWindows`: the locked landing windows. -/

@[simp] theorem unlockWindows_glb (s : State) : (unlockWindows s).glb = s.glb := rfl
@[simp] theorem unlockWindows_ev (s : State) : (unlockWindows s).ev = s.ev := rfl
@[simp] theorem unlockWindows_beam (s : State) : (unlockWindows s).beam = s.beam := rfl
@[simp] theorem unlockWindows_img (s : State) : (unlockWindows s).img = s.img := rfl
@[simp] theorem unlockWindows_live (s : State) : (unlockWindows s).live = s.live := rfl
@[simp] theorem unlockWindows_shadow (s : State) : (unlockWindows s).shadow = s.shadow := rfl
@[simp] theorem unlockWindows_num (s : State) : (unlockWindows s).num = s.num := rfl
@[simp] theorem unlockWindows_me (s : State) : (unlockWindows s).me = s.me := rfl
@[simp] theorem unlockWindows_ve (s : State) : (unlockWindows s).ve = s.ve := rfl
@[simp] theorem unlockWindows_ae (s : State) : (unlockWindows s).ae = s.ae := rfl
@[simp] theorem unlockWindows_gse (s : State) : (unlockWindows s).gse = s.gse := rfl
@[simp] theorem unlockWindows_lye (s : State) : (unlockWindows s).lye = s.lye := rfl
@[simp] theorem unlockWindows_tst (s : State) : (unlockWindows s).tst = s.tst := rfl
@[simp] theorem unlockWindows_ple (s : State) : (unlockWindows s).ple = s.ple := rfl
@[simp] theorem unlockWindows_lpd (s : State) : (unlockWindows s).lpd = s.lpd := rfl
@[simp] theorem unlockWindows_deep (s : State) : (unlockWindows s).deep = s.deep := rfl
@[simp] theorem unlockWindows_fab (s : State) : (unlockWindows s).fab = s.fab := rfl
@[simp] theorem unlockWindows_rdx (s : State) : (unlockWindows s).rdx = s.rdx := rfl
@[simp] theorem unlockWindows_orbit (s : State) : (unlockWindows s).orbit = s.orbit := rfl
@[simp] theorem unlockWindows_kpr (s : State) : (unlockWindows s).kpr = s.kpr := rfl
@[simp] theorem unlockWindows_lnt (s : State) : (unlockWindows s).lnt = s.lnt := rfl
@[simp] theorem unlockWindows_nor (s : State) : (unlockWindows s).nor = s.nor := rfl
@[simp] theorem unlockWindows_env (s : State) : (unlockWindows s).env = s.env := rfl
@[simp] theorem unlockWindows_out (s : State) : (unlockWindows s).out = s.out := rfl
@[simp] theorem unlockWindows_freeCount (s : State) : (unlockWindows s).freeCount = s.freeCount := rfl
@[simp] theorem unlockWindows_pending (s : State) : (unlockWindows s).pending = s.pending := rfl

/-! `flushBuffers`: the write combining buffers. -/

@[simp] theorem flushBuffers_glb (s : State) : (flushBuffers s).glb = s.glb := by dsimp only [flushBuffers]
@[simp] theorem flushBuffers_ev (s : State) : (flushBuffers s).ev = s.ev := by dsimp only [flushBuffers]
@[simp] theorem flushBuffers_beam (s : State) : (flushBuffers s).beam = s.beam := by dsimp only [flushBuffers]
@[simp] theorem flushBuffers_img (s : State) : (flushBuffers s).img = s.img := by dsimp only [flushBuffers]
@[simp] theorem flushBuffers_live (s : State) : (flushBuffers s).live = s.live := by dsimp only [flushBuffers]
@[simp] theorem flushBuffers_shadow (s : State) : (flushBuffers s).shadow = s.shadow := by dsimp only [flushBuffers]
@[simp] theorem flushBuffers_num (s : State) : (flushBuffers s).num = s.num := by dsimp only [flushBuffers]
@[simp] theorem flushBuffers_me (s : State) : (flushBuffers s).me = s.me := by dsimp only [flushBuffers]
@[simp] theorem flushBuffers_ve (s : State) : (flushBuffers s).ve = s.ve := by dsimp only [flushBuffers]
@[simp] theorem flushBuffers_ae (s : State) : (flushBuffers s).ae = s.ae := by dsimp only [flushBuffers]
@[simp] theorem flushBuffers_gse (s : State) : (flushBuffers s).gse = s.gse := by dsimp only [flushBuffers]
@[simp] theorem flushBuffers_lye (s : State) : (flushBuffers s).lye = s.lye := by dsimp only [flushBuffers]
@[simp] theorem flushBuffers_tst (s : State) : (flushBuffers s).tst = s.tst := by dsimp only [flushBuffers]
@[simp] theorem flushBuffers_ple (s : State) : (flushBuffers s).ple = s.ple := by dsimp only [flushBuffers]
@[simp] theorem flushBuffers_deep (s : State) : (flushBuffers s).deep = s.deep := by dsimp only [flushBuffers]
@[simp] theorem flushBuffers_fab (s : State) : (flushBuffers s).fab = s.fab := by dsimp only [flushBuffers]
@[simp] theorem flushBuffers_rdx (s : State) : (flushBuffers s).rdx = s.rdx := by dsimp only [flushBuffers]
@[simp] theorem flushBuffers_orbit (s : State) : (flushBuffers s).orbit = s.orbit := by dsimp only [flushBuffers]
@[simp] theorem flushBuffers_host (s : State) : (flushBuffers s).host = s.host := by dsimp only [flushBuffers]
@[simp] theorem flushBuffers_kpr (s : State) : (flushBuffers s).kpr = s.kpr := by dsimp only [flushBuffers]
@[simp] theorem flushBuffers_lnt (s : State) : (flushBuffers s).lnt = s.lnt := by dsimp only [flushBuffers]
@[simp] theorem flushBuffers_nor (s : State) : (flushBuffers s).nor = s.nor := by dsimp only [flushBuffers]
@[simp] theorem flushBuffers_env (s : State) : (flushBuffers s).env = s.env := by dsimp only [flushBuffers]
@[simp] theorem flushBuffers_out (s : State) : (flushBuffers s).out = s.out := by dsimp only [flushBuffers]
@[simp] theorem flushBuffers_freeCount (s : State) : (flushBuffers s).freeCount = s.freeCount := by dsimp only [flushBuffers]
@[simp] theorem flushBuffers_pending (s : State) : (flushBuffers s).pending = s.pending := by dsimp only [flushBuffers]

/-! `zeroT1`: all of T1 written with zeros. -/

@[simp] theorem zeroT1_glb (s : State) : (zeroT1 s).glb = s.glb := rfl
@[simp] theorem zeroT1_ev (s : State) : (zeroT1 s).ev = s.ev := rfl
@[simp] theorem zeroT1_beam (s : State) : (zeroT1 s).beam = s.beam := rfl
@[simp] theorem zeroT1_img (s : State) : (zeroT1 s).img = s.img := rfl
@[simp] theorem zeroT1_live (s : State) : (zeroT1 s).live = s.live := rfl
@[simp] theorem zeroT1_shadow (s : State) : (zeroT1 s).shadow = s.shadow := rfl
@[simp] theorem zeroT1_num (s : State) : (zeroT1 s).num = s.num := rfl
@[simp] theorem zeroT1_me (s : State) : (zeroT1 s).me = s.me := rfl
@[simp] theorem zeroT1_ve (s : State) : (zeroT1 s).ve = s.ve := rfl
@[simp] theorem zeroT1_ae (s : State) : (zeroT1 s).ae = s.ae := rfl
@[simp] theorem zeroT1_gse (s : State) : (zeroT1 s).gse = s.gse := rfl
@[simp] theorem zeroT1_lye (s : State) : (zeroT1 s).lye = s.lye := rfl
@[simp] theorem zeroT1_tst (s : State) : (zeroT1 s).tst = s.tst := rfl
@[simp] theorem zeroT1_ple (s : State) : (zeroT1 s).ple = s.ple := rfl
@[simp] theorem zeroT1_deep (s : State) : (zeroT1 s).deep = s.deep := rfl
@[simp] theorem zeroT1_fab (s : State) : (zeroT1 s).fab = s.fab := rfl
@[simp] theorem zeroT1_rdx (s : State) : (zeroT1 s).rdx = s.rdx := rfl
@[simp] theorem zeroT1_orbit (s : State) : (zeroT1 s).orbit = s.orbit := rfl
@[simp] theorem zeroT1_host (s : State) : (zeroT1 s).host = s.host := rfl
@[simp] theorem zeroT1_kpr (s : State) : (zeroT1 s).kpr = s.kpr := rfl
@[simp] theorem zeroT1_lnt (s : State) : (zeroT1 s).lnt = s.lnt := rfl
@[simp] theorem zeroT1_nor (s : State) : (zeroT1 s).nor = s.nor := rfl
@[simp] theorem zeroT1_env (s : State) : (zeroT1 s).env = s.env := rfl
@[simp] theorem zeroT1_out (s : State) : (zeroT1 s).out = s.out := rfl
@[simp] theorem zeroT1_freeCount (s : State) : (zeroT1 s).freeCount = s.freeCount := rfl
@[simp] theorem zeroT1_pending (s : State) : (zeroT1 s).pending = s.pending := rfl

/-! `loseT1`: T1 lost, and a free value taken. -/

@[simp] theorem loseT1_glb (s : State) : (loseT1 s).glb = s.glb := rfl
@[simp] theorem loseT1_ev (s : State) : (loseT1 s).ev = s.ev := rfl
@[simp] theorem loseT1_beam (s : State) : (loseT1 s).beam = s.beam := rfl
@[simp] theorem loseT1_img (s : State) : (loseT1 s).img = s.img := rfl
@[simp] theorem loseT1_live (s : State) : (loseT1 s).live = s.live := rfl
@[simp] theorem loseT1_shadow (s : State) : (loseT1 s).shadow = s.shadow := rfl
@[simp] theorem loseT1_num (s : State) : (loseT1 s).num = s.num := rfl
@[simp] theorem loseT1_me (s : State) : (loseT1 s).me = s.me := rfl
@[simp] theorem loseT1_ve (s : State) : (loseT1 s).ve = s.ve := rfl
@[simp] theorem loseT1_ae (s : State) : (loseT1 s).ae = s.ae := rfl
@[simp] theorem loseT1_gse (s : State) : (loseT1 s).gse = s.gse := rfl
@[simp] theorem loseT1_lye (s : State) : (loseT1 s).lye = s.lye := rfl
@[simp] theorem loseT1_tst (s : State) : (loseT1 s).tst = s.tst := rfl
@[simp] theorem loseT1_ple (s : State) : (loseT1 s).ple = s.ple := rfl
@[simp] theorem loseT1_deep (s : State) : (loseT1 s).deep = s.deep := rfl
@[simp] theorem loseT1_fab (s : State) : (loseT1 s).fab = s.fab := rfl
@[simp] theorem loseT1_rdx (s : State) : (loseT1 s).rdx = s.rdx := rfl
@[simp] theorem loseT1_orbit (s : State) : (loseT1 s).orbit = s.orbit := rfl
@[simp] theorem loseT1_host (s : State) : (loseT1 s).host = s.host := rfl
@[simp] theorem loseT1_kpr (s : State) : (loseT1 s).kpr = s.kpr := rfl
@[simp] theorem loseT1_lnt (s : State) : (loseT1 s).lnt = s.lnt := rfl
@[simp] theorem loseT1_nor (s : State) : (loseT1 s).nor = s.nor := rfl
@[simp] theorem loseT1_env (s : State) : (loseT1 s).env = s.env := rfl
@[simp] theorem loseT1_out (s : State) : (loseT1 s).out = s.out := rfl
@[simp] theorem loseT1_pending (s : State) : (loseT1 s).pending = s.pending := rfl

/-! `clearStores`: the tile stores and accumulators cleared. -/

@[simp] theorem clearStores_glb (s : State) : (clearStores s).glb = s.glb := rfl
@[simp] theorem clearStores_ev (s : State) : (clearStores s).ev = s.ev := rfl
@[simp] theorem clearStores_beam (s : State) : (clearStores s).beam = s.beam := rfl
@[simp] theorem clearStores_img (s : State) : (clearStores s).img = s.img := rfl
@[simp] theorem clearStores_live (s : State) : (clearStores s).live = s.live := rfl
@[simp] theorem clearStores_shadow (s : State) : (clearStores s).shadow = s.shadow := rfl
@[simp] theorem clearStores_num (s : State) : (clearStores s).num = s.num := rfl
@[simp] theorem clearStores_ve (s : State) : (clearStores s).ve = s.ve := rfl
@[simp] theorem clearStores_ae (s : State) : (clearStores s).ae = s.ae := rfl
@[simp] theorem clearStores_gse (s : State) : (clearStores s).gse = s.gse := rfl
@[simp] theorem clearStores_lye (s : State) : (clearStores s).lye = s.lye := rfl
@[simp] theorem clearStores_ple (s : State) : (clearStores s).ple = s.ple := rfl
@[simp] theorem clearStores_lpd (s : State) : (clearStores s).lpd = s.lpd := rfl
@[simp] theorem clearStores_deep (s : State) : (clearStores s).deep = s.deep := rfl
@[simp] theorem clearStores_fab (s : State) : (clearStores s).fab = s.fab := rfl
@[simp] theorem clearStores_rdx (s : State) : (clearStores s).rdx = s.rdx := rfl
@[simp] theorem clearStores_orbit (s : State) : (clearStores s).orbit = s.orbit := rfl
@[simp] theorem clearStores_host (s : State) : (clearStores s).host = s.host := rfl
@[simp] theorem clearStores_kpr (s : State) : (clearStores s).kpr = s.kpr := rfl
@[simp] theorem clearStores_lnt (s : State) : (clearStores s).lnt = s.lnt := rfl
@[simp] theorem clearStores_nor (s : State) : (clearStores s).nor = s.nor := rfl
@[simp] theorem clearStores_env (s : State) : (clearStores s).env = s.env := rfl
@[simp] theorem clearStores_out (s : State) : (clearStores s).out = s.out := rfl
@[simp] theorem clearStores_freeCount (s : State) : (clearStores s).freeCount = s.freeCount := rfl
@[simp] theorem clearStores_pending (s : State) : (clearStores s).pending = s.pending := rfl

/-! ## Reading one entry after one update -/

@[simp] theorem linkOf_setLink_same (l : Nat) (k : Link) (s : State) : linkOf (setLink l k s) l = k := by simp [linkOf, setLink]
@[simp] theorem linkOf_setLink_other {l j : Nat} (k : Link) (s : State) (h : j ≠ l) : linkOf (setLink l k s) j = linkOf s j := by
  simp [linkOf, setLink, h]
@[simp] theorem linkOf_updLink_same (l : Nat) (f : Link → Link) (s : State) : linkOf (updLink l f s) l = f (linkOf s l) := by
  simp [updLink]
@[simp] theorem linkOf_updLink_other {l j : Nat} (f : Link → Link) (s : State) (h : j ≠ l) :
    linkOf (updLink l f s) j = linkOf s j := by simp [updLink, h]
@[simp] theorem tstOf_setTst_same (n : Nat) (x : TileStore) (s : State) : tstOf (setTst n x s) n = x := by simp [tstOf, setTst]
@[simp] theorem tstOf_setTst_other {n j : Nat} (x : TileStore) (s : State) (h : j ≠ n) : tstOf (setTst n x s) j = tstOf s j := by
  simp [tstOf, setTst, h]
@[simp] theorem tstOf_updTst_same (n : Nat) (f : TileStore → TileStore) (s : State) : tstOf (updTst n f s) n = f (tstOf s n) := by
  simp [updTst]
@[simp] theorem tstOf_updTst_other {n j : Nat} (f : TileStore → TileStore) (s : State) (h : j ≠ n) :
    tstOf (updTst n f s) j = tstOf s j := by simp [updTst, h]
@[simp] theorem buoyOf_setBuoy_same (id : Nat) (b : BuoyState) (s : State) : buoyOf (setBuoy id b s) id = b := by
  simp [buoyOf, setBuoy]
@[simp] theorem buoyOf_setBuoy_other {id j : Nat} (b : BuoyState) (s : State) (h : j ≠ id) :
    buoyOf (setBuoy id b s) j = buoyOf s j := by simp [buoyOf, setBuoy, h]
@[simp] theorem buoyOf_updBuoy_same (id : Nat) (f : BuoyState → BuoyState) (s : State) :
    buoyOf (updBuoy id f s) id = f (buoyOf s id) := by simp [updBuoy]
@[simp] theorem buoyOf_updBuoy_other {id j : Nat} (f : BuoyState → BuoyState) (s : State) (h : j ≠ id) :
    buoyOf (updBuoy id f s) j = buoyOf s j := by simp [updBuoy, h]

end Sys2Proof.Machine
end

