-- ==== Sys2Proof/Laws/Shared.lean ====
section
/-! SUPPORT. What the operations that many commands share can do: writes of registers, the passing of clocks, links, the ends of tasks, reads of
T1, and the taking up of a vector word. -/
namespace Sys2Proof.Machine
open Claims

/-! ## Register writes -/

/-- What a write holds beside its register's fields costs at most an event (R7). -/
theorem noteDiscard_frame (r : Reg) (v : Nat) (s : State) : UpToRecords s (noteDiscard r v s) := by
  unfold noteDiscard
  split
  · exact record_frame _ _ _
  · exact upToRecords_refl s

theorem noteDiscard_kept {r : Reg} {v : Nat} (h : writeRefused r.spec v = false) (s : State) : noteDiscard r v s = s := by
  simp [noteDiscard, h]

theorem noteDiscard_logged {r : Reg} {v : Nat} (h : writeRefused r.spec v = true) (s : State) : Logged 0x4001 [] s (noteDiscard r v s) := by
  simp only [noteDiscard, h, if_true]
  exact record_logged _ _ _

/-- A write that reaches its register. -/
theorem regWrite_open {p : Port} {r : Reg} {v : W64} {s : State} (h : Reaches p r v.toNat s) (old : State → Nat) (act : Nat → State → State) :
    regWrite p r v old act s = act (acceptFields r.spec.fields (old s) v.toNat) (noteDiscard r v.toNat s) := by
  unfold Reaches at h
  simp [regWrite, h]

/-- A write that does not reach its register costs at most an event or a NACK (R5, R547, R658). -/
theorem regWrite_kept {p : Port} {r : Reg} {v : W64} {s : State} (h : writePath p r v.toNat s ≠ .open) (old : State → Nat)
    (act : Nat → State → State) : UpToRecords s (regWrite p r v old act s) ∨ regWrite p r v old act s = { s with out := .nack :: s.out } := by
  unfold regWrite
  split
  · exact .inl (upToRecords_refl s)
  · exact .inr rfl
  · exact .inl (record_frame _ _ _)
  · rename_i e
    exact absurd e h

/-- A command that reaches its register and whose word the register takes whole. -/
theorem regCommand_open {p : Port} {r : Reg} {v : Nat} {s : State} (h : Reaches p r (w64 v).toNat s)
    (hr : writeRefused r.spec (w64 v).toNat = false) (act : State → State) : regCommand p r v act s = act s := by
  unfold regCommand
  rw [regWrite_open h, noteDiscard_kept hr]

/-! ## Links and time -/

/-- Only the links and what has left the module differ. -/
def OnlyLinks (s t : State) : Prop := t = { s with fab := { s.fab with links := t.fab.links }, out := t.out }

theorem onlyLinks_refl (s : State) : OnlyLinks s s := rfl

theorem onlyLinks_trans {s t u : State} (h : OnlyLinks s t) (k : OnlyLinks t u) : OnlyLinks s u := by
  unfold OnlyLinks at *
  rw [k, h]

theorem onlyLinks_foldl {α : Type} (f : State → α → State) (h : ∀ s a, OnlyLinks s (f s a)) (as : List α) (s : State) :
    OnlyLinks s (as.foldl f s) := by
  induction as generalizing s with
  | nil => exact onlyLinks_refl s
  | cons a as ih => exact onlyLinks_trans (h s a) (ih _)

theorem setLink_frame (l : Nat) (k : Link) (s : State) : OnlyLinks s (setLink l k s) := rfl

/-- A flit sent touches its link and the outputs alone (R442). -/
theorem sendFlit_frame (l : Nat) (f : Flit) (s : State) : OnlyLinks s (sendFlit l f s) := by
  unfold sendFlit
  dsimp only
  split <;> rfl

theorem sendFlits_frame (l : Nat) (fs : List Flit) (s : State) : OnlyLinks s (sendFlits l fs s) :=
  onlyLinks_foldl (fun s f => sendFlit l f s) (fun s f => sendFlit_frame l f s) fs s

/-- The control blocks that links send touch the links and the outputs alone (R434). -/
theorem passGroups_frame (n : Nat) (s : State) : OnlyLinks s (passGroups n s) := by
  unfold passGroups
  dsimp only
  split
  · exact onlyLinks_refl s
  · refine onlyLinks_foldl _ (fun t l => ?_) _ s
    split
    · rfl
    · exact onlyLinks_refl t

/-- Clocks pass: the offset, the age of the tick, Lantern's clock, the links and the outputs change, and nothing else (R47, R434, R611). -/
theorem passClocks_frame (n : Nat) (s : State) : passClocks n s = { s with
    beam := { s.beam with offset := s.beam.offset + n, sinceTick := s.beam.sinceTick + n }
    lnt := { s.lnt with rtc := s.lnt.rtc + BitVec.ofNat 64 ((s.lnt.rtcThirds + 2 * n) / 3), rtcThirds := (s.lnt.rtcThirds + 2 * n) % 3 }
    fab := { s.fab with links := (passClocks n s).fab.links }
    out := (passClocks n s).out } := by
  unfold passClocks
  dsimp only
  rw [passGroups_frame n s]

@[simp] theorem passClocks_offset (n : Nat) (s : State) : (passClocks n s).beam.offset = s.beam.offset + n := by rw [passClocks_frame]

/-- The clock goes to an offset, and no further than it or where it was. -/
theorem advanceTo_offset (off : Nat) (s : State) : (advanceTo off s).beam.offset = max off s.beam.offset := by
  unfold advanceTo
  split
  · rw [passClocks_offset]
    omega
  · omega

theorem advanceTo_frame (off : Nat) (s : State) : advanceTo off s = { s with
    beam := { s.beam with offset := (advanceTo off s).beam.offset, sinceTick := (advanceTo off s).beam.sinceTick }
    lnt := { s.lnt with rtc := (advanceTo off s).lnt.rtc, rtcThirds := (advanceTo off s).lnt.rtcThirds }
    fab := { s.fab with links := (advanceTo off s).fab.links }
    out := (advanceTo off s).out } := by
  unfold advanceTo
  split
  · rw [passClocks_frame]
  · rfl

/-! ## Messages -/

theorem takeMessage_own {m : Message} {s : State} (h : messageForUs m.hdr s = true) (link : Nat) (act : State → State) :
    takeMessage link m act s = act (forwardMessage link m s) := by
  simp [takeMessage, h]

theorem takeMessage_other {m : Message} {s : State} (h : messageForUs m.hdr s = false) (link : Nat) (act : State → State) :
    takeMessage link m act s = forwardMessage link m s := by
  simp [takeMessage, h]

/-! ## The end of a task (R71, R504) -/

theorem noteEnd_frame (who idx endAt : Nat) (s : State) : UpToRecords s (noteEnd who idx endAt s) := by
  unfold noteEnd
  split
  · exact record_frame _ _ _
  · exact upToRecords_refl s

theorem markDone_frame (le idx : Nat) (s : State) : markDone le idx s = { s with
    beam := { s.beam with done := (le, idx) :: s.beam.done }
    rdx := { s.rdx with complete := (markDone le idx s).rdx.complete } } := by
  unfold markDone
  dsimp only
  split
  · unfold noteComplete
    split <;> rfl
  · rfl

theorem finishTask_done (who le idx endAt : Nat) (s : State) : (le, idx) ∈ (finishTask who le idx endAt s).beam.done := by
  unfold finishTask
  rw [markDone_frame]
  exact List.mem_cons_self

/-- A task's end changes its place in the beam, the clock, the records and the complete bits, and nothing else. -/
theorem finishTask_frame (who le idx endAt : Nat) (s : State) : let t := finishTask who le idx endAt s
    t = { s with beam := t.beam, lnt := t.lnt, fab := t.fab, rdx := t.rdx, ev := t.ev, nor := t.nor, out := t.out } := by
  dsimp only
  unfold finishTask
  rw [markDone_frame, noteEnd_frame, advanceTo_frame]
  rfl

/-! ## Reads of T1 (R392) -/

/-- A read that meets no bad line: the bytes, poisoned where a unit has failed, and nothing changes. -/
theorem t1Read_good {s : State} {a n : Nat} (h : badLines s a n = []) (who : Nat) :
    t1Read who a n s = (⟨t1Bytes s.lpd a n, (linesOf a n).any (lineFailed s.lpd)⟩, s) := by
  simp [t1Read, h]

/-! ## Vector words (R244) -/

theorem vectorStep_at {u : Nat} {x : W64} {s : State} {i : Image} {t : RunTask} (ht : veTask s u = some (i, t))
    (h : programWord i t.task (veUnit s u).regs.pc = some x) (act : Image → RunTask → State → State) :
    vectorStep u x act s = act i t (atWordStart u s) := by
  unfold vectorStep
  rw [ht]
  simp only [h, beq_self_eq_true, if_true]
  rfl

theorem atWord_cases {s : State} {u : Nat} {x : W64} (h : atWord s u x = true) :
    ∃ i t, veTask s u = some (i, t) ∧ programWord i t.task (veUnit s u).regs.pc = some x := by
  unfold atWord at h
  cases ht : veTask s u with
  | none => simp [ht] at h
  | some p => exact ⟨p.1, p.2, rfl, by simpa [ht] using h⟩

theorem vectorStep_off {u : Nat} {x : W64} {s : State} (h : atWord s u x = false) (act : Image → RunTask → State → State) :
    vectorStep u x act s = s := by
  unfold atWord at h
  unfold vectorStep
  cases ht : veTask s u with
  | none => rfl
  | some p =>
    simp only [ht] at h
    simp only [h]
    rfl

/-- A word that changes registers alone, where the engine is at it. -/
theorem onRegs_at {u op : Nat} {w : VWord} {s : State} (h : atWord s u (VWord.encode (BitVec.ofNat 8 op) w) = true) (f : VeRegs → VeRegs) :
    onRegs u op w f s = updRegs u (fun r => nextWord (f r)) (atWordStart u s) := by
  obtain ⟨i, t, ht, hw⟩ := atWord_cases h
  unfold onRegs
  rw [vectorStep_at ht hw]

end Sys2Proof.Machine
end

