-- ==== Sys2Proof/Laws/Tiles.lean ====
section
/-! SUPPORT. Bytes and tiles: a number's bytes read back, and a tile that the device makes passes its CRC-32C (R3, R368). -/
namespace Sys2Proof

/-! ## Bytes of a number -/

@[simp] theorem leBytes_length (n v : Nat) : (leBytes n v).length = n := by
  induction n generalizing v with
  | zero => rfl
  | succ n ih => simp [leBytes, ih]

/-- A number's n bytes hold it modulo 256^n (R3). -/
theorem leNat_leBytes (n v : Nat) : leNat (leBytes n v) = v % 256 ^ n := by
  induction n generalizing v with
  | zero => simp [leBytes, leNat, Nat.mod_one]
  | succ n ih =>
    have h : (BitVec.ofNat 8 v).toNat = v % 256 := by simp
    rw [leBytes, leNat, ih, h, Nat.pow_succ, Nat.mul_comm (256 ^ n) 256, Nat.mod_mul]

/-! ## CRC-32C -/

theorem crcByte_lt {c : Nat} (b : Byte) (h : c < 2 ^ 32) : crcByte c b < 2 ^ 32 := by
  have step : ∀ (l : List Nat) (c : Nat), c < 2 ^ 32 →
      l.foldl (fun c _ => if c % 2 = 1 then (c / 2) ^^^ 0x82F63B78 else c / 2) c < 2 ^ 32 := by
    intro l
    induction l with
    | nil => exact fun c h => h
    | cons x r ih =>
      intro c h
      refine ih _ ?_
      have h2 : c / 2 < 2 ^ 32 := by omega
      dsimp only
      split
      · exact Nat.xor_lt_two_pow h2 (by decide)
      · exact h2
  have hb : b.toNat < 2 ^ 32 := by have := b.isLt; omega
  exact step _ _ (Nat.xor_lt_two_pow h hb)

theorem crc32c_lt (bs : Bytes) : crc32c bs < 2 ^ 32 := by
  have all : ∀ (bs : Bytes) (c : Nat), c < 2 ^ 32 → bs.foldl crcByte c < 2 ^ 32 := by
    intro bs
    induction bs with
    | nil => exact fun c h => h
    | cons b r ih => exact fun c h => ih _ (crcByte_lt b h)
  exact Nat.xor_lt_two_pow (all bs _ (by decide)) (by decide)

/-! ## Tiles -/

/-- The first 28 header bytes, which the CRC follows (Table 10.6). -/
def Header.front (h : Header) : Bytes :=
  leBytes 1 h.format ++ leBytes 1 h.tse ++ leBytes 1 (unsigned 8 h.step) ++ [0]
    ++ leBytes 2 (h.flags * 16 + h.codec) ++ [0, 0]
    ++ leBytes 4 h.buoy ++ leBytes 4 h.tile ++ leBytes 4 h.epoch
    ++ leBytes 4 h.payloadLen ++ leBytes 4 h.compressedLen

theorem Header.bytes_eq (h : Header) (crc : Nat) : h.bytes crc = h.front ++ (leBytes 4 crc ++ List.replicate 32 0) := by
  simp [Header.bytes, Header.front]

@[simp] theorem Header.front_length (h : Header) : h.front.length = 28 := by simp [Header.front]

@[simp] theorem Header.bytes_length (h : Header) (crc : Nat) : (h.bytes crc).length = 64 := by simp [Header.bytes_eq]

@[simp] theorem makeTile_length (h : Header) (p : Bytes) : (makeTile h p).length = 64 + p.length := by simp [makeTile]

@[simp] theorem makeTile_payload (h : Header) (p : Bytes) : (makeTile h p).drop 64 = p := by
  simp only [makeTile]
  exact List.drop_left' (Header.bytes_length _ _)

theorem makeTile_eq (h : Header) (p : Bytes) :
    makeTile h p = h.front ++ (leBytes 4 (crc32c (h.bytes 0 ++ p)) ++ (List.replicate 32 0 ++ p)) := by
  simp [makeTile, Header.bytes_eq]

/-- A tile that the device makes passes its CRC-32C (R368). -/
theorem makeTile_crcOk (h : Header) (p : Bytes) : tileCrcOk (makeTile h p) = true := by
  have hf : h.front.length = 28 := Header.front_length h
  have hcrc : natAt (makeTile h p) 28 4 = crc32c (h.bytes 0 ++ p) := by
    unfold natAt
    rw [makeTile_eq, List.drop_left' hf, List.take_left' (leBytes_length _ _), leNat_leBytes]
    exact Nat.mod_eq_of_lt (crc32c_lt _)
  have htile : tileCrc (makeTile h p) = crc32c (h.bytes 0 ++ p) := by
    unfold tileCrc
    rw [makeTile_eq, List.take_left' hf, Header.bytes_eq]
    congr 1
  unfold tileCrcOk
  rw [hcrc, htile]
  simp

/-! ## Header fields read back (Table 10.6) -/

/-- A number's bytes in the midst of others read back. -/
theorem natAt_middle {b : Bytes} (pre rest : Bytes) {o n v : Nat} (h : b = pre ++ (leBytes n v ++ rest)) (hl : pre.length = o) :
    natAt b o n = v % 256 ^ n := by
  subst h
  unfold natAt
  rw [List.drop_left' hl, List.take_left' (leBytes_length _ _), leNat_leBytes]

theorem tile_format (h : Header) (p : Bytes) : natAt (makeTile h p) 0 1 = h.format % 256 :=
  natAt_middle [] _ (by simp only [makeTile_eq, Header.front, List.nil_append, List.append_assoc]; rfl) rfl

theorem tile_tse (h : Header) (p : Bytes) : natAt (makeTile h p) 1 1 = h.tse % 256 :=
  natAt_middle (leBytes 1 h.format) _ (by simp only [makeTile_eq, Header.front, List.append_assoc]; rfl) rfl

theorem tile_step (h : Header) (p : Bytes) : natAt (makeTile h p) 2 1 = unsigned 8 h.step % 256 :=
  natAt_middle (leBytes 1 h.format ++ leBytes 1 h.tse) _ (by simp only [makeTile_eq, Header.front, List.append_assoc]; rfl) rfl

theorem tile_flags (h : Header) (p : Bytes) : natAt (makeTile h p) 4 2 = (h.flags * 16 + h.codec) % 65536 :=
  natAt_middle (leBytes 1 h.format ++ leBytes 1 h.tse ++ leBytes 1 (unsigned 8 h.step) ++ [0]) _
    (by simp only [makeTile_eq, Header.front, List.append_assoc]; rfl) rfl

/-- The header bytes before the buoy. -/
def Header.pre8 (h : Header) : Bytes :=
  leBytes 1 h.format ++ leBytes 1 h.tse ++ leBytes 1 (unsigned 8 h.step) ++ [0] ++ leBytes 2 (h.flags * 16 + h.codec) ++ [0, 0]

theorem tile_buoy (h : Header) (p : Bytes) : natAt (makeTile h p) 8 4 = h.buoy % 2 ^ 32 :=
  natAt_middle h.pre8 _ (by simp only [makeTile_eq, Header.front, Header.pre8, List.append_assoc]; rfl) rfl

theorem tile_tile (h : Header) (p : Bytes) : natAt (makeTile h p) 12 4 = h.tile % 2 ^ 32 :=
  natAt_middle (h.pre8 ++ leBytes 4 h.buoy) _ (by simp only [makeTile_eq, Header.front, Header.pre8, List.append_assoc]; rfl) rfl

theorem tile_epoch (h : Header) (p : Bytes) : natAt (makeTile h p) 16 4 = h.epoch % 2 ^ 32 :=
  natAt_middle (h.pre8 ++ leBytes 4 h.buoy ++ leBytes 4 h.tile) _
    (by simp only [makeTile_eq, Header.front, Header.pre8, List.append_assoc]; rfl) rfl

theorem tile_payloadLen (h : Header) (p : Bytes) : natAt (makeTile h p) 20 4 = h.payloadLen % 2 ^ 32 :=
  natAt_middle (h.pre8 ++ leBytes 4 h.buoy ++ leBytes 4 h.tile ++ leBytes 4 h.epoch) _
    (by simp only [makeTile_eq, Header.front, Header.pre8, List.append_assoc]; rfl) rfl

theorem tile_compressedLen (h : Header) (p : Bytes) : natAt (makeTile h p) 24 4 = h.compressedLen % 2 ^ 32 :=
  natAt_middle (h.pre8 ++ leBytes 4 h.buoy ++ leBytes 4 h.tile ++ leBytes 4 h.epoch ++ leBytes 4 h.payloadLen) _
    (by simp only [makeTile_eq, Header.front, Header.pre8, List.append_assoc]; rfl) rfl

/-- A header within its fields' widths (Table 10.6). -/
def Header.fits (h : Header) : Prop :=
  h.format < 256 ∧ h.tse < 256 ∧ -128 ≤ h.step ∧ h.step < 128 ∧ h.flags < 4096 ∧ h.codec < 16 ∧ h.buoy < 2 ^ 32 ∧ h.tile < 2 ^ 32
    ∧ h.epoch < 2 ^ 32 ∧ h.payloadLen < 2 ^ 32 ∧ h.compressedLen < 2 ^ 32

/-- The header of a tile that the device makes reads back. -/
theorem parse_makeTile (h : Header) (p : Bytes) (hf : h.fits) : Header.parse (makeTile h p) = h := by
  obtain ⟨h1, h2, h3, h4, h5, h6, h7, h8, h9, h10, h11⟩ := hf
  have hs : signed 8 (unsigned 8 h.step % 256) = h.step := by
    have hu : unsigned 8 h.step = (h.step % 256).toNat := rfl
    have hd (u : Nat) : signed 8 u = if u % 256 < 128 then ((u % 256 : Nat) : Int) else ((u % 256 : Nat) : Int) - 256 := rfl
    rw [hu, hd]
    by_cases hh : 0 ≤ h.step
    · rw [if_pos (by omega)]
      omega
    · rw [if_neg (by omega)]
      omega
  unfold Header.parse
  rw [tile_format, tile_tse, tile_step, tile_flags, tile_buoy, tile_tile, tile_epoch, tile_payloadLen, tile_compressedLen, hs]
  cases h
  simp only [Header.mk.injEq] at *
  refine ⟨?_, ?_, trivial, ?_, ?_, ?_, ?_, ?_, ?_, ?_⟩ <;> omega

end Sys2Proof
end

