-- ==== Sys2Proof/Tests/Signed.lean ====
section
/-! SUPPORT. A signature that verifies over any bytes: the encoded message itself, under a modulus of which it is a fixed point. What the
witnesses about firmware slots and signed records stand on. -/
namespace Sys2Proof.Tests
open Sys2Proof.Machine
set_option Elab.async false

/-! ## Lengths, and bytes as numbers -/

theorem shaBlock_length (k h : List W64) (b : Bytes) (hh : h.length = 8) : (shaBlock k h b).length = 8 := by
  have hr (x : List W64) (kw : W64 × W64) : x.length = 8 → (shaRound x kw).length = 8 := by
    intro hx
    unfold shaRound
    split
    · rfl
    · exact hx
  have hf (ks : List (W64 × W64)) : ∀ x : List W64, x.length = 8 → (ks.foldl shaRound x).length = 8 := by
    induction ks with
    | nil => exact fun x hx => hx
    | cons q r ih => exact fun x hx => ih _ (hr x q hx)
  unfold shaBlock
  simp [List.length_zipWith, hh, hf _ h hh]

theorem shaBlocks_length (k : List W64) (n : Nat) : ∀ (h : List W64) (m : Bytes), h.length = 8 → (shaBlocks k n h m).length = 8 := by
  induction n with
  | zero => exact fun h m hh => hh
  | succ n ih => exact fun h m hh => ih _ _ (shaBlock_length k h _ hh)

theorem beBytes_length (n v : Nat) : (beBytes n v).length = n := by simp [beBytes]

theorem sha512_length (m : Bytes) : (sha512 m).length = 64 := by
  have hi : shaInit.length = 8 := by simp [shaInit, shaPrimes]
  unfold sha512
  rw [List.length_flatMap]
  simp only [beBytes_length, List.map_const']
  rw [shaBlocks_length _ _ _ _ hi]
  rfl

theorem mgf1_length (seed : Bytes) : (mgf1 seed 447).length = 447 := by
  unfold mgf1
  rw [List.length_take, List.length_flatMap]
  simp only [sha512_length]
  decide

theorem leBytes_leNat (b : Bytes) : leBytes b.length (leNat b) = b := by
  induction b with
  | nil => rfl
  | cons x r ih =>
    have h1 : BitVec.ofNat 8 (x.toNat + 256 * leNat r) = x := by
      apply BitVec.eq_of_toNat_eq
      have := x.isLt
      simp only [BitVec.toNat_ofNat]
      omega
    have h2 : (x.toNat + 256 * leNat r) / 256 = leNat r := by
      have := x.isLt
      omega
    simp only [List.length_cons, leNat, leBytes, h1, h2, ih]

theorem beNat_reverse (b : Bytes) : beNat b.reverse = leNat b := by
  unfold beNat
  rw [List.foldl_reverse]
  induction b with
  | nil => rfl
  | cons x r ih => simp only [List.foldr_cons, leNat, ih]; omega

theorem beBytes_beNat (b : Bytes) : beBytes b.length (beNat b) = b := by
  have h := beNat_reverse b.reverse
  rw [List.reverse_reverse] at h
  have hl := leBytes_leNat b.reverse
  rw [List.length_reverse] at hl
  rw [beBytes, h, hl, List.reverse_reverse]

/-! ## A fixed point of RSA -/

/-- Half of the public exponent less 1, and the exponent less 1. -/
def halfExp : Nat := 32768
def expLess : Nat := halfExp + halfExp

/-- A modulus under which s, raised to 65 537, is s again. -/
def fixModulus (s : Nat) : Nat := s ^ (expLess + 1) - s

theorem fix_large (s k n : Nat) (hs : 2 ≤ s) (hn : n ≠ 0) (hk : n + 1 ≤ k) : 2 ^ n ≤ s ^ (k + 1) - s ∧ s < s ^ (k + 1) - s := by
  have h1 : 2 ^ (n + 1) ≤ s ^ k := Nat.le_trans (Nat.pow_le_pow_right (by decide) hk) (Nat.pow_le_pow_left hs k)
  have h2 : 2 ^ (n + 1) = 2 * 2 ^ n := by rw [Nat.pow_succ, Nat.mul_comm]
  have h3 : 2 ≤ 2 ^ n := Nat.le_self_pow hn 2
  have h4 : s ^ (k + 1) = s ^ k * s := Nat.pow_succ ..
  generalize 2 ^ n = t at *
  generalize s ^ k = q at *
  have h5 : 2 * t * s ≤ q * s := Nat.mul_le_mul_right s (by omega)
  have h6 : t * 2 ≤ t * s := Nat.mul_le_mul_left t hs
  have h7 : 2 * s ≤ t * s := Nat.mul_le_mul_right s h3
  have h8 : 2 * t * s = t * s + t * s := by rw [Nat.mul_assoc, Nat.two_mul]
  omega

theorem pow_split (s n : Nat) : s ^ (n + n + 1) = s ^ n * s ^ n * s := by rw [Nat.pow_succ, Nat.pow_add]

theorem powMod_eq (b m : Nat) (l : List Bool) : ∀ a, l ≠ [] →
    powMod b m l a = (l.foldl (fun x d => if d then x * x * b else x * x) a) % m := by
  induction l with
  | nil => intro a h; exact absurd rfl h
  | cons d r ih =>
    intro a _
    cases r with
    | nil => cases d <;> simp [powMod, Nat.mod_mul_mod]
    | cons d' r' =>
      have hcong (x y : Nat) (h : x % m = y % m) (l : List Bool) :
          (l.foldl (fun x d => if d then x * x * b else x * x) x) % m = (l.foldl (fun x d => if d then x * x * b else x * x) y) % m := by
        induction l generalizing x y with
        | nil => exact h
        | cons d r ih =>
          simp only [List.foldl_cons]
          apply ih
          have h2 : x * x % m = y * y % m := by rw [Nat.mul_mod, h, ← Nat.mul_mod]
          cases d
          · exact h2
          · simp only [if_true]
            rw [Nat.mul_mod, h2, ← Nat.mul_mod]
      simp only [powMod] at ih ⊢
      rw [List.foldl_cons]
      refine (ih _ (by simp)).trans (hcong _ _ ?_ _)
      cases d <;> simp [Nat.mod_mul_mod]

theorem pow_fix (s : Nat) (hs : 2 ≤ s) : powMod s (fixModulus s) exp65537 1 = s := by
  have hl := (fix_large s expLess 1 hs (by decide) (by decide)).2
  have hp : exp65537.foldl (fun x d => if d then x * x * s else x * x) 1 = s ^ (expLess + 1) := by
    simp only [exp65537, List.cons_append, List.foldl_cons, List.foldl_append, List.foldl_nil, if_true, Nat.mul_one, Nat.one_mul]
    have hr (n a : Nat) : (List.replicate n false).foldl (fun x d => if d = true then x * x * s else x * x) a = a ^ 2 ^ n := by
      induction n generalizing a with
      | zero => simp
      | succ n ih =>
        simp only [List.replicate_succ, List.foldl_cons, ih, Bool.false_eq_true, if_false]
        rw [← Nat.pow_two, ← Nat.pow_mul, Nat.pow_succ, Nat.mul_comm]
    rw [hr, show 2 ^ 15 = halfExp from rfl]
    exact (pow_split s halfExp).symm
  rw [powMod_eq _ _ _ _ (by simp [exp65537]), hp]
  have h : s ^ (expLess + 1) = s + fixModulus s := by
    unfold fixModulus
    generalize s ^ (expLess + 1) = q at *
    omega
  rw [h, Nat.add_mod_right]
  exact Nat.mod_eq_of_lt hl

/-! ## RSASSA-PSS -/

/-- The bits of an encoded message. -/
def emBits : Nat := 8 * 512

/-- The last hash of an encoded message with a salt of zeros. -/
def emHash (mhash : Bytes) : Bytes := sha512 (List.replicate 8 0 ++ mhash ++ List.replicate 64 0)

/-- The data block: padding, the mark and the salt. -/
def emBlock : Bytes := List.replicate 382 0 ++ [1] ++ List.replicate 64 0

/-- An encoded message (RFC 8017's EM), for a modulus that masks no bit of it. -/
def encoded (mhash : Bytes) : Bytes := xorBytes emBlock (mgf1 (emHash mhash) 447) ++ (emHash mhash ++ [0xBC])

theorem xor_xor : ∀ (a b : Bytes), a.length = b.length → xorBytes (xorBytes a b) b = a
  | [], _, _ => by simp [xorBytes]
  | x :: a, [], h => by simp at h
  | x :: a, y :: b, h => by
    have ih := xor_xor a b (by simpa using h)
    unfold xorBytes at *
    simp only [List.zipWith_cons_cons, ih, List.cons.injEq, and_true]
    rw [BitVec.xor_assoc, BitVec.xor_self, BitVec.xor_zero]

theorem emBlock_length : emBlock.length = 447 := by
  simp only [emBlock, List.length_append, List.length_replicate, List.length_cons, List.length_nil]

theorem masked_length (m : Bytes) : (xorBytes emBlock (mgf1 (emHash m) 447)).length = 447 := by
  simp [xorBytes, List.length_zipWith, mgf1_length, emBlock_length]

theorem hash_length (m : Bytes) : (emHash m).length = 64 := sha512_length _

theorem encoded_length (m : Bytes) : (encoded m).length = 512 := by simp [encoded, masked_length, hash_length]

/-- The signature as a number. -/
def fixPoint (m : Bytes) : Nat := beNat (encoded m)

theorem fixPoint_large (m : Bytes) : 2 ≤ fixPoint m := by
  unfold fixPoint encoded beNat
  rw [← List.append_assoc, List.foldl_append]
  simp only [List.foldl_cons, List.foldl_nil]
  have : (0xBC : Byte).toNat = 188 := rfl
  omega

/-- The signature verifies. -/
theorem pss_good (m : Bytes) : pssVerify (fixModulus (fixPoint m)) m (encoded m) = true := by
  have hs := fixPoint_large m
  have hf : 2 ^ emBits ≤ fixModulus (fixPoint m) ∧ fixPoint m < fixModulus (fixPoint m) :=
    fix_large (fixPoint m) expLess emBits hs (by decide) (by decide)
  have hm : fixModulus (fixPoint m) ≠ 0 := Nat.ne_of_gt (Nat.lt_of_le_of_lt (Nat.zero_le _) hf.2)
  have hlog : emBits ≤ (fixModulus (fixPoint m)).log2 := (Nat.le_log2 hm).mpr hf.1
  have hem : beBytes 512 (powMod (fixPoint m) (fixModulus (fixPoint m)) exp65537 1) = encoded m := by
    rw [pow_fix _ hs]
    have h := beBytes_beNat (encoded m)
    rw [encoded_length] at h
    exact h
  have ht : (encoded m).take 447 = xorBytes emBlock (mgf1 (emHash m) 447) := List.take_left' (masked_length m)
  have hd : ((encoded m).drop 447).take 64 = emHash m := by
    rw [encoded, List.drop_left' (masked_length m), List.take_left' (hash_length m)]
  have hx : xorBytes ((encoded m).take 447) (mgf1 (emHash m) 447) = emBlock := by
    rw [ht]
    exact xor_xor _ _ (by simp [mgf1_length, emBlock_length])
  have htop : 2 ^ (8 - (8 * 512 - (fixModulus (fixPoint m)).log2)) = 256 := by
    have h : 8 * 512 - (fixModulus (fixPoint m)).log2 = 0 := Nat.sub_eq_zero_of_le hlog
    simp [h]
  have hl : (encoded m).getLast? = some 0xBC := by
    rw [encoded, ← List.append_assoc]
    exact List.getLast?_concat ..
  have hb : emBlock = 0 :: (List.replicate 381 0 ++ [1] ++ List.replicate 64 0) := rfl
  have hc : (BitVec.ofNat 8 ((0 : Byte).toNat % 256) :: (List.replicate 381 (0 : Byte) ++ [1] ++ List.replicate 64 0)) = emBlock := rfl
  have hlt : fixPoint m < fixModulus (fixPoint m) := hf.2
  have h0 : ((encoded m).headD 0).toNat < 256 := BitVec.isLt _
  unfold pssVerify
  dsimp only
  rw [show beNat (encoded m) = fixPoint m from rfl, hem, hd, hx, htop]
  rw [hb]
  dsimp only
  rw [hc, hl]
  have hp : (List.replicate 382 (0 : Byte) ++ [1]).length = 383 := by
    simp only [List.length_append, List.length_replicate, List.length_cons, List.length_nil]
  rw [show emBlock.take 383 = List.replicate 382 0 ++ [1] from List.take_left' hp,
    show emBlock.drop 383 = List.replicate 64 0 from List.drop_left' hp,
    show sha512 (List.replicate 8 0 ++ m ++ List.replicate 64 0) = emHash m from rfl]
  simp only [beq_self_eq_true, Bool.and_true, Bool.and_eq_true, decide_eq_true_eq]
  exact ⟨⟨encoded_length m, hm, hlt⟩, h0⟩

/-! ## Signature blocks (Tables 3.4 and 17.2) -/

/-- A modulus under which bytes are signed. -/
def signerOfBytes (signed : Bytes) : Nat := fixModulus (fixPoint (sha512 signed))

/-- The signature block of bytes. -/
def signature (magic signed : Bytes) : Bytes :=
  magic ++ [1, 0, 0, 0, 0, 0, 0, 0] ++ (sha512 (beBytes 512 (signerOfBytes signed))).take 32 ++ encoded (sha512 signed)
    ++ List.replicate 3536 0

theorem bytesAt_middle {b : Bytes} (pre x rest : Bytes) {o n : Nat} (h : b = pre ++ (x ++ rest)) (ho : pre.length = o) (hn : x.length = n) :
    bytesAt b o n = x := by
  subst h
  unfold bytesAt
  rw [List.drop_left' ho, List.take_left' hn]
  simp [hn]

theorem zeros_all (n : Nat) : (List.replicate n (0 : Byte)).all (· == 0) = true := by simp

/-- What the fields of a signature block make of its check. -/
theorem block_good {magic key em z signed : Bytes} {modulus : Nat} (hm : magic.length = 8)
    (hkey : (sha512 (beBytes 512 modulus)).take 32 = key) (hk : key.length = 32) (he : em.length = 512)
    (hz : z.length = 3536) (hza : z.all (· == 0) = true) (hp : pssVerify modulus (sha512 signed) em = true) :
    blockVerifies magic modulus signed (magic ++ ([1, 0, 0, 0, 0, 0, 0, 0] ++ (key ++ (em ++ z)))) = true := by
  unfold blockVerifies
  rw [hkey]
  generalize hb : magic ++ ([1, 0, 0, 0, 0, 0, 0, 0] ++ (key ++ (em ++ z))) = b
  have h1 : b.take 8 = magic := hb ▸ List.take_left' hm
  have h2 : natAt b 8 4 = 1 := natAt_middle magic ([0, 0, 0, 0] ++ (key ++ (em ++ z))) (n := 4) (v := 1) hb.symm hm
  have h3 : natAt b 12 4 = 0 :=
    natAt_middle (magic ++ [1, 0, 0, 0]) (key ++ (em ++ z)) (n := 4) (v := 0) (by rw [← hb, List.append_assoc]; rfl) (by simp [hm])
  have h4 : bytesAt b 16 32 = key :=
    bytesAt_middle (magic ++ [1, 0, 0, 0, 0, 0, 0, 0]) key (em ++ z) (by rw [← hb, List.append_assoc]) (by simp [hm]) hk
  have h7 : bytesAt b 0x30 512 = em :=
    bytesAt_middle (magic ++ ([1, 0, 0, 0, 0, 0, 0, 0] ++ key)) em z (by rw [← hb]; simp only [List.append_assoc]) (by simp [hm, hk]) he
  have h5 : b.drop 0x230 = z := by
    rw [← hb, show magic ++ ([1, 0, 0, 0, 0, 0, 0, 0] ++ (key ++ (em ++ z))) = (magic ++ ([1, 0, 0, 0, 0, 0, 0, 0] ++ (key ++ em))) ++ z by
      simp only [List.append_assoc]]
    exact List.drop_left' (by simp [hm, hk, he])
  have h6 : b.length = 4096 := by
    rw [← hb]
    simp [hm, hk, he, hz]
  rw [h1, h2, h3, h4, h5, h6, h7, hp, hza]
  simp

theorem signature_verifies (magic signed : Bytes) (hm : magic.length = 8) :
    blockVerifies magic (signerOfBytes signed) signed (signature magic signed) = true := by
  unfold signature
  simp only [List.append_assoc]
  exact block_good hm rfl (by simp [sha512_length]) (encoded_length _) List.length_replicate (zeros_all _) (pss_good _)

theorem signature_length (magic signed : Bytes) (hm : magic.length = 8) : (signature magic signed).length = 4096 := by
  have hk : ((sha512 (beBytes 512 (signerOfBytes signed))).take 32).length = 32 := by simp [sha512_length]
  unfold signature
  simp only [List.length_append, hm, hk, encoded_length, List.length_replicate, List.length_cons, List.length_nil]

/-! ## A firmware slot (Table 17.2) -/

/-- The header of a slot with an empty body. -/
def slotHead : Bytes := (ascii "KEEPFW" ++ List.replicate 18 0) ++ (sha512 [] ++ List.replicate 4008 0)

def goodSlot : Bytes := slotHead ++ signature kprMagic slotHead

def slotModulus : Nat := signerOfBytes slotHead

/-- SHA-512 of the modulus. -/
def slotKey : Bytes := sha512 (beBytes 512 slotModulus)

theorem slot_good : slotOk { firmwareKey := slotKey, firmwareModulus := slotModulus } goodSlot = true := by
  have hm : kprMagic.length = 8 := by decide
  have hv := signature_verifies kprMagic slotHead hm
  have hl := signature_length kprMagic slotHead hm
  have hh : slotHead.length = 4096 := by
    simp only [slotHead, List.length_append, sha512_length, List.length_replicate]
    decide
  unfold goodSlot slotKey slotModulus
  generalize hs : signature kprMagic slotHead = sig at *
  generalize hmod : signerOfBytes slotHead = modulus at *
  have hb : slotHead ++ sig = (ascii "KEEPFW" ++ List.replicate 18 0) ++ (sha512 [] ++ (List.replicate 4008 0 ++ sig)) := by
    simp only [slotHead, List.append_assoc]
  have h24 : (ascii "KEEPFW" ++ List.replicate 18 (0 : Byte)).length = 24 := by decide
  have h8 : (slotHead ++ sig).take 8 = ascii "KEEPFW" ++ [0, 0] := by
    rw [hb, show ascii "KEEPFW" ++ List.replicate 18 (0 : Byte) = (ascii "KEEPFW" ++ [0, 0]) ++ List.replicate 16 0 by decide,
      List.append_assoc]
    exact List.take_left' (by decide)
  have hd : bytesAt (slotHead ++ sig) 0x18 64 = sha512 [] := bytesAt_middle _ _ _ hb h24 (sha512_length _)
  have hz : (bytesAt (slotHead ++ sig) 0x58 4008).all (· == 0) = true := by
    rw [bytesAt_middle ((ascii "KEEPFW" ++ List.replicate 18 0) ++ sha512 []) (List.replicate 4008 0) sig
      (by rw [hb]; simp only [List.append_assoc]) (by rw [List.length_append, h24, sha512_length]) List.length_replicate]
    exact zeros_all _
  have hn (pre mid : Bytes) (o n : Nat) (h : ascii "KEEPFW" ++ List.replicate 18 (0 : Byte) = pre ++ (leBytes n 0 ++ mid)) (ho : pre.length = o) :
      natAt (slotHead ++ sig) o n = 0 := by
    have := natAt_middle (b := slotHead ++ sig) pre (mid ++ (sha512 [] ++ (List.replicate 4008 0 ++ sig))) (n := n) (v := 0)
      (by rw [hb, h]; simp only [List.append_assoc]) ho
    rw [this, Nat.zero_mod]
  have h1 : natAt (slotHead ++ sig) 0x0C 1 = 0 := hn (ascii "KEEPFW" ++ List.replicate 6 0) (List.replicate 11 0) _ _ (by decide) (by decide)
  have h2 : natAt (slotHead ++ sig) 0x0D 3 = 0 := hn (ascii "KEEPFW" ++ List.replicate 7 0) (List.replicate 8 0) _ _ (by decide) (by decide)
  have h3 : slotLength (slotHead ++ sig) = 0 := hn (ascii "KEEPFW" ++ List.replicate 10 0) [] _ _ (by decide) (by decide)
  unfold slotOk slotHeaderOk
  rw [h3, h8, h1, h2, hz, hd, List.take_left' (show slotHead.length = 0x1000 + 0 from hh), List.drop_left' (show slotHead.length = 0x1000 + 0 from hh)]
  dsimp only
  rw [hv, List.drop_of_length_le (by omega), List.length_append, hh, hl]
  simp

/-! ## An alarm policy of no entry (Table 17.12) -/

def policyHead : Bytes := ascii "ALRM" ++ List.replicate 60 0

def policyModulus : Nat := signerOfBytes policyHead

def goodPolicy : Bytes := policyHead ++ signature emsMagic policyHead

theorem emsMagic_length : emsMagic.length = 8 := by decide

theorem goodPolicy_length : goodPolicy.length = 64 + 4096 := by
  rw [goodPolicy, List.length_append, signature_length _ _ emsMagic_length]
  congr 1

theorem policy_verifies : recordVerifies policyModulus goodPolicy = true := by
  have hh : policyHead.length = 64 := by decide
  unfold recordVerifies recordSigned
  rw [goodPolicy_length, goodPolicy, List.take_left' (by rw [hh]), List.drop_left' (by rw [hh]),
    policyModulus, signature_verifies _ _ emsMagic_length]
  decide

theorem policy_good : policyOk goodPolicy = true := by
  have hb : goodPolicy = ascii "ALRM" ++ (leBytes 4 0 ++ (List.replicate 56 0 ++ signature emsMagic policyHead)) := by
    rw [goodPolicy, policyHead, show ascii "ALRM" ++ List.replicate 60 (0 : Byte) = ascii "ALRM" ++ (leBytes 4 0 ++ List.replicate 56 0) by decide]
    simp only [List.append_assoc]
  have h4 : natAt goodPolicy 4 4 = 0 := natAt_middle _ _ (v := 0) hb (by decide)
  have ht : goodPolicy.take 4 = ascii "ALRM" := hb ▸ List.take_left' (by decide)
  have hz : bytesAt goodPolicy 8 56 = List.replicate 56 0 :=
    bytesAt_middle (ascii "ALRM" ++ leBytes 4 0) _ (signature emsMagic policyHead) (by rw [hb, List.append_assoc]) (by decide) List.length_replicate
  unfold policyOk
  rw [h4, ht, hz, zeros_all, goodPolicy_length]
  simp

end Sys2Proof.Tests
end

