-- ==== Sys2Proof/Tests/Worlds.lean ====
section
/-! SUPPORT. The small states that the tests and the witnesses stand on, each made by a helper from the one before it. -/
namespace Sys2Proof.Tests
open Sys2Proof.Machine
set_option Elab.async false

/-- READY: boot over, 56 V and the host link there. -/
def ready : State :=
  { State.reset with
    glb := { state := .ready, bootStage := 0, capValid := true }
    lnt := { power := true }
    host := { hostUp := true, regionGib := 1 } }

/-- LANTERN with 56 V, at a boot stage. -/
def booting (n : Nat) : State := { State.reset with glb := { bootStage := n }, lnt := { power := true } }

/-- A boot report in which everything passed. -/
def passed : BootReport :=
  { hubOk := true, dies := 0xFF, badEngines := 0, repairs := [], badPorts := 0, badUnits := [], noEcc := [], eyes := [],
    channels := 0xFFFF, hostUp := true, partnerUp := false, ports := ({}, {}) }

/-- An EXCHANGE section with no entry. -/
def noExchange : Exchange :=
  { kinds := [], mode := 0, clip := 2, arith := 0, normBeam := 0, bucketBytes := 0, globalTau := 0, nodes := [], buckets := [], pairs := [],
    layers := [], schedules := [] }

/-- An image of one member, with no engine and one empty plan beam. -/
def bare : Image :=
  { kind := 1, jobId := 7, memberRank := 0, commitBeam := 0, periodClk := 375000, eclipseClk := 12000, groupDigest := [], group := [0],
    logicalDies := 1, engines := [], routes := [], banks := [],
    plans := { beams := [⟨0, 0, 0xFFFF, 0⟩], holds := [], tasks := [], accs := [] },
    slots := { planBeams := 1, index := [(0, 0)], entries := [], flows := [] }, buoys := [],
    numeric := { seed := 0, classes := [], accs := [] }, update := { progs := [], words := [] }, exchange := noExchange, orbit := none,
    regs := [], carried := [] }

/-- RUNNING an image, its beam begun, logical die 0 on compute die 0. -/
def running (i : Image) : State :=
  { ready with
    glb := { ready.glb with state := .running, prev := .armed, moduleValid := true }
    beam := { countValid := true, atTick := true }
    img := { live := some i, binding := [0] } }

/-- ARMED with an image, its commit beam being beam 0. -/
def armed (i : Image) : State :=
  { ready with
    glb := { ready.glb with state := .armed, prev := .ready, moduleValid := true }
    beam := { countValid := true }
    img := { stage := .armed, kind := .full, checked := some i, checkedBinding := [0] } }

/-- The two-member image: this member of a rank, the other one reached over link 0. -/
def pairOf (rank : Nat) : Image :=
  { bare with memberRank := rank, group := [0, 1], exchange := { noExchange with nodes := [⟨0, 0, 0xFFFFFFFF⟩, ⟨0, 1, 0⟩] } }

/-- The module has a number, and link 0 is up to module m; module n has serial number 100 + n. -/
def linked (own m : Nat) (s : State) : State :=
  setLink 0 { state := 2, peerValid := true, peerModule := m, peerSerial := 100 + m }
    { s with
      glb := { s.glb with moduleNumber := BitVec.ofNat 13 own, moduleValid := true }
      nor := { s.nor with serial := 100 + own }
      fab := { s.fab with
        routes := [(m, (0, 1))], members := [⟨100, 0, 0x80⟩, ⟨101, 1, 0x80⟩], discovery := 2
        graph := [⟨100 + m, some m, 0x80, none, [(0, 100 + own, 0)]⟩] } }

/-- The root of a pair, RUNNING. -/
def root : State := linked 0 1 (running (pairOf 0))

/-- The child of a pair, RUNNING. -/
def child : State := linked 1 0 (running (pairOf 1))

/-- A task of a logical engine with a payload and accesses. -/
def taskOn (le payload accs : Nat) : TaskEntry :=
  { release := 0, le := le, idx := 0, deps := [], accFirst := 0, accCount := accs, payload := payload }

/-- The image whose one plan beam holds one task, of logical engine 0. -/
def withTask (e : EngineEntry) (t : TaskEntry) (accs : List Access) (buoys : List BuoyEntry) : Image :=
  { bare with
    engines := [e], buoys := buoys
    plans := { beams := [⟨0, 1, 0xFFFF, 0⟩], holds := [], tasks := [t], accs := accs } }

end Sys2Proof.Tests
end

