-- ==== Sys2Proof/Tests/Stored.lean ====
section
/-! SUPPORT. Tiles that pass every check, and an engine that takes one which has arrived from its owner: what the witnesses about engines
stand on. -/
namespace Sys2Proof.Tests
open Sys2Proof.Machine
set_option Elab.async false

/-- A tile in working form: unscaled elements, of step 0. -/
def plainTile (code n k : Nat) (p : Bytes) : Bytes := makeTile (workHeader code n k 0 127 0 0) p

theorem plain_fits {code n k : Nat} (hc : code < 256) (hn : n < 2 ^ 32) (hk : k < 2 ^ 32) (hl : payloadLen code < 2 ^ 32) :
    (workHeader code n k 0 127 0 0).fits := by
  refine ⟨hc, ?_, ?_, ?_, ?_, ?_, hn, hk, ?_, hl, hl⟩ <;> simp [workHeader]

theorem plain_parse {code n k : Nat} (p : Bytes) (hc : code < 256) (hn : n < 2 ^ 32) (hk : k < 2 ^ 32) (hl : payloadLen code < 2 ^ 32) :
    Header.parse (plainTile code n k p) = workHeader code n k 0 127 0 0 := parse_makeTile _ _ (plain_fits hc hn hk hl)

theorem setCodec_split {A B L C p : Bytes} {x : Byte} (hA : A.length = 4) (hB : B.length = 19) (hL : L.length = 4) (hC : C.length = 36)
    (codec len : Nat) : setCodec (A ++ (x :: (B ++ (L ++ (C ++ p))))) codec len
      = A ++ [BitVec.ofNat 8 (x.toNat / 16 * 16 + codec)] ++ B ++ leBytes 4 len ++ C := by
  have h4 : (A ++ (x :: (B ++ (L ++ (C ++ p))))).take 4 = A := List.take_left' hA
  have h5 : (A ++ (x :: (B ++ (L ++ (C ++ p))))).drop 5 = B ++ (L ++ (C ++ p)) := by
    rw [show A ++ (x :: (B ++ (L ++ (C ++ p)))) = (A ++ [x]) ++ (B ++ (L ++ (C ++ p))) by simp]
    exact List.drop_left' (by simp [hA])
  have h28 : (A ++ (x :: (B ++ (L ++ (C ++ p))))).drop 28 = C ++ p := by
    rw [show A ++ (x :: (B ++ (L ++ (C ++ p)))) = (A ++ [x] ++ B ++ L) ++ (C ++ p) by simp]
    exact List.drop_left' (by simp [hA, hB, hL])
  have hx : natAt (A ++ (x :: (B ++ (L ++ (C ++ p))))) 4 1 = x.toNat := by
    unfold natAt
    rw [List.drop_left' hA]
    simp [leNat]
  unfold setCodec
  rw [h4, h5, h28, hx, List.take_left' hB, List.take_left' hC]

/-- A tile's codec byte and compressed length set to what they are. -/
theorem setCodec_makeTile (h : Header) (p : Bytes) (hc : h.codec = 0) :
    setCodec (makeTile h p) 0 h.compressedLen ++ p = makeTile h p := by
  let A : Bytes := leBytes 1 h.format ++ leBytes 1 h.tse ++ leBytes 1 (unsigned 8 h.step) ++ [0]
  let f := h.flags * 16
  let B : Bytes := BitVec.ofNat 8 (f / 256) :: [0, 0] ++ leBytes 4 h.buoy ++ leBytes 4 h.tile ++ leBytes 4 h.epoch ++ leBytes 4 h.payloadLen
  let C : Bytes := leBytes 4 (crc32c (h.bytes 0 ++ p)) ++ List.replicate 32 0
  have e : makeTile h p = A ++ (BitVec.ofNat 8 f :: (B ++ (leBytes 4 h.compressedLen ++ (C ++ p)))) := by
    simp only [makeTile_eq, Header.front, hc, Nat.add_zero]
    have h2 : leBytes 2 (h.flags * 16) = [BitVec.ofNat 8 f, BitVec.ofNat 8 (f / 256)] := rfl
    rw [h2]
    simp [A, B, C]
  have hx : BitVec.ofNat 8 ((BitVec.ofNat 8 f).toNat / 16 * 16 + 0) = BitVec.ofNat 8 f := by
    apply BitVec.eq_of_toNat_eq
    simp only [BitVec.toNat_ofNat, f]
    omega
  rw [e, setCodec_split (by simp [A]) (by simp [B]) (by simp) (by simp [C]), hx]
  simp

/-- The codec byte of a plain tile. -/
theorem plain_codec (code n k : Nat) (p : Bytes) : storedCodec (plainTile code n k p) = 0 := by
  have h : natAt (plainTile code n k p) 4 1 = (0 * 16 + 0) % 256 :=
    natAt_middle (leBytes 1 code ++ leBytes 1 127 ++ leBytes 1 (unsigned 8 0) ++ [0]) _
      (by simp only [plainTile, workHeader, makeTile_eq, Header.front, List.append_assoc]; rfl) rfl
  simp [storedCodec, h]

theorem plain_uncounted (code n k : Nat) (p : Bytes) (s : State) : countDecoded (plainTile code n k p) s = s :=
  if_pos (plain_codec code n k p)

/-- A plain tile stands in the deep tier and on the links as it is. -/
theorem plain_stored {code n k : Nat} {e : Elem} {p : Bytes} (he : elemOf code = some e) (hc : code < 256) (hl : payloadLen code < 2 ^ 32)
    (hp : p.length = payloadLen code) : decodeStored (plainTile code n k p) = some (plainTile code n k p) := by
  have hd : (plainTile code n k p).drop 64 = p := makeTile_payload _ _
  have hlen : ¬(plainTile code n k p).length < 64 := by simp [plainTile]
  have hf : natAt (plainTile code n k p) 0 1 = code := (tile_format _ _).trans (Nat.mod_eq_of_lt hc)
  have hcl : natAt (plainTile code n k p) 24 4 = p.length := (tile_compressedLen _ _).trans ((Nat.mod_eq_of_lt hl).trans hp.symm)
  have hs : storedCodec (plainTile code n k p) = 0 := plain_codec _ _ _ _
  have hsp : storedPayload (plainTile code n k p) = some p := by
    unfold storedPayload
    simp only [hd, hcl, hf, hs, he, hp, bne_self_eq_false, if_true]
    rfl
  unfold decodeStored
  rw [if_neg hlen, hsp]
  rw [Option.map_some, hp]
  exact congrArg some (setCodec_makeTile _ _ rfl)

/-- What a plain tile has to be for its format. -/
def PlainOk (code n k : Nat) (p : Bytes) : Prop :=
  code < 256 ∧ n < 2 ^ 32 ∧ k < 2 ^ 32 ∧ payloadLen code < 2 ^ 32 ∧ (elemOf code).isSome = true ∧ p.length = payloadLen code

theorem plain_check (pitch : Nat) {code n k : Nat} {p : Bytes} (h : PlainOk code n k p) (hp : pitch = tilePitch code) :
    checkTile pitch false (decodeStored (plainTile code n k p)) = .tile (plainTile code n k p) := by
  obtain ⟨hc, _, _, hl, he, hlen⟩ := h
  obtain ⟨e, he⟩ := Option.isSome_iff_exists.mp he
  rw [plain_stored he hc hl hlen]
  have h1 : ((plainTile code n k p).length == pitch) = true := by
    rw [hp]
    simp [plainTile, tilePitch, hlen, Nat.add_comm]
  have h2 : tileCrcOk (plainTile code n k p) = true := makeTile_crcOk _ _
  simp [checkTile, h1, h2]

theorem plain_numeric {code n k : Nat} {p : Bytes} (h : PlainOk code n k p) (v : Bool) :
    numericBad (Header.parse (plainTile code n k p)) code v = false := by
  obtain ⟨hc, hn, hk, hl, he, _⟩ := h
  obtain ⟨el, he⟩ := Option.isSome_iff_exists.mp he
  rw [plain_parse p hc hn hk hl]
  simp [numericBad, workHeader, he, Header.axis]

theorem plain_identity {code n k : Nat} {p : Bytes} (h : PlainOk code n k p) :
    identityBad (Header.parse (plainTile code n k p)) n k = false := by
  obtain ⟨hc, hn, hk, hl, _, _⟩ := h
  rw [plain_parse p hc hn hk hl]
  simp [identityBad, workHeader]

theorem plain_header (who idFault : Nat) {e : BuoyEntry} {k : Nat} {p : Bytes} (h : PlainOk e.format e.id k p) (s : State) :
    checkHeader who idFault e k (plainTile e.format e.id k p) s
      = (.good (workHeader e.format e.id k 0 127 0 0) (plainTile e.format e.id k p), s) := by
  unfold checkHeader
  simp only [plain_numeric h, plain_identity h]
  rw [plain_parse p h.1 h.2.1 h.2.2.1 h.2.2.2.1]
  rfl

/-- A tile of a deep-tier home that is budgeted for T0 is read and counted nowhere. -/
theorem deep_fetch (who le : Nat) {e : BuoyEntry} {n k : Nat} {p : Bytes} {s : State} (hm : (buoyOf s e.id).auth.place = .deep n)
    (ht : deepTile s n k = some (plainTile e.format e.id k p)) (h : PlainOk e.format e.id k p) :
    fetchTile who le e k 0 s = (.tile (plainTile e.format e.id k p), s) := by
  have hd : countDecoded (plainTile e.format e.id k p) s = s := plain_uncounted _ _ _ _ _
  have hf : fetchFrom who (some le) e k (buoyOf s e.id).auth (.fetch e.id k) s = (.tile (plainTile e.format e.id k p), s) := by
    unfold fetchFrom fetchDeep
    rw [hm]
    simp only [ht, hd]
    rw [plain_check (buoyPitch e) h rfl]
  unfold fetchTile
  simp only [hf, hm]
  rfl

/-- Such a tile passes its checks at use. -/
theorem deep_use (who le ev idFault : Nat) {e : BuoyEntry} {n k : Nat} {p : Bytes} {s : State} (hm : (buoyOf s e.id).auth.place = .deep n)
    (ht : deepTile s n k = some (plainTile e.format e.id k p)) (h : PlainOk e.format e.id k p) :
    useTile who le ev idFault e k 0 s = (.good (workHeader e.format e.id k 0 127 0 0) (plainTile e.format e.id k p), s) := by
  unfold useTile
  rw [deep_fetch who le hm ht h]
  exact plain_header who idFault h s

/-- A buoy of one tile of a format, with an identifier. -/
def oneTile (id format : Nat) : BuoyEntry :=
  { id := id, flags := 0, size := 1, format := format, shape := 0, layer := 0, ownerRank := 0, initOffset := 0, initTier := 1, cls := 1,
    residence := List.replicate 24 0 }

/-- Deep-tier object 0, its tiles given. -/
def deepObject (id format : Nat) (tiles : SMap (Option Bytes)) : DeepObj :=
  { num := 0, area := 0, c0 := 0, format := format, jobId := 7, buoy := id, epoch := 0, size := 1, tileCount := 1, tiles := tiles,
    content := [], created := 0, valid := true }

/-- A buoy lies in deep-tier object 0. -/
def deepIn (id format : Nat) (tiles : SMap (Option Bytes)) (s : State) : State :=
  { s with
    ple := { s.ple with table := [(id, { phase := .moored, auth := ⟨.deep 0, false⟩, home := .deep 0 })] }
    deep := { s.deep with channels := [0], objects := [deepObject id format tiles] } }

/-- A payload of zeros is what its format asks for. -/
theorem zero_ok {code n k : Nat} (hc : code ∈ [0x01, 0x11, 0x12]) (hn : n < 2 ^ 32) (hk : k < 2 ^ 32) :
    PlainOk code n k (List.replicate 65536 0) := by
  simp only [List.mem_cons, List.not_mem_nil, or_false] at hc
  obtain rfl | rfl | rfl := hc <;> exact ⟨by decide, hn, hk, by decide, rfl, List.length_replicate⟩

end Sys2Proof.Tests
end

