-- ==== Sys2Proof/Tests/Slice0.lean ====
section
/-! SUPPORT. Tests on fixed values: ill-formed commands that WellFormed refuses, and the spec's worked examples. -/
namespace Sys2Proof.Tests
open Sys2Proof.Machine
set_option Elab.async false

/-! ## WellFormed: an ill-formed command for each check -/

theorem test_wf_wide : (Instr.moveSwitch (2 ^ 32)).wf = false ∧ (Instr.moveSwitch (2 ^ 32 - 1)).wf = true := by decide
theorem test_wf_access : (Instr.csrWrite .host (2 ^ 25 - 7) 8 0).wf = false ∧ (Instr.csrWrite .host 0 3 0).wf = false
    ∧ (Instr.csrWrite .host (2 ^ 25 - 8) 8 0).wf = true := by decide
theorem test_wf_span : (Instr.inboundRead 0 0 0).wf = false ∧ wfSpan 45 (2 ^ 45 - 1) 2 = false ∧ wfSpan 45 (2 ^ 45 - 1) 1 = true := by decide
theorem test_wf_vote : (Instr.holdVote 0 (.armVote 0 0 0 true true)).wf = false ∧ (Instr.armVote 0 (.holdVote 0 0 true true)).wf = false
    ∧ (Instr.collect 0 (.collect 0 (2 ^ 16) 0 true 0)).wf = false ∧ (Instr.collect 0 (.collect 0 0 4 true 0)).wf = false
    ∧ (Instr.releaseVote 0 (.releaseVote 0 0 0 true true)).wf = true := by decide
theorem test_wf_flit : wfFlit ⟨2 ^ 16, 0, 0, 0, 0, true, true, false, [], none⟩ = false
    ∧ wfFlit ⟨0, 1, 0, 0, 0, true, true, false, [], none⟩ = false ∧ wfFlit ⟨0, 0, 0, 0, 0, true, true, false, [], none⟩ = true := by decide
theorem test_wf_header : wfHeader { scope := 4, hopsLeft := 0, origin := 0, dest := 0, id := 0 } = false
    ∧ wfHeader { scope := 3, hopsLeft := 256, origin := 0, dest := 0, id := 0 } = false
    ∧ wfHeader { scope := 3, hopsLeft := 255, origin := 0, dest := 0, id := 0 } = true := by decide
theorem test_wf_transaction : (Instr.read 0 (List.replicate 31 1)).wf = false ∧ (Instr.read 0 (2 :: List.replicate 31 0)).wf = false
    ∧ (Instr.read 0 (1 :: List.replicate 31 0)).wf = true := by decide
theorem test_wf_reply : (Instr.writeDone 0 { tag := 2 ^ 16, status := 0, data := [] }).wf = false
    ∧ (Instr.writeDone 0 { tag := 0, status := 256, data := [] }).wf = false := by decide
theorem test_wf_place : (Instr.promotion 1 (.t0 9 0 1 0)).wf = false ∧ (Instr.promotion 1 (.t0 8 32 1 0)).wf = false
    ∧ (Instr.promotion 1 (.t1 (2 ^ 45))).wf = false ∧ (Instr.promotion 1 (.t0 8 31 1 0)).wf = true := by decide
theorem test_wf_fragment : (Instr.msg 0 2 1 (List.replicate 8 0)).wf = false ∧ (Instr.msg 0 0 5 (List.replicate 8 0)).wf = false
    ∧ (Instr.msg 0 3 4 (List.replicate 8 0)).wf = true ∧ (Instr.msg 0 3 4 []).wf = false := by decide
theorem test_wf_slot : (Instr.runStart 0 0).wf = false ∧ (Instr.runStart 0 256).wf = false ∧ (Instr.runStart 0 255).wf = true := by decide

/-! ## The table's words -/

/-- No row of the table gives bits: no word spells a command, and the queue stays as it is. -/
theorem test_table_word : decodeTableWord 8 0 = none ∧ State.withFetchWord State.reset 8 0 = State.reset := by decide

/-- The update program of chapter 07, each word assembled by hand from Tables 7.4 and 7.6. -/
def updateWords : List W64 :=
  [0x0200000000000400, 0x0D00600000000004, 0x0D00700000000003, 0x0D00800000000005, 0x0800900000006666,
   0x0900900000003F66, 0x0900C0000000BF80, 0x1200A3B000000000, 0x6000000010000000, 0x6000108010000000,
   0x6000210010000000, 0x6300018010000000, 0x6300120010000000, 0x6300228010000000, 0x0300000B00000010,
   0x6200000410000000, 0x6200108410000000, 0x6200210410000000, 0x2200001810000000, 0x2300212410000000,
   0x230030A050000000, 0x230011A830000000, 0x6400008410000000, 0x6400110410000000, 0x6400208410000000,
   0x0A00108000000400, 0x6600000000000000, 0x6600100000000000, 0x6600200000000000, 0x0100000000000000]

/-- A vector word of ET F32, unmasked, of SUB 0. -/
def plainWord (d a b c : BitVec 5) (bs : Bool) (imm : BitVec 24) : VWord := ⟨0, false, 0, d, a, b, c, bs, 0, imm⟩

/-- Table 7.11, and three more words of the program. -/
theorem test_vector_words : decodeVectorWord 1 0 0x0200000000000400 = some (.setvl 1 (plainWord 0 0 0 0 false 1024))
    ∧ decodeVectorWord 1 0 0x0300000B00000010 = some (.loopN 1 11 16)
    ∧ decodeVectorWord 1 0 0x2300212410000000 = some (.vfma 1 (plainWord 2 2 9 0 true 0))
    ∧ decodeVectorWord 1 0 0x230030A050000000 = some (.vfma 1 (plainWord 3 1 8 2 true 0))
    ∧ decodeVectorWord 1 0 0x6300228010000000 = some (.topen 1 (plainWord 2 5 0 0 true 0))
    ∧ decodeVectorWord 1 7 0x0100000000000000 = some (.endTask 1 7) ∧ decodeVectorWord 1 0 0x0400000000000000 = none := by decide
theorem test_vector_encode : encodeVectorWord (.setvl 1 (plainWord 0 0 0 0 false 1024)) = some (1, 0x0200000000000400)
    ∧ encodeVectorWord (.vfma 1 (plainWord 3 1 8 2 true 0)) = some (1, 0x230030A050000000)
    ∧ encodeVectorWord (.loopN 1 11 16) = some (1, 0x0300000B00000010) ∧ encodeVectorWord .tickEmit = none := by decide

/-! ## Worked examples of the spec -/

/-- 01, the example of R25: module 4 097 at 640 GiB + 4 KiB. -/
theorem test_hall_address : hallAddress 0x1001 0x0A000001000 = 0x20020A000001000 := by decide
/-- 11, the examples of R385 and R390: unit 16 of package P4, and unit 177 of P12 once unit 16 is out. -/
theorem test_unit_of_offset : let l : Lpd := { units := List.range 256 }
    let m : Lpd := { units := (List.range 256).filter (· != 16) }
    unitAt l 0x0A000001000 = 16 ∧ packageAt l 0x0A000001000 = 4 ∧ unitAt m 0x0A000001000 = 177 ∧ packageAt m 0x0A000001000 = 12
      ∧ t1Cap m = 0x11EE0000000 := by decide +kernel
/-- 10, the example of R170: a BF16 buoy of 3 MiB. -/
theorem test_tiles : tilePitch 0x02 = 32832 ∧ tileCount (3 * 2 ^ 20) 0x02 = 96 := by decide
/-- 03, the example of R96's margin, and 13's of R447: L and the flits of one and nine slots. -/
theorem test_slots : slotLen { period := 750000, eclipse := 12000 } = 2882 ∧ slotLen { period := 375000, eclipse := 12000 } = 1417
    ∧ runRoom { period := 375000, eclipse := 12000 } 1 = 121 ∧ runRoom { period := 375000, eclipse := 12000 } 9 = 1597 := by decide
/-- 04, the examples of R152 and R158: 37.5 with margin 1, and 3.1e-5 without headroom, in E4M3. -/
theorem test_scales : selectTse [0x42160000] 1 (.fp e4m3) = 125 ∧ selectStep [0x380205FF] (.fp e4m3) 0 = 23 := by decide +kernel
/-- 04, the example of R145: 0.3 at TSE 125 goes up to 0x3A at rnd 0x123456, and down to 0x39 from F on. -/
theorem test_stochastic : (e4m3.narrow (.sr 0x123456) 2 (f32.decode 0x3E99999A)).1 = 0x3A
    ∧ (e4m3.narrow (.sr 0x99999F) 2 (f32.decode 0x3E99999A)).1 = 0x3A
    ∧ (e4m3.narrow (.sr 0x9999A0) 2 (f32.decode 0x3E99999A)).1 = 0x39 := by decide +kernel
/-- 04 R146: the published zero vector of Philox-4×32-10. -/
theorem test_philox : philox (0, 0, 0, 0) 0 0 = [0x6627E8D5, 0xE169C58D, 0xBC57AC4C, 0x9B00DBD8] := by decide +kernel
/-- 06, the example: 129 984 is written to BF16 as 0x47FE. -/
theorem test_bf16 : (bf16.narrow .rne 0 (.fin false 129984 0)).1 = 0x47FE := by decide +kernel
/-- 10 R368: the published check value of CRC-32C. -/
theorem test_crc : crc32c (ascii "123456789") = 0xE3069283 := by decide +kernel
/-- 19, the example of R634: ME_ACC_LAST of ME1 on CD6. -/
theorem test_register_offset : regAt 0x1601030 = some (.me 6 1 .accLast) ∧ regAt 0x1601034 = none := by decide +kernel
/-- 14, the example: the learning rate at step 18 of a warm-up of 2 000 steps to 3e-4 is about 2.7e-6. -/
theorem test_learning_rate : let r := lrAt { shape := 2, start := 0, peak := 0x399D4952, min := 0x37FBA882, warmup := 2000, decay := 200000 } 18
    0x36353000 < r ∧ r < 0x36354000 := by decide +kernel

/-- Buoys 1, 2, ... of formats, one tile each; accesses to them, at T0. -/
def atT0 (formats : List Nat) : List BuoyEntry × List Access :=
  (formats.zipIdx.map (fun x => oneTile (x.2 + 1) x.1), formats.zipIdx.map (fun x => ⟨x.2 + 1, 0, 4096, 0, 3⟩))

/-- The timing of one task with accesses of formats at T0. -/
def timedJob (payload : Nat) (formats : List Nat) (i : Image → Image) : Job :=
  { tm := { img := i (withTask ⟨1, 0, 0, 0⟩ (taskOn 0 payload formats.length) (atT0 formats).2 (atT0 formats).1), binding := [0], rws := {},
            units := 256 },
    beam := 0, ldie := 0, task := taskOn 0 payload formats.length, start := 0 }

/-- 05, the weight-gradient tile: its payload as Table 5.10 assembles it. -/
def gradientPayload : Nat :=
  0x0104_0501_401A_6050 + 0x0040_0020_0020_0000 * 2 ^ 64 + 0x0000_0005_0000_0003 * 2 ^ 128 + 0x0000_00A3_0000_0000 * 2 ^ 192

theorem test_gradient_fields : let t := taskOn 0 gradientPayload 3
    payloadField t 255 224 = 163 ∧ kTiles t = 64 ∧ outAction t = 3 ∧ payloadField t 55 48 = 4 ∧ payloadField t 31 24 = 64 := by decide
/-- 4 291 clocks, and 4 117 for one tile-pass. -/
theorem test_gradient_time : let j := timedJob gradientPayload [4, 5, 1] id
    matrixNominal j = 4291 ∧ tilePass j (pairClocks j.task (meMode j.task)) = 4117 := by decide +kernel
/-- 06, the FP16 chain: 1 164 clocks, and 4 207 of replays. -/
theorem test_chain_time : let p := 16 * 2 ^ 112 + 0x0102_0202_0000_0000 + 2 * 2 ^ 22 + 2 ^ 20 + 2 ^ 17 + 1 * 2 ^ 13 + 0x50
    let j := timedJob p [2, 2, 2] (fun i => { i with numeric := { i.numeric with accs := [⟨0, 2, 3, 1, 16⟩] } })
    matrixNominal j = 1164 ∧ replayClocks j = 1061 + 1061 + 2085 := by decide +kernel
/-- 07, the update program: 1 792 clocks. -/
theorem test_update_time : vectorNominal (timedJob 0 [1, 1, 2, 1, 2, 2] (fun i => { i with
      update := { progs := [⟨true, 30, 1⟩], words := 0 :: updateWords } }))
    = 1792 := by decide +kernel
/-- 07: the image check accepts the update program. -/
theorem test_update_program : progBad { progs := [⟨true, 30, 1⟩], words := 0 :: updateWords } 0 ⟨true, 30, 1⟩ = false
    ∧ programBroken { progs := [⟨true, 30, 1⟩], words := 0 :: updateWords } ⟨true, 30, 1⟩ = none := by decide +kernel
/-- 08, the attention task of Table 8.8: 8 609 clocks. -/
theorem test_attention_time : let p := 0x3E0293EE * 2 ^ 224 + 64 * 2 ^ 192 + 1000 * 2 ^ 172 + 2 * 2 ^ 136 + 4000 * 2 ^ 119 + 3937 * 2 ^ 102
      + 1 * 2 ^ 85 + 1 * 2 ^ 33 + 1 * 2 ^ 28 + 2 ^ 27 + 2 ^ 26 + 2 ^ 25 + 1 * 2 ^ 18 + 2 * 2 ^ 15 + 3 * 2 ^ 12
    attentionNominal (timedJob p [2, 2, 2, 1] id) = 8609 := by decide +kernel
/-- 20, the example of R641: 830 W of base and options, 652.8 W of matrix and 102.4 W of vector engines. -/
theorem test_draw_weights : wattsOf 1 * 16 * 340000 * 10 / 375000 = 6528 ∧ wattsOf 2 * 16 * 200000 * 10 / 375000 = 1024 := by decide

/-! ## One step of a small state -/

/-- 02 R611: two thirds of a nanosecond each, from reset with input power. -/
theorem test_idle_clock : step { State.reset with lnt := { power := true, rtcThirds := 2 } }
    = .next (idleClock { State.reset with lnt := { power := true, rtcThirds := 2 } }) := rfl
/-- 01: the module is in LANTERN at reset, without input power, and its first event carries the state it came from. -/
theorem test_power_up : (match step { State.reset with glb := { state := .off }, pending := [.inputPowerPresent] } with
    | .next t => (t.glb.state, t.pending, (t.ev.ring.map (·.code)).head?)
    | _ => (.off, [], none)) = (.lantern, [], some 0x0100) := by decide +kernel

end Sys2Proof.Tests
end

