-- ==== Sys2Proof/Tests/Witness1.lean ====
section
/-! SUPPORT. States that meet the hypotheses of the statements O1 to O29, clause by clause. -/
namespace Sys2Proof.Tests
open Sys2Proof.Machine Sys2Proof.Claims
set_option Elab.async false

/-! ## O1, O2, O5 to O10 -/

theorem witness_StepRunsFront : ({ State.reset with pending := [.tickEmit] }).pending = Instr.tickEmit :: [] := rfl

def off : State := { State.reset with glb := { state := .off } }

theorem witness_IdleStep_off : off.pending = [] ∧ off.glb.state = .off := by decide
theorem witness_IdleStep_on : State.reset.pending = [] ∧ State.reset.glb.state ≠ .off := by decide

theorem witness_Supplies_off : off.glb.state = .off := rfl
theorem witness_Supplies_lantern : State.reset.glb.state = .lantern ∧ State.reset.lnt.power = false
    ∧ State.reset.lnt.zeroizePending = false ∧ State.reset.lnt.heldAlarms = [] := by decide

/-- Boot stage 0x01 with the good slot in A. -/
def bootA : State :=
  { booting 1 with nor := { slotA := goodSlot }, env := { firmwareKey := slotKey, firmwareModulus := slotModulus } }

/-- Boot stage 0x01 with B active and the good slot in A alone. -/
def bootB : State := { bootA with nor := { slotA := goodSlot, active := true } }

theorem witness_Boot_power (n : Nat) : (booting n).glb.state = .lantern ∧ (booting n).lnt.power = true ∧ (booting n).glb.bootStage = n :=
  ⟨rfl, rfl, rfl⟩
theorem witness_Boot_slot : bootA.glb.state = .lantern ∧ bootA.lnt.power = true ∧ bootA.glb.bootStage = 1 ∧ passed.hubOk = true
    ∧ slotValid bootA bootA.nor.active = true := ⟨rfl, rfl, rfl, rfl, slot_good⟩
theorem witness_Boot_otherSlot : bootB.glb.state = .lantern ∧ bootB.lnt.power = true ∧ bootB.glb.bootStage = 1
    ∧ slotValid bootB bootB.nor.active = false ∧ slotValid bootB (!bootB.nor.active) = true :=
  ⟨rfl, rfl, rfl, by decide +kernel, slot_good⟩
theorem witness_Boot_noSlot : (booting 1).glb.bootStage = 1 ∧ slotValid (booting 1) false = false ∧ slotValid (booting 1) true = false :=
  ⟨rfl, by decide +kernel, by decide +kernel⟩
theorem witness_Boot_region : regionSizeOk (booting 5).nor = true
    ∧ regionSizeOk { regionBytes := 2 ^ 30 * 15 } = false ∧ regionSizeOk { regionBytes := 2 ^ 30 * 257 } = false
    ∧ regionSizeOk { regionBytes := 2 ^ 30 * 16 } = true ∧ regionSizeOk { regionBytes := 2 ^ 30 * 256 } = true := by decide
theorem witness_Boot_last : let s : State := { booting 7 with fab := { discovery := 2 } }
    s.glb.state = .lantern ∧ s.lnt.power = true ∧ s.glb.bootStage = 7 ∧ s.fab.discovery = 2 := by decide

theorem witness_Comparators : ready.lnt.power = true ∧ ready.glb.state ≠ .off ∧ ready.nor.policy = none ∧ ready.lnt.now &&& 4 = 0
    ∧ ready.lnt.now &&& 8 = 0 ∧ ready.lnt.now &&& 16 = 0 ∧ ready.lnt.now &&& 32 = 0 := by decide
theorem witness_Comparators_cellOnly : State.reset.lnt.power = false ∧ State.reset.glb.state ≠ .off ∧ State.reset.nor.policy = none
    ∧ State.reset.lnt.now &&& 4 = 0 := by decide

def zeroizing : State := { ready with kpr := { zeroizeBusy := true }, glb := { ready.glb with state := .recovery } }

theorem witness_Zeroize : zeroizing.kpr.zeroizeBusy = true ∧ inJob zeroizing = false ∧ zeroizing.glb.state = .recovery := by decide

theorem witness_Sensors : ready.lnt.power = true ∧ (950 : Int) < (951#16).toInt ∧ (899#16).toInt < 900 ∧ ready.kpr.tempArmed = true := by
  decide

theorem witness_DieToDie : portInService ready (.hub 0) = true ∧ portInService ready (.ring 7) = true
    ∧ replaysOf ready.glb (.hub 0) ≠ 2 ∧ ready.glb.state ≠ .running := by decide
theorem witness_DieToDie_third : let s : State := { ready with glb := { ready.glb with replays := [(.ring 7, 2)] } }
    portInService s (.ring 7) = true ∧ replaysOf s.glb (.ring 7) = 2 := by decide
theorem witness_DieToDie_running : portInService (running bare) (.hub 3) = true ∧ (running bare).glb.state = .running := by decide

/-! ## O11 to O14: ticks -/

def follower : State :=
  setLink 3 { state := 2, delay := 3 } (setLink 2 { state := 2, delay := 0 }
    { ready with beam := { countValid := true, count := 41, treeLink := some 2 } })

theorem witness_TimeMaster : let s : State := { ready with beam := { role := .master, countValid := true } }
    s.beam.role = .master ∧ s.beam.countValid = true := by decide
theorem witness_TimeMaster_not : ready.beam.role ≠ .master := by decide
theorem witness_Ticks : (linkOf follower 2).state = 2 ∧ (linkOf follower 3).state = 2 ∧ follower.beam.role ≠ .master
    ∧ follower.beam.countValid = true := by decide
/-- The window's ends (R57): 100 ns is within, a picosecond more is not; Link 3 delays by 2 ns. -/
theorem witness_Ticks_window : compensated (linkOf follower 2) 0 100001 = 100001 ∧ compensated (linkOf follower 2) 0 (-100001) = -100001
    ∧ 100000 < (compensated (linkOf follower 2) 0 (-100001)).natAbs ∧ (compensated (linkOf follower 2) 0 100000).natAbs ≤ 100000
    ∧ (compensated (linkOf follower 3) 0 2000).natAbs = 0 := by decide
theorem witness_Ticks_accepted : tickLink follower.beam = some 2 ∧ follower.beam.count.toNat < fullCount follower 42
    ∧ fullCount follower 42 < 2 ^ 64 := by decide
theorem witness_Ticks_other : tickLink follower.beam ≠ some 3 ∧ follower.beam.count.toNat + 1 = fullCount follower 42 := by decide
theorem witness_Missing_other : let s : State := { follower with beam := { follower.beam with arrivals := [(3, 10)] } }
    s.beam.role ≠ .master ∧ s.beam.countValid = true ∧ s.beam.arrivals = [(3, 10)] := by decide
theorem witness_Missing_none : follower.beam.arrivals = [] ∧ follower.beam.holdover = false := by decide
theorem witness_Takeover : let s : State := { child with beam := { child.beam with role := .standby, missed := 2 } }
    s.beam.role = .standby ∧ 2 ≤ s.beam.missed ∧ s.glb.moduleValid = true := by decide
def heldOver (s : State) : State := { s with beam := { s.beam with holdover := true, holdTicks := 160 } }
theorem witness_Holdover : (heldOver root).beam.holdover = true ∧ (heldOver root).beam.holdTicks = 160 ∧ inJob (heldOver root) = true
    ∧ inJob (heldOver ready) = false ∧ (heldOver ready).beam.holdTicks = 160 := by decide

/-! ## O15 to O22: beams -/

/-- The tick of a beam that has not begun. -/
def due (s : State) : State := { s with beam := { s.beam with atTick := false } }

theorem witness_BeamTick_idle : let s : State := { ready with beam := { countValid := true } }
    s.beam.countValid = true ∧ s.beam.count.toNat % beamTicks (jobRws s) = 0 ∧ s.beam.atTick = false ∧ inJob s = false
      ∧ s.beam.halt = none := by decide
theorem witness_BeamTick_halt : let s : State := due { root with beam := { root.beam with halt := some ⟨0, 1⟩ } }
    s.beam.countValid = true ∧ s.beam.count.toNat % beamTicks (jobRws s) = 0 ∧ s.beam.atTick = false ∧ inJob s = true
      ∧ s.beam.halt = some ⟨0, 1⟩ ∧ 0 ≤ s.beam.count.toNat ∧ s.glb.hostLostAtHalt = none ∧ s.glb.recoveryAtHalt = false := by decide
theorem witness_BeamTick_commit :
    let s : State := { armed bare with img := { (armed bare).img with voteResult := some true } }
    s.beam.countValid = true ∧ s.beam.count.toNat % beamTicks (jobRws s) = 0 ∧ s.beam.atTick = false ∧ s.glb.state = .armed
      ∧ s.beam.halt = none ∧ s.img.stage = .armed ∧ s.img.kind = .full ∧ s.img.checked = some bare
      ∧ s.img.armedBeam * beamTicks s.shadow ≤ s.beam.count.toNat ∧ s.img.voteResult = some true := by decide
theorem witness_BeamTick_withheld : let s := armed bare
    s.beam.countValid = true ∧ s.beam.count.toNat % beamTicks (jobRws s) = 0 ∧ s.beam.atTick = false ∧ s.glb.state = .armed
      ∧ s.beam.halt = none ∧ s.img.stage = .armed ∧ s.img.checked = some bare
      ∧ s.img.armedBeam * beamTicks s.shadow ≤ s.beam.count.toNat ∧ s.img.voteResult ≠ some true ∧ s.glb.heldFences = [] := by decide
theorem witness_HoldResults (ok : Bool) : let s : State := due { running bare with beam := { (running bare).beam with holdResults := [(0, ok)] } }
    s.beam.countValid = true ∧ s.beam.count.toNat % beamTicks s.live = 0 ∧ s.beam.atTick = false ∧ s.glb.state = .running
      ∧ s.img.live = some bare ∧ s.beam.halt = none ∧ s.img.release = none ∧ s.img.stage ≠ .armed
      ∧ SMap.find? s.beam.holdResults s.beam.count.toNat = some ok := by cases ok <;> decide

/-- A vector engine of die 0 whose one task runs an empty payload. -/
def veTaskImage : Image := withTask ⟨2, 0, 1, 0⟩ (taskOn 0 0 0) [] []

theorem witness_Eclipse : ready.beam.inEclipse = false ∧ ready.glb.state ≠ .off := by decide
theorem witness_Eclipse_unstarted : let s := running veTaskImage
    s.beam.inEclipse = false ∧ s.glb.state ≠ .off ∧ planRuns s = true ∧ s.img.live = some veTaskImage
      ∧ unstarted s veTaskImage = some (taskOn 0 0 0) := by decide
theorem witness_TaskStart : let s := running veTaskImage
    planRuns s = true ∧ s.img.live = some veTaskImage ∧ veTaskImage.engines[0]? = some ⟨2, 0, 1, 0⟩ ∧ runsTasks 2 = true
      ∧ nextTask s veTaskImage 0 = some (taskOn 0 0 0) ∧ beamDue s veTaskImage s.beam.planBeam = true
      ∧ mayStart (advanceTo 5 s) veTaskImage (taskOn 0 0 0) = true := by decide +kernel
/-- The last offset at which a task starts is the clock before P − E (R65). -/
theorem witness_TaskStart_last : mayStart (advanceTo 362999 (running veTaskImage)) veTaskImage (taskOn 0 0 0) = true
    ∧ mayStart (advanceTo 363000 (running veTaskImage)) veTaskImage (taskOn 0 0 0) = false := by decide +kernel

/-- The vector task under way. -/
def veRun : RunTask := { task := taskOn 0 0 0, accs := [], planBeam := 0, start := 0 }

theorem witness_Overrun : let s := updVeUnit 1 (VeUnit.started veRun) (running veTaskImage)
    s.img.live = some veTaskImage ∧ mayOverrun s = true ∧ veTaskImage.engines[0]? = some ⟨2, 0, 1, 0⟩
      ∧ unitRun s ⟨2, 0, 1, 0⟩ = some veRun ∧ s.beam.ownFault = 0 := by decide

theorem witness_Halts : groupImage root = some (pairOf 0) ∧ inJob root = true ∧ isMember root 0 = true
    ∧ jobTag (pairOf 0) = 7#24 ∧ (8#24) ≠ jobTag (pairOf 0) ∧ root.fab.haltSeen.contains (countFrom32 root 5) = false := by decide
theorem witness_Halts_end : let s : State := { ready with glb := { ready.glb with state := .halted, retrain := [.hub 2] } }
    s.glb.state = .halted ∧ s.glb.heldFences = [] ∧ DiePort.hub 2 ∈ s.glb.retrain := by decide

/-- A member that has sampled and sent each of its votes. -/
def voted (s : State) : State :=
  { s with
    beam := { s.beam with ownVotes := [(nextTick s, true)] }
    img := { s.img with voteSent := true, ownArm := some true, release := some 0, ownRelease := some true } }

theorem witness_Votes_down : groupImage (voted child) = some (pairOf 1) ∧ inJob (voted child) = true ∧ isMember (voted child) 0 = true
    ∧ (treeParent (pairOf 1)).isSome = true ∧ ownVote (voted child) (pairOf 1) .hold = some (holdBallot (voted child) (pairOf 1), true)
    ∧ ownVote (voted child) (pairOf 1) .arm = some (armBallot (voted child) (pairOf 1), true)
    ∧ ownVote (voted child) (pairOf 1) .release = some (releaseBallot (pairOf 1) 0, true) := by decide
theorem witness_Votes_root : groupImage (voted root) = some (pairOf 0) ∧ inJob (voted root) = true ∧ isMember (voted root) 0 = true
    ∧ treeParent (pairOf 0) = none ∧ treeChildren (pairOf 0) = [1] ∧ groupLink (voted root) (moduleAt (pairOf 0) 1) = some 0
    ∧ (voted root).beam.votes = [] ∧ ownVote (voted root) (pairOf 0) .hold = some (holdBallot (voted root) (pairOf 0), true)
    ∧ ownVote (voted root) (pairOf 0) .arm = some (armBallot (voted root) (pairOf 0), true)
    ∧ ownVote (voted root) (pairOf 0) .release = some (releaseBallot (pairOf 0) 0, true) := by decide +kernel
theorem witness_Collect : let s : State := { root with fab := { root.fab with collects := [⟨0, 2, some 1, []⟩] } }
    groupImage s = some (pairOf 0) ∧ inJob s = true ∧ isMember s 0 = true ∧ treeParent (pairOf 0) = none
      ∧ treeChildren (pairOf 0) = [1] ∧ groupLink s (moduleAt (pairOf 0) 1) = some 0
      ∧ collectOf s.fab 0 = some ⟨0, 2, some 1, []⟩ := by decide +kernel
theorem witness_HoldMissing : inJob (voted root) = true ∧ (voted root).beam.atTick = true ∧ holdMissing (voted root) = true := by decide

/-! ## O23 to O26: the image -/

theorem witness_Reaches : Reaches .host .imgCtrl 1 ready ∧ Reaches .mgmt .imgCtrl 2 ready ∧ Reaches .host .imgCtrl 3 ready
    ∧ Reaches .host .imgCtrl 4 ready ∧ Reaches .host .imgCtrl 5 ready ∧ Reaches .host .imgData 9 ready
    ∧ Reaches .mgmt .imgLoad 1 ready ∧ Reaches .host .imgArm 0 ready ∧ Reaches .host .imgRelease 0 ready := by
  unfold Reaches; decide

/-- READY with a staged set at a stage. -/
def staged (st : Stage) (k : StageKind) (s : State) : State := { s with img := { s.img with stage := st, kind := k, checked := some bare } }

theorem witness_Staging : (staged .empty .none ready).img.stage = .empty ∧ (staged .failed .full ready).img.stage = .failed
    ∧ (staged .checked .full ready).img.stage ≠ .empty ∧ (staged .checked .full ready).img.stage ≠ .failed
    ∧ mayAppend (staged .filling .full ready) 8 = true ∧ mayAppend (staged .checked .full ready) 8 = false
    ∧ regionSize ready.host = 2 ^ 30 ∧ mayAppend (staged .filling .full ready) 4096 = true := by decide
/-- IMG_LOAD at the end of the host region, and one page beyond it (R105). -/
theorem witness_Staging_load : let off := (0x0003FFFF00000001#64).toNat / 2 ^ 32 * 4096
    let n := (0x0003FFFF00000001#64).toNat % 2 ^ 20 * 4096
    n ≠ 0 ∧ off + n ≤ regionSize ready.host ∧ regionSize ready.host < (0x0004000000000001#64).toNat / 2 ^ 32 * 4096 + n := by decide
theorem witness_Staging_pull : ({ ready with img := { load := some (0, 4096) } }).img.load = some (0, 4096) := rfl

/-- A running module with backed T1, and a register delta under check. -/
def regDelta : State := staged .checking .regs { running bare with lpd := { units := List.range 64 } }

theorem witness_Check_pass : regDelta.img.stage = .checking ∧ firstFailure regDelta = none := by decide +kernel
theorem witness_Check_fail : (staged .checking .full ready).img.stage = .checking
    ∧ (firstFailure (staged .checking .full ready)).isSome = true := by decide +kernel
theorem witness_Discard : (staged .armed .full ready).img.stage = .armed ∧ (staged .filling .full ready).img.stage ≠ .armed := by decide

theorem witness_Arm : mayArm (staged .checked .full ready) = true ∧ ready.orbit.restore ≠ 1 ∧ headerBeam (staged .checked .full ready) = 0
    ∧ stagedBeam (staged .checked .full ready) + 4 ≤ 4 ∧ 3 < stagedBeam (staged .checked .full ready) + 4
    ∧ mayArm (staged .filling .full ready) = false ∧ mayArm (staged .checked .delta (running bare)) = true := by decide
theorem witness_Arm_header : let s : State := { ready with img := { stage := .checked, kind := .full, checked := some { bare with commitBeam := 9 } } }
    mayArm s = true ∧ headerBeam s = 9 ∧ stagedBeam s + 4 ≤ 9 ∧ (8 : Nat) ≠ headerBeam s := by decide
theorem witness_Arm_restore : let s : State := { staged .checked .full ready with orbit := { restore := 1 } }
    mayArm s = true ∧ s.orbit.restore = 1 := by decide
theorem witness_Abort : (armed bare).img.stage = .armed ∧ (armed bare).img.voteSent = false ∧ (armed bare).glb.heldFences = []
    ∧ (staged .checked .full ready).img.stage ≠ .armed
    ∧ ({ (armed bare).img with voteSent := true }).voteSent = true := by decide

theorem witness_Release : let s := running bare
    s.glb.state = .running ∧ s.img.stage ≠ .armed ∧ s.img.release = none ∧ beamNumber s + 4 ≤ 4 ∧ 3 < beamNumber s + 4
      ∧ releaseRefusal 4 s = none ∧ ready.glb.state ≠ .running ∧ (staged .armed .delta s).img.stage = .armed
      ∧ ({ s.img with release := some 4 }).release ≠ none ∧ s.img.live.isSome = true := by decide

/-- The one plan beam is the gate beam, and the gate has its result. -/
def gated : State :=
  { running { bare with plans := { bare.plans with beams := [⟨0, 0, 0xFFFF, 1⟩] } } with
    rdx := { gate := some true }, num := { warmup := [(4, 1)] } }

theorem witness_Warmup : gated.img.live = some { bare with plans := { bare.plans with beams := [⟨0, 0, 0xFFFF, 1⟩] } } ∧ planRuns gated = true
    ∧ isGate { bare with plans := { bare.plans with beams := [⟨0, 0, 0xFFFF, 1⟩] } } gated.beam.planBeam = true
    ∧ gated.rdx.gate.isSome = true ∧ warmupLeft gated.num 4 = 1 := by decide

/-! ## O27 to O29: registers -/

theorem witness_Selectors : Reaches .host .rdxCensusSel (2 ^ 32 - 1) ready ∧ Reaches .mgmt .pleBuoySel 7 ready
    ∧ Reaches .host .lpdUnitSel 255 ready ∧ Reaches .host .fabLinkSel 47 ready ∧ Reaches .host .fabRouteSel (2 ^ 13 - 1) ready
    ∧ Reaches .host .rdxEpochSel (2 ^ 16 - 1) ready ∧ Reaches .host .rdxLayerSel 0 ready ∧ Reaches .host .evSel 0 ready
    ∧ liveBuoy ready 7 = none := by unfold Reaches; decide

/-- A buoy of one FP32 tile, homed in T1 at 0. -/
def plainBuoy (id : Nat) : BuoyEntry :=
  { id := id, flags := 0, size := 1, format := 1, shape := 0, layer := 0, ownerRank := 0, initOffset := 0, initTier := 1, cls := 1,
    residence := List.replicate 24 0 }

theorem witness_Selectors_buoy : (liveBuoy (running { bare with buoys := [plainBuoy 7] }) 7).isSome = true := by decide

theorem witness_Clears (d : Fin 8) (u : Fin 2) (k : Fin 9) (v : Nat) : Reaches .host (.me d u .clear) v ready
    ∧ Reaches .host (.ve d u .clear) v ready ∧ Reaches .host (.ae d .clear) v ready ∧ Reaches .host (.gse d .clear) v ready
    ∧ Reaches .host (.lye d .clear) v ready ∧ Reaches .host (.tst k .clear) v ready ∧ Reaches .host .pleClear v ready
    ∧ Reaches .host .lpdClear v ready ∧ Reaches .host .fabClear v ready ∧ Reaches .host .rdxClear v ready :=
  ⟨rfl, rfl, rfl, rfl, rfl, rfl, rfl, rfl, rfl, rfl⟩

theorem witness_PlainWrites : Reaches .host .aptAperture (2 ^ 13 - 1) ready ∧ Reaches .mgmt .aptHostFlags 1 ready
    ∧ Reaches .mgmt .lntRtcAdjust 5 ready ∧ hostServed ready = true ∧ Reaches .host .fabLinkDisable (2 ^ 47) ready
    ∧ mayTrain ready 47 = true ∧ (linkOf ready 0).state ≠ 4 := by unfold Reaches; decide
theorem witness_PlainWrites_freed : (linkOf (setLink 5 { state := 4 } ready) 5).state = 4 := by decide

end Sys2Proof.Tests
end

