-- ==== Sys2Proof/Tests/Witness2.lean ====
section
/-! SUPPORT. Witnesses that the hypotheses of the statements O30 to O35 can be met: one theorem for each, with the states they stand on. -/
namespace Sys2Proof.Tests
open Sys2Proof.Machine Sys2Proof.Claims
set_option Elab.async false

/-- An image whose one task runs the words of a program on vector engine 1 of die 0. -/
def vecImage (ws : List W64) (update : Bool) (accs : List Access) (buoys : List BuoyEntry) : Image :=
  { withTask ⟨2, 0, 1, 0⟩ (taskOn 0 0 accs.length) accs buoys with update := { progs := [⟨update, ws.length, 0⟩], words := ws } }

/-- The task under way. -/
def vecRun (accs : List Access) : RunTask := { task := taskOn 0 0 accs.length, accs := accs, planBeam := 0, start := 0 }

/-- Every field of an empty payload is 0. -/
theorem payloadField_zero {t : TaskEntry} (h : t.payload = 0) (hi lo : Nat) : payloadField t hi lo = 0 := by
  simp [payloadField, bits, h]

theorem vecImage_program (ws : List W64) (update : Bool) (accs : List Access) (buoys : List BuoyEntry) :
    programOf (vecImage ws update accs buoys) (vecRun accs).task = some ⟨update, ws.length, 0⟩ := by
  unfold programOf
  rw [payloadField_zero rfl]
  rfl

/-- The engine runs the task, with the registers given. -/
def vecState (x : W64) (update : Bool) (accs : List Access) (buoys : List BuoyEntry) (r : VeRegs) : State :=
  { running (vecImage [x] update accs buoys) with ve := [(1, { run := some (vecRun accs), regs := { r with pc := 0 } })] }

/-- At the word x, whatever it is. -/
def atX (x : W64) (r : VeRegs) : State := vecState x false [] [] r

theorem vecState_task (x : W64) (update : Bool) (accs : List Access) (buoys : List BuoyEntry) (r : VeRegs) :
    veTask (vecState x update accs buoys r) 1 = some (vecImage [x] update accs buoys, vecRun accs) := rfl

theorem vecState_atWord (x : W64) (update : Bool) (accs : List Access) (buoys : List BuoyEntry) (r : VeRegs) :
    atWord (vecState x update accs buoys r) 1 x = true := by
  have h : programWord (vecImage [x] update accs buoys) (vecRun accs).task 0 = some x := by
    unfold programWord
    rw [vecImage_program]
    rfl
  unfold atWord
  rw [vecState_task]
  exact (congrArg (fun y => y == some x) h).trans (beq_self_eq_true (some x))

/-- A word with every field zero. -/
def blankWord : VWord := ⟨0, false, 0, 0, 0, 0, 0, false, 0, 0⟩

/-! ## O30 to O34: registers -/

theorem witness_AtWord (op : BitVec 8) (w : VWord) : atWord (atX (VWord.encode op w) {}) 1 (VWord.encode op w) = true :=
  vecState_atWord _ _ _ _ _
theorem witness_Sget (w : VWord) : veTask (atX (VWord.encode 0x0D w) {}) 1 = some (vecImage [VWord.encode 0x0D w] false [] [], vecRun [])
    ∧ updateTask (vecImage [VWord.encode 0x0D w] false [] []) (vecRun []).task = false
    ∧ updateTask (vecImage [VWord.encode 0x0D w] true [] []) (vecRun []).task = true
    := ⟨rfl, by unfold updateTask; rw [vecImage_program]; rfl, by unfold updateTask; rw [vecImage_program]; rfl⟩
theorem witness_Loop (body : BitVec 16) (count : BitVec 32) : atWord (atX (loopWord body count) {}) 1 (loopWord body count) = true
    ∧ (veUnit (atX (loopWord body count) {}) 1).regs.loops = [] := ⟨vecState_atWord _ _ _ _ _, rfl⟩
/-- The ends of a loop's body: the last word of it, with one more turn and with none. -/
theorem witness_LoopEnd : let f : LoopFrame := ⟨4, 3, 2, 0⟩
    (6 : Nat) + 1 = f.first + f.body ∧ f.index + 1 < f.count ∧ (5 : Nat) + 1 ≠ f.first + f.body
      ∧ ({ f with index := 1 }).count ≤ ({ f with index := 1 }).index + 1 := by decide
theorem witness_End : veTask (atX 0x0100000000000000#64 {}) 1 = some (vecImage [0x0100000000000000#64] false [] [], vecRun [])
    ∧ atWord (atX 0x0100000000000000#64 {}) 1 0x0100000000000000#64 = true
    ∧ 374999 < periodOf (atX 0x0100000000000000#64 {}).live := ⟨rfl, rfl, by decide⟩
theorem witness_Canonical (x : W64) : Canonical (veUnit (atX x {}) 1).regs := ⟨rfl, rfl⟩
theorem witness_Vshr (w : VWord) : let a : VWord := { w with et := 3 }
    let b : VWord := { w with et := 4 }
    a.et.toNat = 3 ∧ b.et.toNat = 4 ∧ ({ w with m := false } : VWord).m = false ∧ ({ w with bs := true } : VWord).bs = true := ⟨rfl, rfl, rfl, rfl⟩
theorem witness_Pairs : ({ blankWord with et := 0, d := 30 }).d.toNat < 31 := by decide
/-- VCVT between F32 and BF16, and from a byte format. -/
theorem witness_Vcvt : (sideElem 0 0).isSome = true ∧ (sideElem 1 0).isSome = true ∧ (sideElem 5 0x10).isSome = true := by decide
theorem witness_Inactive : active { blankWord with m := true } {} 0 = false := rfl

/-! ## O35: tiles -/

/-- A zero payload of 32-bit elements. -/
def zeros : Bytes := List.replicate 65536 0

theorem zeros_ok : PlainOk 1 5 0 zeros := zero_ok (by decide) (by decide) (by decide)

/-- The one access of the task: buoy 5's tile 0, budgeted for T0. -/
def tileAccess : Access := ⟨5, 0, 1, 0, 1⟩

/-- At a tile instruction; buoy 5's tile in the deep tier holds the bytes given. -/
def atTile (op : BitVec 8) (w : VWord) (b : Bytes) (r : VeRegs) : State :=
  deepIn 5 1 [(0, some b)] (vecState (VWord.encode op w) false [tileAccess] [oneTile 5 1] r)

theorem atTile_task (op : BitVec 8) (w : VWord) (b : Bytes) (r : VeRegs) :
    veTask (atTile op w b r) 1 = some (vecImage [VWord.encode op w] false [tileAccess] [oneTile 5 1], vecRun [tileAccess]) := rfl

theorem atTile_atWord (op : BitVec 8) (w : VWord) (b : Bytes) (r : VeRegs) : atWord (atTile op w b r) 1 (VWord.encode op w) = true :=
  vecState_atWord _ _ _ _ _

/-- TLOAD and TOPEN: a tile in its access, one beyond it, and a good and a bad tile. -/
theorem witness_VecTile (op : BitVec 8) : vecTile (vecImage [VWord.encode op blankWord] false [tileAccess] [oneTile 5 1])
      (vecRun [tileAccess]) blankWord {} = some ⟨oneTile 5 1, 0, 0⟩
    ∧ vecTile (vecImage [VWord.encode op blankWord] false [tileAccess] [oneTile 5 1]) (vecRun [tileAccess]) { blankWord with imm := 1 } {}
      = none := ⟨rfl, rfl⟩
theorem witness_Fetched (op : BitVec 8) (w : VWord) : let s := atWordStart 1 (atTile op w (plainTile 1 5 0 zeros) {})
    fetchTile (veCode 1) 0 (oneTile 5 1) 0 0 s = (.tile (plainTile 1 5 0 zeros), s)
      ∧ numericBad (Header.parse (plainTile 1 5 0 zeros)) 1 (vectorShaped (oneTile 5 1)) = false
      ∧ identityBad (Header.parse (plainTile 1 5 0 zeros)) 5 0 = false :=
  ⟨deep_fetch _ _ (e := oneTile 5 1) rfl rfl zeros_ok, plain_numeric zeros_ok _, plain_identity zeros_ok⟩
theorem witness_FetchFails (op : BitVec 8) (w : VWord) : let s := atWordStart 1 (atTile op w [] {})
    fetchTile (veCode 1) 0 (oneTile 5 1) 0 0 s = (.failed, s) := rfl

/-- The engine's stream buffer holds a tile of logical engine 3's task 9. -/
def streaming (s : State) : State :=
  { s with ve := [(1, { run := some (vecRun [tileAccess]), stream := [⟨plainTile 1 0 9 zeros, 3, 9⟩] })] }

theorem witness_Tstream : let s := streaming (atTile 0x61 blankWord [] {})
    atWord s 1 (VWord.encode 0x61 blankWord) = true ∧ (veUnit s 1).stream = [⟨plainTile 1 0 9 zeros, 3, 9⟩]
      ∧ (plainTile 1 0 9 zeros).length = 65600 ∧ tileCrcOk (plainTile 1 0 9 zeros) = true
      ∧ numericBad (Header.parse (plainTile 1 0 9 zeros)) 0x01 false = false
      ∧ identityBad (Header.parse (plainTile 1 0 9 zeros)) 0 9 = false
      ∧ (veUnit (atTile 0x61 blankWord [] {}) 1).stream = [] := by
  have h : PlainOk 1 0 9 zeros := zero_ok (by decide) (by decide) (by decide)
  have hl : (plainTile 1 0 9 zeros).length = 65600 := by
    unfold plainTile
    rw [makeTile_length, zeros_ok.2.2.2.2.2]
    decide
  exact ⟨vecState_atWord _ _ [tileAccess] [oneTile 5 1] {}, rfl, hl, makeTile_crcOk _ _, plain_numeric h _,
    plain_identity h, rfl⟩

/-- VL 1024, the read and write buffers in use. -/
def buffers : VeRegs :=
  { vl := 1024, rb := [(0, plainTile 1 5 0 zeros)], wb := [(0, some ⟨0, 0, []⟩)] }

/-- The last element that fits, and one beyond it (R257). -/
theorem witness_Elements (w : VWord) (hw : w = { blankWord with imm := 15360 }) : vlen w buffers ≠ 0
    ∧ firstElem w buffers + vlen w buffers ≤ 16384 ∧ 16384 < firstElem { blankWord with imm := 15361 } buffers + vlen w buffers
    ∧ writeBuf buffers 0 = some ⟨0, 0, []⟩ := by subst hw; decide
theorem witness_Vld : (loadedElems 0 0 (plainTile 1 5 0 zeros)).isSome = true ∧ loadedElems 1 0 (plainTile 1 5 0 zeros) = none := by
  have h : (Header.parse (plainTile 1 5 0 zeros)).format = 1 :=
    congrArg Header.format (plain_parse zeros zeros_ok.1 zeros_ok.2.1 zeros_ok.2.2.1 zeros_ok.2.2.2.1)
  constructor <;> simp only [loadedElems, h] <;> rfl

/-- TWRITE of an integer tile and of a real one, into T1. -/
theorem witness_Twrite (op : BitVec 8) (w : VWord) : let i := vecImage [VWord.encode op w] false [tileAccess] [oneTile 5 1]
    let j := vecImage [VWord.encode op w] false [tileAccess] [oneTile 5 0x11]
    (vecRun [tileAccess]).accs[0]? = some tileAccess ∧ buoyEntry i 5 = some (oneTile 5 1) ∧ buoyEntry j 5 = some (oneTile 5 0x11)
      ∧ (elemOf (oneTile 5 1).format).elim false (·.isInt32) = false ∧ (elemOf (oneTile 5 0x11).format).elim false (·.isInt32) = true :=
  ⟨rfl, rfl, rfl, rfl, rfl⟩
/-- A write into T1 goes through. -/
theorem witness_TwriteDone (who k : Nat) (le : Option Nat) (b : Bytes) (e : BuoyEntry) (s : State) (a : Nat)
    (h : (buoyOf s e.id).auth.place = .t1 a) : (writeTile who le e k b s).1 = true := by
  unfold writeTile storeTile
  simp only [h]
theorem witness_TwriteNarrowed (who k ord : Nat) (le : Option Nat) (axis : Bool) (xs : List Nat) (i : Image) (e : BuoyEntry) (s : State) (a : Nat)
    (h : (buoyOf s e.id).auth.place = .t1 a) : (writeNarrowed who le i e k ord axis xs s).1 = true :=
  witness_TwriteDone who k le _ e _ a h
theorem witness_TwritePlace (op : BitVec 8) (w : VWord) :
    (buoyOf (vecState (VWord.encode op w) false [tileAccess] [oneTile 5 1] buffers) 5).auth.place = .t1 0 := rfl

end Sys2Proof.Tests
end

