-- ==== Sys2Proof/Tests/Witness3.lean ====
section
/-! SUPPORT. Witnesses that the hypotheses of the statements O36 to O39 can be met: one theorem for each, with the states they stand on. -/
namespace Sys2Proof.Tests
open Sys2Proof.Machine Sys2Proof.Claims
set_option Elab.async false

/-- Four bytes for each of 16 384 elements, all zero. -/
def zeroTile : Bytes := List.replicate 65536 0

/-- A buoy of tiles of a format in the deep tier. -/
def deepBuoy (code size : Nat) : BuoyEntry := { oneTile 5 code with size := size }

/-- The one access of an engine's task: eight tiles of buoy 5, budgeted for T0. -/
def eightTiles : Access := ⟨5, 0, 8, 0, 3⟩

/-- The engine's task. -/
def engRun (payload : Nat) : RunTask := { task := taskOn 0 payload 1, accs := [eightTiles], planBeam := 0, start := 0 }

/-- The image of the task. -/
def engImage (payload code size : Nat) : Image :=
  { withTask ⟨1, 0, 0, 1⟩ (taskOn 0 payload 1) [eightTiles] [deepBuoy code size] with engines := [⟨1, 0, 0, 1⟩, ⟨2, 0, 1, 0⟩] }

/-- The task runs on the engines of die 0; buoy 5's tiles stand in the deep tier. -/
def engWorld (payload code size : Nat) : State :=
  deepIn 5 code ((List.range 8).map (fun k => (k, some (plainTile code 5 k zeroTile))))
    { running (engImage payload code size) with
      me := [(0, { run := some (engRun payload) })], ae := [(0, { run := some (engRun payload) })],
      gse := [(0, { run := some (engRun payload) })], lye := [(0, { run := some (engRun payload) })] }

/-- A tile of the buoy that every check passes. -/
def goodRef (code size k : Nat) : TileRef := ⟨deepBuoy code size, k, 0⟩

/-- The tile as an engine has it. -/
def goodTile (code k : Nat) : Header × Bytes := (workHeader code 5 k 0 127 0 0, plainTile code 5 k zeroTile)

theorem eng_tile (payload code size : Nat) {k : Nat} (hk : k < 8) :
    deepTile (engWorld payload code size) 0 k = some (plainTile code 5 k zeroTile) := by
  have : k = 0 ∨ k = 1 ∨ k = 2 ∨ k = 3 ∨ k = 4 ∨ k = 5 ∨ k = 6 ∨ k = 7 := by omega
  obtain rfl | rfl | rfl | rfl | rfl | rfl | rfl | rfl := this <;> rfl

theorem eng_use (payload size who le ev idFault : Nat) {code k : Nat} (hc : code ∈ [0x01, 0x11, 0x12]) (hk : k < 8) :
    useTile who le ev idFault (deepBuoy code size) k 0 (engWorld payload code size)
      = (.good (goodTile code k).1 (goodTile code k).2, engWorld payload code size) :=
  deep_use who le ev idFault (e := deepBuoy code size) rfl (eng_tile payload code size hk) (zero_ok hc (n := 5) (by decide) (by omega))

theorem eng_useAll (payload size who le ev idFault : Nat) {code : Nat} (hc : code ∈ [0x01, 0x11, 0x12]) (ks : List Nat) (hk : ∀ k ∈ ks, k < 8) :
    useTiles who le ev idFault (ks.map (goodRef code size)) (engWorld payload code size)
      = (.all (ks.map (goodTile code)), engWorld payload code size) := by
  induction ks with
  | nil => rfl
  | cons k ks ih =>
    have h1 := eng_use payload size who le ev idFault hc (hk k (by simp))
    have h2 := ih (fun j hj => hk j (by simp [hj]))
    simp only [List.map_cons, useTiles]
    rw [show (goodRef code size k).entry = deepBuoy code size from rfl, show (goodRef code size k).tile = k from rfl,
      show (goodRef code size k).budget = 0 from rfl, h1]
    simp only
    rw [h2]

/-- A write of a tile of a buoy that lies in the deep tier goes through, and the buoy lies there still. -/
theorem write_deep (who : Nat) (le : Option Nat) (e : BuoyEntry) (k : Nat) (b : Bytes) (s : State) {n : Nat}
    (h : (buoyOf s e.id).auth.place = .deep n) :
    (writeTile who le e k b s).1 = true ∧ (buoyOf (writeTile who le e k b s).2 e.id).auth = (buoyOf s e.id).auth := by
  have hs : (buoyOf (noteShared e (updBuoy e.id (noteWrite (jobStep s) k) s)) e.id).auth = (buoyOf s e.id).auth := by
    have key : (buoyOf (updBuoy e.id (noteWrite (jobStep s) k) s) e.id).auth = (buoyOf s e.id).auth := by
      rw [buoyOf_updBuoy_same]
      rfl
    unfold noteShared
    split <;> exact key
  unfold writeTile storeTile
  simp only [h]
  exact ⟨trivial, hs⟩

/-! ## O36: the matrix engine -/

theorem marks_none {rs : List (Pair × Marks)} (h : ∀ r ∈ rs, r.2 = {}) :
    rs.foldl (fun k r => (⟨earlier k.inf r.2.inf, earlier k.nan r.2.nan⟩ : Marks)) {} = {} := by
  induction rs with
  | nil => rfl
  | cons r rs ih =>
    simp only [List.foldl_cons, h r (by simp)]
    exact ih (fun q hq => h q (by simp [hq]))

theorem zip_none (mode a g : Nat) (l : Int) (ns : List Nat) (ps : List Pair) :
    ∀ r ∈ ns.zipWith (fun i p => accElement mode a g l (i / 128) (i % 128) 0 [] p {}) ps, r.2 = {} := by
  induction ns generalizing ps with
  | nil => simp
  | cons n ns ih =>
    cases ps with
    | nil => simp
    | cons p ps =>
      intro r hr
      rw [List.zipWith_cons_cons, List.mem_cons] at hr
      obtain rfl | hr := hr
      · rfl
      · exact ih ps r hr

theorem accTile_nil (mode a g : Nat) (l : Int) (ps : List Pair) : (accTile mode a g l [] ps).2 = {} := by
  unfold accTile
  dsimp only
  generalize List.range 16384 = ns
  exact marks_none (zip_none mode a g l ns ps)

/-- Without a tile pair nothing overflows. -/
theorem multiply_nil (pol : AccPolicy) (t : TaskEntry) (e : SlotSet) : (multiply pol t [] e).stopped = false := by
  unfold multiply runAttempts
  simp only [accTile_nil]
  rfl

/-- The operand list that every form below meets: no tile pair. -/
theorem witness_Matmul (pl : Nat) (h : pl ∈ [0, 8192, 16384, 32768]) : let s := engWorld pl 1 1
    meTask s (2 * 0 + 0) = some (engImage pl 1 1, engRun pl) ∧ 374999 < periodOf s.live
      ∧ matmulOperands (engImage pl 1 1) (engRun pl) = some [] ∧ useOperands (meCode 0) (engRun pl).task.le [] s = (.all [], s)
      ∧ ∀ e, (multiply (accPolicy (engImage pl 1 1) (engRun pl).task) (engRun pl).task
        (operandPairs (engRun pl).task (splitTurns (List.take (2 * kTiles (engRun pl).task) [])).1
          (splitTurns (List.take (2 * kTiles (engRun pl).task) [])).2) e).stopped = false := by
  have hk : kTiles (engRun pl).task = 0 ∧ outAction (engRun pl).task ≠ 3 := by
    simp only [List.mem_cons, List.not_mem_nil, or_false] at h
    obtain rfl | rfl | rfl | rfl := h <;> decide
  refine ⟨rfl, (by decide : 374999 < periodOf ready.live), ?_, rfl, fun e => ?_⟩
  · simp [matmulOperands, hk]
  · have : ∀ t, operandPairs t (splitTurns (List.take (2 * kTiles (engRun pl).task) ([] : List (Header × Bytes)))).1
        (splitTurns (List.take (2 * kTiles (engRun pl).task) ([] : List (Header × Bytes)))).2 = [] := by
      intro t
      simp [operandPairs, splitTurns]
    rw [this]
    exact multiply_nil _ _ _
theorem witness_Matmul_actions : outAction (engRun 0).task = 0 ∧ outAction (engRun 8192).task = 1 ∧ outAction (engRun 16384).task = 2
    ∧ outAction (engRun 32768).task = 4 := by decide
theorem witness_Matmul_chain (pl : Nat) : (engImage pl 1 1).engines[(engRun pl).task.le]? = some ⟨1, 0, 0, 1⟩
    ∧ (engImage pl 1 1).engines[1]? = some ⟨2, 0, 1, 0⟩ := ⟨rfl, rfl⟩
/-- The output buoy in T1. -/
theorem witness_Matmul_out : outRef (engImage 8192 1 1) (engRun 8192) = some (goodRef 1 1 0)
    ∧ (buoyOf { engWorld 8192 1 1 with ple := {} } (goodRef 1 1 0).entry.id).auth.place = .t1 0
    ∧ meTask { engWorld 8192 1 1 with ple := {} } (2 * 0 + 0) = some (engImage 8192 1 1, engRun 8192) := by decide

/-! ## O37: the attention engine -/

theorem eng_aeTiles (pl : Nat) {refs : Option (List TileRef)} (ks : List Nat) (h : refs = some (ks.map (goodRef 1 1))) (hk : ∀ k ∈ ks, k < 8) :
    aeTiles 0 (engRun pl) refs (engWorld pl 1 1) = (some (ks.map (goodTile 1)), engWorld pl 1 1) := by
  subst h
  unfold aeTiles seqTiles
  simp only [eng_useAll pl 1 (aeCode 0) (engRun pl).task.le 0x4800 0x8800 (by decide : (1 : Nat) ∈ [0x01, 0x11, 0x12]) ks hk]

/-- What a forward task without a block left has read; FINISH is bit 26. -/
theorem witness_Forward (pl : Nat) (h : pl = 0 ∨ pl = 67108864) : let s := engWorld pl 1 1
    let i := engImage pl 1 1
    let t := engRun pl
    seqTask s (SMap.get s.ae 0 {}) = some (i, t) ∧ 374999 < periodOf s.live ∧ isBwd t.task = false ∧ aeFinish t.task = decide (pl ≠ 0)
      ∧ aeTiles 0 t (qRefs i t (aeFix t.task)) s = (some [goodTile 1 0], s) ∧ aeTiles 0 t (maskRefs i t) s = (some [], s)
      ∧ aeCount t.task = 0 := by
  obtain rfl | rfl := h <;>
    exact ⟨rfl, (by decide : 374999 < periodOf ready.live), by decide, by decide, eng_aeTiles _ [0] (by decide) (by decide), rfl, by decide⟩

/-- What a backward task without a block left has read. -/
theorem witness_Backward (pl : Nat) (h : pl = 17179869184 ∨ pl = 17246978048) : let s := engWorld pl 1 1
    let i := engImage pl 1 1
    let t := engRun pl
    seqTask s (SMap.get s.ae 0 {}) = some (i, t) ∧ 374999 < periodOf s.live ∧ isBwd t.task = true
      ∧ aeFinish t.task = decide (pl = 17246978048)
      ∧ aeTiles 0 t (kvRefs i t (aeFix t.task)) s = (some [goodTile 1 0, goodTile 1 1], s)
      ∧ aeTiles 0 t (maskRefs i t) s = (some [], s) ∧ aeCount t.task = 0 := by
  obtain rfl | rfl := h <;>
    exact ⟨rfl, (by decide : 374999 < periodOf ready.live), by decide, by decide, eng_aeTiles _ [0, 1] (by decide) (by decide), rfl, by decide⟩

/-- Without a block left the passes answer at once. -/
theorem witness_NoBlocks (die j : Nat) (i : Image) (t : RunTask) (mask : List Nat) (ops : List (Header × Bytes)) (s : State) :
    forwardBlocks die i t mask ops (0 - j) j s = (true, s) ∧ backwardBlocks die i t mask ops (0 - j) j s = (true, s) := by
  simp [forwardBlocks, backwardBlocks]

theorem writeTiles_deep (die : Nat) (i : Image) (t : RunTask) {n : Nat} {id : Nat} (rs : List TileRef) (xss : List (List Nat)) (s : State)
    (hr : ∀ r ∈ rs, r.entry.id = id) (h : (buoyOf s id).auth.place = .deep n) :
    ∃ x, writeTiles die i t rs xss s = (true, x) ∧ (buoyOf x id).auth.place = .deep n := by
  induction rs generalizing xss s with
  | nil => exact ⟨s, rfl, h⟩
  | cons r rs ih =>
    cases xss with
    | nil => exact ⟨s, rfl, h⟩
    | cons xs xss =>
      have hid := hr r (by simp)
      let w := narrowFor s i r.entry r.tile (jobStep s) 0 (payloadField t.task 223 208) false xs
      let q : State := { s with num := NumState.note s.num i r.entry w }
      have hq : (buoyOf q r.entry.id).auth.place = .deep n := by rw [hid]; exact h
      have hw := write_deep (aeCode die) (some t.task.le) r.entry r.tile w.tile q hq
      have e : seqWrite (aeCode die) i t r (payloadField t.task 223 208) false xs s
          = (true, (writeTile (aeCode die) (some t.task.le) r.entry r.tile w.tile q).2) := Prod.ext hw.1 rfl
      unfold writeTiles
      rw [e]
      refine ih xss _ (fun x hx => hr x (by simp [hx])) ?_
      rw [← hid, hw.2]
      exact hq

theorem finishForward_deep (s : State) (h : (buoyOf s 5).auth.place = .deep 0)
    (ht : deepTile s 0 0 = some (plainTile 1 5 0 zeroTile)) :
    (finishForward 0 (engImage 67108864 1 1) (engRun 67108864) s).1 = true := by
  have ho : runRefs (engImage 67108864 1 1) (engRun 67108864) (payloadField (engRun 67108864).task 17 15) (aeFix (engRun 67108864).task)
      (blockTiles (engRun 67108864).task) = some [goodRef 1 1 0] := by decide
  have hs : statRef (engImage 67108864 1 1) (engRun 67108864) (aeFix (engRun 67108864).task) = some (goodRef 1 1 0) := by decide
  have hu : useTile (aeCode 0) (engRun 67108864).task.le 0x4800 0x8800 (goodRef 1 1 0).entry (goodRef 1 1 0).tile (goodRef 1 1 0).budget s
      = (.good (goodTile 1 0).1 (goodTile 1 0).2, s) :=
    deep_use _ _ _ _ (e := deepBuoy 1 1) (n := 0) (k := 0) (p := zeroTile) h ht (zero_ok (n := 5) (by decide) (by decide) (by decide))
  have hw (q : State) (hq : (buoyOf q 5).auth.place = .deep 0) (xss : List (List Nat)) :
      ∃ x, writeTiles 0 (engImage 67108864 1 1) (engRun 67108864) [goodRef 1 1 0] xss q = (true, x) ∧ (buoyOf x 5).auth.place = .deep 0 :=
    writeTiles_deep 0 _ _ (n := 0) (id := 5) [goodRef 1 1 0] xss q (by decide) hq
  have ha : aeTiles 0 (engRun 67108864) (some [goodRef 1 1 0]) s = (some [goodTile 1 0], s) := by
    simp only [aeTiles, seqTiles, useTiles, hu]
  generalize goodTile 1 0 = g at ha
  unfold finishForward
  generalize goodRef 1 1 0 = r at *
  generalize engImage 67108864 1 1 = i at *
  generalize engRun 67108864 = t at *
  simp only [ho, hs, ha]
  rw [(hw s h _).choose_spec.1]
  simp only
  rw [(hw _ (hw s h _).choose_spec.2 _).choose_spec.1]

/-- FINISH of the forward task: the outputs and the statistics tile are written. -/
theorem witness_FinishForward : let s := keepCtx 0 (engRun 67108864).task (engWorld 67108864 1 1)
    (finishForward 0 (engImage 67108864 1 1) (engRun 67108864) s).1 = true := finishForward_deep _ rfl rfl

/-- FINISH of the backward task: the outputs are written. -/
theorem witness_FinishBackward : let s := keepCtx 0 (engRun 17246978048).task (engWorld 17246978048 1 1)
    (finishBackward 0 (engImage 17246978048 1 1) (engRun 17246978048) s).1 = true := by
  intro s
  have h : (buoyOf s 5).auth.place = .deep 0 := rfl
  have hr : runRefs (engImage 17246978048 1 1) (engRun 17246978048) (payloadField (engRun 17246978048).task 8 6) (aeFix (engRun 17246978048).task)
      (2 * blockTiles (engRun 17246978048).task) = some [goodRef 1 1 0, goodRef 1 1 1] := by decide
  unfold finishBackward
  simp only [hr]
  have key := fun xss => writeTiles_deep 0 (engImage 17246978048 1 1) (engRun 17246978048) (n := 0) (id := 5) [goodRef 1 1 0, goodRef 1 1 1] xss s
    (by decide) h
  obtain ⟨x, hx, -⟩ := key _
  rw [hx]

/-- A block of which every pair lies above the diagonal: CAUSAL, the key block 1 beyond the query block 0. -/
theorem witness_Skips : skipsBlock (taskOn 0 (2 ^ 25 + 2 ^ 102) 1) [] 0 = true := by
  have hq : qBlock (taskOn 0 (2 ^ 25 + 2 ^ 102) 1) 0 = 0 := by decide
  have hk : kBlock (taskOn 0 (2 ^ 25 + 2 ^ 102) 1) 0 = 1 := by decide
  have hc : (taskOn 0 (2 ^ 25 + 2 ^ 102) 1).payload.testBit 25 = true := by decide
  unfold skipsBlock allowedRow
  simp only [List.all_eq_true, List.all_map, List.mem_range, hq, hk]
  intro r hr c _
  have hle : ¬128 * 1 + c ≤ 128 * 0 + r := by omega
  simp only [Function.comp_apply, allowedPair, hc, if_true, hle, decide_false, Bool.false_and, Bool.and_false, Bool.not_false]

/-! ## O38: the gather-scatter engine -/

/-- GATHER of one row of 128 elements. -/
def gatherLoad : Nat := 2 ^ 160
/-- SCATTER_ADD of one row into a window of one tile. -/
def scatterLoad : Nat := 2 ^ 160 + 2 ^ 45 + 2 ^ 135

theorem unpack32 (p : Bytes) : unpackElems 32 p = chunksLe 4 16384 p := by
  unfold unpackElems; rw [if_pos rfl]
theorem tileElems_uint (b p : Bytes) (hf : (Header.parse b).format = 0x12) (hp : b.drop 64 = p) : tileElems b = unpackElems 32 p := by
    unfold tileElems
    simp only [hf, show elemOf 0x12 = some .uint32 from rfl, widenTile, hp, payloadCodes, show Elem.uint32.width = 32 from rfl,
      show Elem.uint32.isInt32 = true from rfl, if_true]
theorem chunksLe_one (n k : Nat) (b : Bytes) (hk : 0 < k) : (chunksLe n k b).take 1 = [leNat (b.take n)] := by
  cases k with
  | zero => omega
  | succ k => simp [chunksLe]
theorem unpack_one (p : Bytes) : (unpackElems 32 p).take 1 = [leNat (p.take 4)] := by
  rw [unpack32]
  exact chunksLe_one 4 _ p (by decide)
theorem one_index (t : RunTask) (h : Header) (b p : Bytes) (h0 : gseIdx0 t.task = 0) (h1 : gseCount t.task = 1)
    (hf : (Header.parse b).format = 0x12) (hp : b.drop 64 = p) : gseIndices t [(h, b)] = [leNat (p.take 4)] := by
  have := unpack_one p
  have h2 := tileElems_uint b p hf hp
  generalize unpackElems 32 p = u at *
  unfold gseIndices elemsOf
  rw [h0, h1]
  simp only [List.map_cons, List.map_nil, h2, List.flatMap_cons, List.flatMap_nil, id, List.append_nil, Nat.zero_mod, List.drop_zero]
  exact this

theorem zero_index (pl : Nat) (h : pl = gatherLoad ∨ pl = scatterLoad) : gseIndices (engRun pl) [goodTile 0x12 0] = [0] := by
  have h0 : gseIdx0 (engRun pl).task = 0 ∧ gseCount (engRun pl).task = 1 := by obtain rfl | rfl := h <;> decide
  have hf : (Header.parse (plainTile 0x12 5 0 zeroTile)).format = 0x12 :=
    congrArg Header.format (plain_parse zeroTile (by decide) (by decide) (by decide) (by decide))
  have hz : zeroTile.take 4 = List.replicate 4 0 := List.take_replicate ..
  exact (one_index _ _ _ _ h0.1 h0.2 hf (makeTile_payload _ _)).trans (by rw [hz]; decide)

theorem eng_seqTiles (pl size who : Nat) (upd : (SeqUnit → SeqUnit) → State → State) {refs : List TileRef} (ks : List Nat)
    (h : refs = ks.map (goodRef 0x12 size)) (hk : ∀ k ∈ ks, k < 8) :
    seqTiles who upd (engRun pl) refs (engWorld pl 0x12 size) = (some (ks.map (goodTile 0x12)), engWorld pl 0x12 size) := by
  subst h
  unfold seqTiles
  simp only [eng_useAll pl size who (engRun pl).task.le 0x4800 0x8800 (by decide : (0x12 : Nat) ∈ [0x01, 0x11, 0x12]) ks hk]

/-- The index 0 is read; it names a row of a table of 65 536 elements, and none of an empty one. -/
theorem witness_Gse (pl size : Nat) (h : pl = gatherLoad ∨ pl = scatterLoad) : let s := engWorld pl 0x12 size
    let i := engImage pl 0x12 size
    let t := engRun pl
    seqTask s (SMap.get s.gse 0 {}) = some (i, t)
      ∧ elemRefs i t (payloadField t.task 43 41) (gseIdx0 t.task) (gseCount t.task) = some [goodRef 0x12 size 0]
      ∧ seqTiles (gseCode 0) (updGse 0) t [goodRef 0x12 size 0] s = (some [goodTile 0x12 0], s)
      ∧ gseIndices t [goodTile 0x12 0] = [0] ∧ 374999 < periodOf s.live := by
  refine ⟨rfl, ?_, ?_, zero_index pl h, (by decide : 374999 < periodOf ready.live)⟩
  · obtain rfl | rfl := h <;> rfl
  · exact eng_seqTiles pl size _ _ [0] rfl (by decide)
theorem witness_BadIndex : badIndex (tableRows (engImage gatherLoad 0x12 1) (engRun gatherLoad)) (gseIdx0 (engRun gatherLoad).task) [0] = some (0, 0)
    ∧ badIndex (tableRows (engImage scatterLoad 0x12 1) (engRun scatterLoad)) (gseIdx0 (engRun scatterLoad).task) [0] = some (0, 0) := by decide
theorem witness_GoodIndex :
    badIndex (tableRows (engImage gatherLoad 0x12 65536) (engRun gatherLoad)) (gseIdx0 (engRun gatherLoad).task) [0] = none
    ∧ badIndex (tableRows (engImage scatterLoad 0x12 65536) (engRun scatterLoad)) (gseIdx0 (engRun scatterLoad).task) [0] = none := by decide

theorem writeCopied_deep (who : Nat) (i : Image) (t : RunTask) (r : TileRef) (ord : Nat) (axis : Bool) (xs : List SrcElem) (same : SrcElem → Bool)
    (s : State) {n : Nat} (h : (buoyOf s r.entry.id).auth.place = .deep n) : (writeCopied who i t r ord axis xs same s).1 = true := by
  unfold writeCopied
  split
  · rfl
  · split
    · exact (write_deep _ _ _ _ _ _ h).1
    · refine (write_deep who _ r.entry r.tile _ _ (n := n) ?_).1
      exact h

theorem seqWrite_deep (who : Nat) (i : Image) (t : RunTask) (r : TileRef) (ord : Nat) (axis : Bool) (xs : List Nat) (s : State) {n : Nat}
    (h : (buoyOf s r.entry.id).auth.place = .deep n) : (seqWrite who i t r ord axis xs s).1 = true := by
  refine (write_deep who _ r.entry r.tile _ _ (n := n) ?_).1
  exact h

/-- GATHER: the row's tile is read, and the output's tile written. -/
theorem witness_Gather : let i := engImage gatherLoad 0x12 65536
    let t := engRun gatherLoad
    let s := engWorld gatherLoad 0x12 65536
    let w := rowWidth t.task
    let out := goodRef 0x12 65536 0
    isScatter t.task = false ∧ (tableTiles t.task [0]).mapM (buoyTileRef i t (tableAcc t.task)) = some [out]
      ∧ elemRefs i t (dataAcc t.task) (gseRow0 t.task * w) (gseCount t.task * w) = some [out]
      ∧ ∀ xss, (writeAllCopied (gseCode 0) i t (gseOrdinal t.task) false
        (fun r e => e.plain && r.entry.format == accFormat i t (tableAcc t.task)) [out] xss s).1 = true := by
  refine ⟨by decide, rfl, rfl, fun xss => ?_⟩
  cases xss with
  | nil => rfl
  | cons xs xss =>
    unfold writeAllCopied
    split
    · rfl
    · next x e =>
      have := writeCopied_deep (gseCode 0) (engImage gatherLoad 0x12 65536) (engRun gatherLoad) (goodRef 0x12 65536 0)
        (gseOrdinal (engRun gatherLoad).task) false xs
        (fun e => e.plain && (goodRef 0x12 65536 0).entry.format == accFormat (engImage gatherLoad 0x12 65536) (engRun gatherLoad)
          (tableAcc (engRun gatherLoad).task)) (engWorld gatherLoad 0x12 65536) (n := 0) rfl
      rw [e] at this
      cases this

theorem scatter_one (die : Nat) (i : Image) (t : RunTask) (r : TileRef) (xss : List (List Nat)) {s : State} {n : Nat}
    (h : (buoyOf s r.entry.id).auth.place = .deep n) : (scatterWindow die i t [r] xss s).1 = true := by
  cases xss with
  | nil => rfl
  | cons xs xss =>
    have hw := seqWrite_deep (gseCode die) i t r (gseOrdinal t.task) false xs s h
    unfold scatterWindow
    revert hw
    generalize seqWrite _ _ _ _ _ _ _ _ = q
    obtain ⟨b, x⟩ := q
    rintro rfl
    rfl

/-- SCATTER_ADD: the window's tile and the source's are read, and the window's is written. -/
theorem witness_Scatter : let i := engImage scatterLoad 0x12 65536
    let t := engRun scatterLoad
    let s := engWorld scatterLoad 0x12 65536
    let w := rowWidth t.task
    let r := goodRef 0x12 65536 0
    isScatter t.task = true
      ∧ tileRefs i t (tableAcc t.task) ((List.range (payloadField t.task 139 135)).map (· + payloadField t.task 159 140)) = some [r]
      ∧ elemRefs i t (dataAcc t.task) (gseRow0 t.task * w) (gseCount t.task * w) = some [r]
      ∧ seqTiles (gseCode 0) (updGse 0) t ([r] ++ [r]) s = (some [goodTile 0x12 0, goodTile 0x12 0], s)
      ∧ ∀ xss, (scatterWindow 0 i t [r] xss s).1 = true := by
  refine ⟨by decide, by decide, by decide, ?_, fun xss => ?_⟩
  · exact eng_seqTiles scatterLoad 65536 _ _ [0, 0] rfl (by decide)
  · exact scatter_one 0 _ _ (goodRef 0x12 65536 0) xss (n := 0) rfl

/-- A row inside the window, and one that no window of four rows holds. -/
theorem witness_AddRow : ((2 : Nat), ([1, 1] : List Nat)).2.length = 2 ∧ (5 : Nat) < ([0, 0, 0, 0, 0, 0, 0, 0] : List Nat).length
    ∧ (2 : Nat) ≠ 0xFFFFFFFF ∧ 0 ≤ 2 * 2 ∧ 2 * 2 + 2 ≤ 0 + 8 ∧ 2 * 2 ≤ 0 + 5 ∧ 0 + 5 < 2 * 2 + 2 := by decide

/-! ## O39: the layout engine -/

/-- One output tile of an operation; every access field is 0. -/
def layLoad (op : Nat) : Nat := op * 2 ^ 124 + 2 ^ 180

theorem layout_one {t : RunTask} {i : Image} {s : State} {ins : List TileRef} {out : TileRef} {ts : List (Header × Bytes)} {n : Nat}
    (hc : lyeCount t.task = 1) (ho : lyeOutput i t 0 = some out) (hi : lyeInputs i t 0 = some ins)
    (hu : useTiles (lyeCode 0) t.task.le 0x4800 0x8800 ins s = (.all ts, s)) (hd : (buoyOf s out.entry.id).auth.place = .deep n) :
    (layoutTiles 0 i t (lyeCount t.task - 0) 0 s).1 = true := by
  rw [hc]
  have hw := writeCopied_deep (lyeCode 0) i t out (payloadField t.task 147 132) (t.task.payload.testBit 122)
    (layoutElems t.task (ts.map (fun y => srcElems y.1 y.2))) (sameBits ins out) s hd
  have hq : seqTiles (lyeCode 0) (updLye 0) t ins s = (some ts, s) := by simp only [seqTiles, hu]
  simp only [Nat.sub_zero, layoutTiles, layoutTile, hi, ho, hq]
  revert hw
  generalize writeCopied _ _ _ _ _ _ _ _ _ = r
  obtain ⟨b, x⟩ := r
  rintro rfl
  rfl

theorem witness_Layout (op : Nat) (h : op ∈ [1, 2, 3, 4, 5]) : let s := engWorld (layLoad op) 1 1
    let i := engImage (layLoad op) 1 1
    let t := engRun (layLoad op)
    seqTask s (SMap.get s.lye 0 {}) = some (i, t) ∧ 374999 < periodOf s.live ∧ lyeOp t.task = op ∧ lyeCount t.task = 1
      ∧ (layoutTiles 0 i t (lyeCount t.task - (SMap.get s.lye 0 {}).item) (SMap.get s.lye 0 {}).item s).1 = true := by
  have hl : lyeOp (engRun (layLoad op)).task = op ∧ lyeCount (engRun (layLoad op)).task = 1
      ∧ lyeOutput (engImage (layLoad op) 1 1) (engRun (layLoad op)) 0 = some (goodRef 1 1 0)
      ∧ lyeInputs (engImage (layLoad op) 1 1) (engRun (layLoad op)) 0 = some ((if op = 4 then [0, 0] else [0]).map (goodRef 1 1)) := by
    simp only [List.mem_cons, List.not_mem_nil, or_false] at h
    obtain rfl | rfl | rfl | rfl | rfl := h <;> decide
  refine ⟨rfl, (by decide : 374999 < periodOf ready.live), hl.1, hl.2.1, ?_⟩
  have hu := eng_useAll (layLoad op) 1 (lyeCode 0) (engRun (layLoad op)).task.le 0x4800 0x8800 (by decide : (1 : Nat) ∈ [0x01, 0x11, 0x12])
    (if op = 4 then [0, 0] else [0]) (by split <;> decide)
  exact layout_one hl.2.1 hl.2.2.1 hl.2.2.2 hu rfl
theorem witness_LayoutElems : (List.replicate 16384 ({} : SrcElem)).length = 16384 ∧ lyeOp (engRun (layLoad 3)).task = 3
    ∧ lyeOp (engRun (layLoad 4)).task = 4 ∧ lyeOp (engRun (layLoad 2)).task = 2 ∧ lyeOp (engRun (layLoad 5)).task = 5 :=
  ⟨List.length_replicate, by decide, by decide, by decide, by decide⟩

end Sys2Proof.Tests
end

