-- ==== Sys2Proof/Tests/Witness4.lean ====
section
/-! SUPPORT. Witnesses that the hypotheses of the statements O40 to O46 can be met: one theorem for each, with the states they stand on. -/
namespace Sys2Proof.Tests
open Sys2Proof.Machine Sys2Proof.Claims
set_option Elab.async false

/-! ## O40, O41: the tile stores -/

/-- The lane window at the last lane of bank 31, and beyond the hub's banks. -/
theorem witness_Lane : let s : State := { ready with tst := [(0, { laneAddr := 0x07FFFFF8 })] }
    Reaches .host (.tst 0 .laneData) 0 s ∧ Reaches .host (.tst 0 .laneSet) 5 s ∧ Reaches .mgmt (.tst 0 .laneClr) 5 s
      ∧ laneBarred s 0 = false ∧ laneChangeBarred s 0 = false ∧ laneBank (tstOf s 0) = 31
      ∧ SMap.get (tstOf s 0).undef (laneWord (tstOf s 0)) 0 = 0 ∧ eccOf s 0 (laneWord (tstOf s 0)) ≠ 2 := by
  unfold Reaches; decide
theorem witness_Lane_barred : let s : State := { ready with tst := [(8, { laneAddr := 0x04000000 })] }
    Reaches .host (.tst 8 .laneData) 0 s ∧ laneBarred s 8 = true ∧ laneChangeBarred s 8 = true := by unfold Reaches; decide

theorem witness_Test_start : testMayStart ready 0 = true ∧ nextTestBank ready 0 (tstOf ready 0).bank = some 0 := by decide
theorem witness_Test_off : let s : State := { ready with tst := [(0, { testCtrl := 0 })] }
    testMayStart s 0 = false ∧ (tstOf s 0).testing = false := by decide
/-- The last region but one of a bank, and the last one of the last bank. -/
theorem witness_Test_end : let x (r b : Nat) : TileStore := { testing := true, region := r, bank := b }
    let s (r b : Nat) : State := { ready with tst := [(0, x r b)] }
    (tstOf (s 62 0) 0).testing = true ∧ (tstOf (s 62 0) 0).region < 63 ∧ (tstOf (s 63 31) 0).region = 63
      ∧ nextTestBank (s 63 31) 0 ((tstOf (s 63 31) 0).bank + 1) = none := by decide

/-! ## O42 to O44: placement -/

/-- Bytes of a tile of zeros. -/
def blank : Bytes := List.replicate 65536 0

theorem blank_ok (k : Nat) (hk : k < 2 ^ 32) : PlainOk 1 5 k blank := zero_ok (by decide) (by decide) hk

/-- Buoys 5 and 6 of one FP32 tile, which one task reads. -/
def pairImage : Image :=
  withTask ⟨1, 0, 0, 0⟩ (taskOn 0 0 2) [⟨5, 0, 1, 0, 1⟩, ⟨6, 0, 1, 0, 1⟩] [oneTile 5 1, { oneTile 6 1 with initOffset := 2 ^ 20 }]

/-- Buoy 5 in the deep tier, T1 of 64 units, moves allowed. -/
def placing (i : Image) : State :=
  deepIn 5 1 [(0, some (plainTile 1 5 0 blank))]
    { running i with lpd := { units := List.range 64 }, live := { (running i).live with plePolicy := 0x100000000 } }

/-- A free place of T1, beyond the host region. -/
def freeT1 : Place := .t1 (2 ^ 32)

theorem witness_Promotion : let s := placing pairImage
    s.img.live = some pairImage ∧ buoyEntry pairImage 5 = some (oneTile 5 1) ∧ promotable s pairImage (oneTile 5 1) = true
      ∧ tierOf (buoyOf s 5).auth.place ≠ 2 ∧ tierOf freeT1 < tierOf (buoyOf s 5).auth.place ∧ destOk s pairImage (oneTile 5 1) freeT1 = true
      ∧ awaitsFree s pairImage freeT1 (homeBytes (oneTile 5 1)) = false
      ∧ (blockers s pairImage 5 freeT1 (homeBytes (oneTile 5 1))).find? (keepsPlace s pairImage) = none := by decide +kernel
/-- Buoy 6 lies there and is read in the beams ahead: no place is left. -/
theorem witness_Promotion_kept : let s : State := { placing pairImage with ple := { (placing pairImage).ple with
      table := (placing pairImage).ple.table ++ [(6, { phase := .moored, auth := ⟨freeT1, false⟩, home := freeT1 })] } }
    promotable s pairImage (oneTile 5 1) = true ∧ destOk s pairImage (oneTile 5 1) freeT1 = true
      ∧ awaitsFree s pairImage freeT1 (homeBytes (oneTile 5 1)) = false
      ∧ (blockers s pairImage 5 freeT1 (homeBytes (oneTile 5 1))).find? (keepsPlace s pairImage) = some 6
      ∧ nextVictim s pairImage (oneTile 5 1) freeT1 = none := by decide +kernel

/-- Buoy 5 moves from the deep tier into T1, at a tile. -/
def moving (k : MoveKind) (next : Nat) (b : Bytes) : State :=
  { deepIn 5 1 [(0, some b)] (placing pairImage) with
    ple := { table := [(5, { phase := .moving, auth := ⟨.deep 0, false⟩, home := .deep 0,
                             move := some { kind := k, dest := ⟨freeT1, false⟩, next := next, marked := [], paused := false } })] } }

theorem witness_MoveTile (k : MoveKind) (b : Bytes) : let s := moving k 0 b
    let m : Move := { kind := k, dest := ⟨freeT1, false⟩, next := 0, marked := [], paused := false }
    (buoyOf s 5).move = some m ∧ moveTile (buoyTiles (oneTile 5 1)) m = some 0 ∧ m.paused = false ∧ s.glb.state = .running
      ∧ beforeEclipse s = true := ⟨rfl, rfl, rfl, rfl, (by decide : beforeEclipse ready = true)⟩

theorem copy_deep {e : BuoyEntry} {n k : Nat} {p : Bytes} {s : State} {mo : Mooring} {use : ReqUse} {dst : Mooring} (hm : mo.place = .deep n)
    (ht : deepTile s n k = some (plainTile e.format e.id k p)) (h : PlainOk e.format e.id k p) :
    copyUnit e mo dst k use s = (.done, putCopy e dst k (plainTile e.format e.id k p) s) := by
  have hd : countDecoded (plainTile e.format e.id k p) s = s := plain_uncounted _ _ _ _ _
  have hf : fetchFrom pleCode none e k mo use s = (.tile (plainTile e.format e.id k p), s) := by
    unfold fetchFrom fetchDeep
    rw [hm]
    simp only [ht, hd]
    rw [plain_check (buoyPitch e) h rfl]
  unfold copyUnit
  simp only [hf, plain_identity h]
  rfl

/-- The tile is copied; a tile that does not decode fails. -/
theorem witness_CopyUnit (k : MoveKind) : let s := moving k 0 (plainTile 1 5 0 blank)
    copyUnit (oneTile 5 1) (buoyOf s 5).auth ⟨freeT1, false⟩ 0 (moveUse k 5 0) s
      = (.done, putCopy (oneTile 5 1) ⟨freeT1, false⟩ 0 (plainTile 1 5 0 blank) s) :=
  copy_deep (e := oneTile 5 1) (n := 0) rfl rfl (blank_ok 0 (by decide))
theorem witness_CopyUnit_fails (k : MoveKind) : let s := moving k 0 []
    copyUnit (oneTile 5 1) (buoyOf s 5).auth ⟨freeT1, false⟩ 0 (moveUse k 5 0) s = (.failed, s) := rfl
theorem witness_MoveSwitch (k : MoveKind) : let m : Move := { kind := k, dest := ⟨freeT1, false⟩, next := 1, marked := [], paused := false }
    (buoyOf (moving k 1 []) 5).move = some m ∧ moveWhole (oneTile 5 1) m = true := ⟨rfl, rfl⟩

/-- A replica of buoy 5, which member 1 of the pair owns and this member reads at T2. -/
def replicaImage : Image :=
  { pairImage with
    group := [0, 1], buoys := [{ oneTile 5 1 with flags := 4, ownerRank := 1 }]
    plans := { pairImage.plans with tasks := [taskOn 0 0 1], accs := [⟨5, 0, 1, 2, 1⟩] } }

theorem witness_Replica : let s : State := { placing replicaImage with
      ple := { table := [(5, { phase := .moored, auth := ⟨.owner 1, false⟩, home := .owner 1 })] } }
    replicaMay s replicaImage { oneTile 5 1 with flags := 4, ownerRank := 1 } freeT1 = true := by decide +kernel

/-- A window of one tile left, to be filled or written back. -/
def window (fill : Bool) : State :=
  { placing pairImage with ple := { (placing pairImage).ple with windows := [⟨5, fill, 0, 1⟩] } }

theorem witness_Window (fill : Bool) : planRuns (window fill) = true ∧ beforeEclipse (window fill) = true
    ∧ jobOf (window fill) 5 fill = some ⟨5, fill, 0, 1⟩ ∧ (buoyOf (window fill) 5).move.isSome = false := by
  cases fill <;> exact ⟨rfl, (by decide : beforeEclipse ready = true), rfl, rfl⟩
theorem copyRest_one {e : BuoyEntry} {src dst : Mooring} {s x : State} (ht : buoyTiles e - (0 + 1) = 0)
    (h : copyUnit e src dst 0 (.fetch e.id 0) s = (.done, x)) : copyRest e src dst 1 s = (0, x) := by
  unfold copyRest
  simp only [ht, h]
  rfl

theorem witness_Window_copied (fill : Bool) (dst : Mooring) :
    copyRest (oneTile 5 1) (buoyOf (window fill) 5).auth dst 1 (window fill)
      = (0, putCopy (oneTile 5 1) dst 0 (plainTile 1 5 0 blank) (window fill)) :=
  copyRest_one (e := oneTile 5 1) rfl (copy_deep (e := oneTile 5 1) (n := 0) rfl rfl (blank_ok 0 (by decide)))

/-- A repair of buoy 5's tile, whose home in the deep tier holds the bytes given. -/
def repairing (b : Bytes) : State :=
  { deepIn 5 1 [(0, some b)] (placing pairImage) with
    ple := { table := [(5, { phase := .repairing, auth := ⟨.t1 0, false⟩, home := .deep 0 })], repairs := [⟨5, 0, [1], 0⟩], repairBeam := 1 } }

theorem witness_Repair (b : Bytes) : (repairing b).img.live = some pairImage
    ∧ (repairing b).ple.repairs.find? (fun r => r.buoy == 5 && r.tile == 0) = some ⟨5, 0, [1], 0⟩
    ∧ (repairing b).ple.repairs.find? (fun r => !r.waiters.isEmpty) = some ⟨5, 0, [1], 0⟩ := ⟨rfl, rfl, rfl⟩
theorem witness_Repair_lost : findSource pairImage (oneTile 5 1) 0 (repairing []) = (.none_, repairing []) := rfl
theorem repair_deep {i : Image} {e : BuoyEntry} {n k : Nat} {p : Bytes} {s : State} (hr : tryRetained e k (buoyOf s e.id).retained s = (none, s))
    (ho : tryOwner i e k s = (.none_, s)) (hd : deepCopies s e k = [(n, k)]) (ht : deepTile s n k = some (plainTile e.format e.id k p))
    (h : PlainOk e.format e.id k p) : findSource i e k s = (.found 3 (plainTile e.format e.id k p), s) := by
  have hc : countDecoded (plainTile e.format e.id k p) s = s := plain_uncounted _ _ _ _ _
  have hf : fetchDeep n (buoyPitch e) k s = (.tile (plainTile e.format e.id k p), s) := by
    unfold fetchDeep
    simp only [ht, hc]
    rw [plain_check (buoyPitch e) h rfl]
  have hk : cleanTile e k (.tile (plainTile e.format e.id k p)) = some (plainTile e.format e.id k p) := by
    unfold cleanTile
    simp only [plain_numeric h, plain_identity h]
    rfl
  unfold findSource
  simp only [hr, ho, hd, tryDeep, hf, hk]

theorem witness_Repair_found : findSource pairImage (oneTile 5 1) 0 (repairing (plainTile 1 5 0 blank))
    = (.found 3 (plainTile 1 5 0 blank), repairing (plainTile 1 5 0 blank)) :=
  repair_deep (e := oneTile 5 1) (n := 0) rfl rfl rfl rfl (blank_ok 0 (by decide))
/-- REPAIR_ALLOW reached, and passed. -/
theorem witness_RepairAllow : let s (allow : W64) : State := { repairing [] with live := { (repairing []).live with plePolicy := allow } }
    planRuns (s 0) = true ∧ bits (s 0).live.plePolicy.toNat 31 0 < repairSum (s 0) ∧ repairSum (s 1) ≤ bits (s 1).live.plePolicy.toNat 31 0 := by
  decide +kernel

end Sys2Proof.Tests
end

