-- ==== Sys2Proof/Tests/Witness5.lean ====
section
/-! SUPPORT. Witnesses that the hypotheses of the statements O45 to O51 can be met: one theorem for each, with the states they stand on. -/
namespace Sys2Proof.Tests
open Sys2Proof.Machine Sys2Proof.Claims
set_option Elab.async false

/-! ## O45, O46: T1 packages and the deep tier -/

/-- T1 of every unit. -/
def withT1 (s : State) : State := { s with lpd := { units := List.range 256 } }

theorem witness_DataGroup : dataGroup (withT1 ready).lpd 15 3 ≠ [] ∧ inJob (withT1 ready) = false ∧ inJob (withT1 (running bare)) = true := by
  decide +kernel
theorem witness_Refresh : inJob (running bare) = true ∧ (16 : Nat) < 17 ∧ ¬(16 : Nat) < 16 ∧ (16 : Nat) ≤ 16 ∧ (15 : Nat) < 16 := by decide
theorem witness_Wcb : let s : State := { ready with lpd := { units := List.range 256, wcb := [(2, [⟨2, [(0, 7)], []⟩])] } }
    wcbOf s.lpd 2 = [⟨2, [(0, 7)], []⟩] ∧ lineFailed s.lpd 2 = false ∧ wcbOf s.lpd 3 = [] := by decide +kernel

/-- A deep tier of two channels, with a home of one tile not yet loaded, and write credit. -/
def deepSide (credit : Nat) : State :=
  { running { bare with buoys := [oneTile 5 1] } with
    ple := { table := [(5, { phase := .moored, auth := ⟨.deep 0, false⟩, home := .deep 0 })] }
    deep := { channels := [0, 15], objects := [deepObject 5 1 []], credit := credit, policy := 0x0000000000010000 } }

theorem witness_Channel : let s := deepSide 0
    s.deep.channels.contains (15 : Fin 16).val = true ∧ s.deep.failed.contains (15 : Fin 16).val = false ∧ inJob s = true
      ∧ inJob { ready with deep := s.deep } = false ∧ s.deep.channels ≠ [] := by decide
/-- Credit at its reserve, and above it. -/
theorem witness_HomeLoading : let s := deepSide (2 ^ 30 + 1)
    liveBuoy s 5 = some (oneTile 5 1) ∧ (buoyOf s 5).home = .deep 0 ∧ deepObj s.deep 0 = some (deepObject 5 1 [])
      ∧ nextUnloaded (deepObject 5 1 []) = some 0 ∧ (bits s.deep.policy.toNat 31 16 * 2 ^ 30 : Nat) < s.deep.credit
      ∧ (deepSide (2 ^ 30)).deep.credit ≤ (bits (deepSide (2 ^ 30)).deep.policy.toNat 31 16 * 2 ^ 30 : Nat) := by decide
theorem witness_Erase : let v := BitVec.ofNat 64 (0xE5 * 2 ^ 56 + (15 : Fin 16).val)
    Reaches .host .deepErase v.toNat ready ∧ inJob ready = false ∧ ready.deep.erasing = none ∧ ready.img.live = none
      ∧ (12 : Fin 16).val % 4 = 0 := by unfold Reaches; decide
theorem witness_Erase_refused : Reaches .mgmt .deepErase 0 ready ∧ bits 0 63 56 ≠ 0xE5 ∧ inJob (running bare) = true
    ∧ ({ ready with deep := { erasing := some 4#4 } } : State).deep.erasing = some 4#4 ∧ (running bare).img.live ≠ none
    ∧ bits (0xE5 * 2 ^ 56 + 1) 1 0 ≠ 0 := by unfold Reaches; decide

/-! ## O47, O48: links -/

/-- A link in training, whose lanes 0 to n − 1 pass. -/
def training : State := setLink 0 { state := 1 } ready

theorem witness_Training : mayTrain ready 47 = true ∧ ready.fab.disable.getLsbD 47 = false ∧ (linkOf ready 47).state ≠ 1
    ∧ (linkOf ready 47).state ≠ 4 ∧ (linkOf training 0).state = 1
    ∧ ({ ready with fab := { disable := 1 } } : State).fab.disable.getLsbD 0 = true := by decide
/-- Four good lanes at the delay limit, three lanes, one clock more, and another domain. -/
theorem witness_Refuse : let k : Link := { state := 1 }
    refuseCause k ⟨0b11110, 150⟩ training = none ∧ (goodLanes k ⟨0b00111, 150⟩).length < 4 ∧ 4 ≤ (goodLanes k ⟨0b01111, 150⟩).length
      ∧ 150 < delayOf k ⟨0b01111, 151⟩ ∧ ((goodLanes k ⟨0b11110, 150⟩).take 4).contains 4 = true
      ∧ refuseCause k ⟨0b00111, 150⟩ training = some 2 := by decide
theorem witness_Refuse_domain : let k : Link := { state := 1, peerDomain := 5 }
    let s : State := { training with fab := { training.fab with domain := 6 } }
    k.peerDomain ≠ 0 ∧ s.fab.domain ≠ 0 ∧ k.peerDomain ≠ s.fab.domain.toNat ∧ delayOf k ⟨0b01111, 150⟩ ≤ 150
      ∧ refuseCause k ⟨0b01111, 150⟩ s = some 4 := by decide
theorem witness_LinkDown : (linkOf root 0).state = 2 ∧ inJob root = true ∧ isMember root 0 = true
    ∧ ¬(inJob (linked 0 1 ready) = true ∧ isMember (linked 0 1 ready) 0 = true) ∧ (linkOf (linked 0 1 ready) 0).state = 2 := by decide

/-- An empty flit of a kind. -/
def flitOf (kind seq : Nat) : Flit :=
  { seq := seq, kind := kind, flow := 0, dest := 0, hops := 0, first := true, last := true, poison := false, data := [], msg := none }

/-- Link 0 with one flit that is not acknowledged. -/
def unackedLink : State := setLink 0 { linkOf root 0 with replay := [flitOf 1 0], sendSeq := 1 } root

theorem witness_Flits : (flitOf 0 0).kind = 0 ∧ (flitOf 1 0).kind = 1 ∧ (flitOf 1 0).seq = (linkOf root 0).expectSeq
    ∧ (flitOf 1 9).seq ≠ (linkOf root 0).expectSeq := by decide
/-- The last sequence number acknowledged, and none. -/
theorem witness_Acks : let k := linkOf unackedLink 0
    k.state = 2 ∧ ackedCount k 1 = some 1 ∧ ackedCount k 0 = some 0 ∧ k.waiting = [] ∧ k.replay.drop 0 ≠ [] ∧ k.replay.drop 1 = []
      ∧ k.replay ≠ [] := by decide

/-- An image with one send run over link 0 in slot 0, of a flow of a kind. -/
def runImage (kind : Nat) : Image :=
  { pairOf 0 with
    buoys := [oneTile 5 1]
    plans := { beams := [⟨0, 1, 0xFFFF, 0⟩], holds := [], tasks := [taskOn 0 0 1], accs := [⟨5, 0, 1, 0, 2⟩] }
    slots := { planBeams := 1, index := [(0, 1)], entries := [⟨0, 0, 1, false, 0, false, 0, 1⟩],
               flows := [⟨kind, 1, 0, 0, 1, 5, 6, 0, 0, 1⟩] } }

/-- RUNNING it, link 0 up. -/
def runs (kind : Nat) : State := linked 0 1 (running (runImage kind))

theorem witness_RunStart (kind : Nat) : let s := runs kind
    let e : SlotEntry := ⟨0, 0, 1, false, 0, false, 0, 1⟩
    (linkOf s 0).state = 2 ∧ s.img.live = some (runImage kind) ∧ sendRun (runImage kind) s.beam.planBeam 0 0 = some e ∧ planRuns s = true
      ∧ s.beam.offset ≤ 0 * slotLen s.live ∧ SMap.get s.fab.runs (runsKey e) 0 = 0
      ∧ (runImage kind).slots.flows[e.flow]? = some ⟨kind, 1, 0, 0, 1, 5, 6, 0, 0, 1⟩ := by
  refine ⟨rfl, rfl, rfl, rfl, Nat.zero_le _, rfl, rfl⟩
theorem witness_RunStart_flow : ((runImage 2).slots.flows[0]?).all (fun f => f.kind == 2) = true := by decide
/-- A stream whose task is still to write the tile. -/
theorem witness_RunStart_stream : streamReady (advanceTo 0 (runs 1)) (runImage 1) ⟨1, 1, 0, 0, 1, 5, 6, 0, 0, 1⟩ = false := by decide +kernel
theorem witness_RunStart_gradient : flowBytes (runImage 3) 0 ≠ some (queuedBytes (advanceTo 0 (runs 3)) 0) := by decide +kernel
theorem witness_RunAck : let s : State := { unackedLink with fab := { unackedLink.fab with sent := [⟨0, 3, 0, 0⟩] } }
    s.fab.sent.find? (fun r => r.link == 0 && r.flow == 3 && unacked (linkOf s 0) r.lastSeq) = some ⟨0, 3, 0, 0⟩ := by decide
theorem witness_Msg : (1 : Nat) < fragmentCount 1 ∧ (3 : Nat) < fragmentCount 4 ∧ ¬(4 : Nat) < fragmentCount 4 := by decide

/-! ## O49: transactions -/

/-- A transaction of an operation on T1. -/
def txOf (op addr len aop rfmt : Nat) : Bytes := txHeader op 0 9 1 0 addr len aop rfmt 5

theorem witness_Tx_parse : (parseTx (txOf 1 0 64 0 0)).op = 1 ∧ (parseTx (txOf 2 0 64 0 0)).op = 2 ∧ (parseTx (txOf 3 0 0 0 0)).op = 3
    ∧ (parseTx (txOf 4 0 64 0 1)).op = 4 := by decide +kernel
theorem witness_Tx_states : txServed (withT1 root) = true ∧ (linkOf (withT1 root) 0).state = 2
    ∧ txServed { withT1 root with glb := { root.glb with state := .hostLost } } = false := by decide +kernel
/-- The longest transaction, and one byte more. -/
theorem witness_Tx_form : txMalformed (parseTx (txOf 1 0 262144 0 0)) = false ∧ txMalformed (parseTx (txOf 2 0 262145 0 0)) = true
    ∧ txMalformed (parseTx (txOf 3 8 0 0 0)) = false ∧ txMalformed (parseTx (txOf 3 4 0 0 0)) = true
    ∧ txMalformed (parseTx (txOf 4 4 64 0 0x12)) = false ∧ txMalformed (parseTx (txOf 4 4 64 0 2)) = true
    ∧ (parseTx (txOf 1 0 0 0 0)).len = 0 := by decide +kernel
/-- The last eight bytes of T1, and the first beyond it. -/
theorem witness_Tx_range : let s := withT1 root
    t1Cap s.lpd ≤ (parseTx (txOf 1 (t1Cap s.lpd) 8 0 0)).addr % 2 ^ 45
      ∧ (parseTx (txOf 1 (t1Cap s.lpd - 8) 8 0 0)).addr % 2 ^ 45 + 8 ≤ t1Cap s.lpd
      ∧ badLines s (t1Cap s.lpd - 8) 8 = [] ∧ (∀ n ∈ linesOf (t1Cap s.lpd - 8) 8, lineFailed s.lpd n = false) := by decide +kernel
theorem witness_Tx_atomic : (atomicNew (parseTx (txOf 3 8 8 2 0)) 6 7).isNone = true ∧ (atomicNew (parseTx (txOf 3 8 8 2 0)) 5 7).isSome = true
    ∧ (atomicNew (parseTx (txOf 3 8 0 5 0)) 6 0).isSome = true := by decide +kernel
theorem witness_Reply (op : Nat) : let q : Request := ⟨9, 1, op, .fetch 5 0⟩
    let s : State := { root with fab := { root.fab with requests := [q] } }
    requestOf s op 9 = some q ∧ (linkOf s 0).state = 2 := ⟨by simp [requestOf], rfl⟩

/-! ## O50: messages -/

/-- The header of a message from module 1. -/
def headerOf (scope dest hops : Nat) : MsgHeader := ⟨scope, hops, 1, dest, 9⟩

theorem witness_Message (p : Nat) (bs : List Nat) : messageOf (.invalidate 0 (headerOf 3 0 0) p bs) = some (0, ⟨headerOf 3 0 0, .invalidate p bs⟩)
    ∧ (headerOf 3 0 0).scope = 3 ∧ messageSeen (headerOf 3 0 0) root = false
    ∧ messageSeen (headerOf 3 0 0) { root with fab := { root.fab with seen := [(1, 9)] } } = true := ⟨rfl, rfl, rfl, rfl⟩
theorem witness_Message_routed : (headerOf 1 1 0).dest ≠ root.glb.moduleNumber.toNat ∧ (headerOf 1 1 0).hopsLeft = 0
    ∧ (headerOf 1 1 3).hopsLeft ≠ 0 ∧ routeTo root 1 = some (0, 1) ∧ (headerOf 1 0 3).dest = root.glb.moduleNumber.toNat
    ∧ routeTo root (headerOf 0 0 0).origin = some (0, 1) := by decide
theorem witness_Assign : let s : State := { linked 0 1 ready with fab := { (linked 0 1 ready).fab with discovery := 1 } }
    (headerOf 2 0 0).scope = 2 ∧ messageSeen (headerOf 2 0 0) s = false ∧ s.fab.discovery ≠ 2
      ∧ memberOf [⟨100, 3, 0x80⟩] s.nor.serial = some ⟨100, 3, 0x80⟩ := by decide
theorem witness_Membership : root.beam.count.toNat < 1 ∧ ready.beam.countValid = false := by decide
theorem witness_MembershipApply : let c : Change := ⟨0, [], [0]⟩
    let s : State := { root with fab := { root.fab with change := some c } }
    s.fab.change = some c ∧ s.beam.count.toNat = c.tick ∧ s.glb.moduleValid = true ∧ s.glb.moduleNumber.toNat ∈ c.leaving := by decide
theorem witness_Join : let s : State := { root with beam := { root.beam with role := .master } }
    s.beam.role = .master ∧ s.fab.change = none ∧ ({ s.fab with change := some ⟨80, [], []⟩ } : Fab).change ≠ none := by decide

/-- Module n of a ring of sixteen around this one, on link n − 1 of it. -/
def spoke (n : Nat) : LinkState := ⟨100 + n, none, 0x80, none, [(0, 100, n - 1)]⟩

/-- LANTERN at the last stage with fifteen neighbours, priority and all; `prio` is this module's. -/
def star (count : Nat) : State :=
  let s : State := { booting 7 with nor := { serial := 100 } }
  let up := (List.range count).foldl (fun s n => setLink n { state := 2, peerSerial := 101 + n, peerLink := 0 } s) s
  { up with fab := { up.fab with graph := (List.range count).map (fun n => spoke (n + 1)) } }

theorem witness_Discovery_few : mayDiscover (star 3) = true ∧ (star 3).fab.discovery ≠ 3
    ∧ ∃ m, elect (candidates (domainGraph (star 3)) (reached (domainGraph (star 3)) (star 3).nor.serial)) = some m
      ∧ (takeIn (domainGraph (star 3)) (reached (domainGraph (star 3)) m.serial) [] []).1.length < 16 := by
  refine ⟨by decide, by decide, _, rfl, ?_⟩
  decide +kernel
theorem witness_Discovery_whole : mayDiscover (star 15) = true
    ∧ ∃ m, elect (candidates (domainGraph (star 15)) (reached (domainGraph (star 15)) (star 15).nor.serial)) = some m
      ∧ 16 ≤ (takeIn (domainGraph (star 15)) (reached (domainGraph (star 15)) m.serial) [] []).1.length := by
  refine ⟨by decide, _, rfl, ?_⟩
  decide +kernel

/-! ## O51: exchange and orbits -/

theorem witness_CombineElems : ∀ c ∈ ([[1, 2], [3, 4]] : List (List Nat)), c.length = ([5, 6] : List Nat).length := by decide

/-- An image with one bucket of buoy 5, of some tiles, rooted at rank 0. -/
def bucketImage (count : Nat) : Image :=
  { pairOf 0 with
    buoys := [oneTile 5 1]
    exchange := { (pairOf 0).exchange with buckets := [⟨1, 0, 5, 0, count, 0, 0, 4, 2, 0⟩] } }

/-- RUNNING it; the child's tile has come. -/
def combining (count : Nat) (own theirs : Bytes) : State :=
  deepIn 5 1 [(0, some own)] { linked 0 1 (running (bucketImage count)) with rdx := { tiles := [⟨0, 1, false, 0, theirs⟩] } }

theorem witness_Bucket_empty : bucketTurn (combining 0 [] []) (bucketImage 0) 0 ⟨1, 0, 5, 0, 0, 0, 0, 4, 2, 0⟩ = true
    ∧ emptyBucketEnd (combining 0 [] []) (bucketImage 0) ⟨1, 0, 5, 0, 0, 0, 0, 4, 2, 0⟩ ≤ (combining 0 [] []).beam.offset := by decide +kernel

/-- Bytes of a tile of zeros. -/
def zeroBytes : Bytes := List.replicate 65536 0

theorem witness_Bucket : let t := plainTile 1 5 0 zeroBytes
    let s := combining 1 t t
    let b : Bucket := ⟨1, 0, 5, 0, 1, 0, 0, 4, 2, 0⟩
    s.img.live = some (bucketImage 1) ∧ (bucketImage 1).exchange.buckets[0]? = some b ∧ bucketTurn s (bucketImage 1) 0 b = true
      ∧ b.count ≠ 0 ∧ buoyEntry (bucketImage 1) b.buoy = some (oneTile 5 1) ∧ childTiles s (bucketImage 1) 0 b 0 = some [⟨0, 1, false, 0, t⟩]
      ∧ tileWritten s (bucketImage 1) b.buoy 0 = true ∧ bucketPos (bucketImage 1) b = 0 :=
  ⟨rfl, rfl, rfl, by decide, rfl, rfl, rfl, rfl⟩
theorem received_good {k rank : Nat} {b : Bucket} {tile : Nat} {p : Bytes} {s : State} (h : PlainOk b.wire b.buoy tile p) :
    checkAllReceived k b b.wire tile [⟨k, rank, false, tile, plainTile b.wire b.buoy tile p⟩] s
      = (some [tileElems (plainTile b.wire b.buoy tile p)], s) := by
  have hl : ((plainTile b.wire b.buoy tile p).length == tilePitch b.wire) = true := by
    simp [plainTile, tilePitch, h.2.2.2.2.2, Nat.add_comm]
  have hr : checkReceived k b b.wire tile rank (plainTile b.wire b.buoy tile p) s = (some (tileElems (plainTile b.wire b.buoy tile p)), s) := by
    unfold checkReceived
    simp only [plain_numeric h, plain_identity h, hl, show tileCrcOk (plainTile b.wire b.buoy tile p) = true from makeTile_crcOk _ _]
    rfl
  simp only [checkAllReceived, hr]
theorem witness_Bucket_checks : let s := combining 1 (plainTile 1 5 0 zeroBytes) (plainTile 1 5 0 zeroBytes)
    useTile rdeCode (rdeLe (bucketImage 1)) 0x4500 0x8501 (oneTile 5 1) 0 0 s
      = (.good (workHeader 1 5 0 0 127 0 0) (plainTile 1 5 0 zeroBytes), s)
    ∧ checkAllReceived 0 ⟨1, 0, 5, 0, 1, 0, 0, 4, 2, 0⟩ 1 0 [⟨0, 1, false, 0, plainTile 1 5 0 zeroBytes⟩] s
      = (some [tileElems (plainTile 1 5 0 zeroBytes)], s) := by
  have h : PlainOk 1 5 0 zeroBytes := zero_ok (by decide) (by decide) (by decide)
  exact ⟨deep_use _ _ _ _ (e := oneTile 5 1) (n := 0) rfl rfl h, received_good (b := ⟨1, 0, 5, 0, 1, 0, 0, 4, 2, 0⟩) h⟩

/-- An ORBIT section with these entries. -/
def orbitSec (sets : List OrbitSet) : OrbitSec :=
  { h := 4, d := 1, snapEvery := 0, ckptEvery := 0, outArea := 0, inArea := 0, snapHold := 0, snapBytes := 4096, ckptHold := 0, ckptMib := 1,
    snapDeep := false, sets := sets }

/-- RUNNING with orbits, the plan beam carrying a work bit. -/
def orbiting (flags : Nat) (sets : List OrbitSet) (o : Orbit) : State :=
  { running { bare with plans := { bare.plans with beams := [⟨0, 0, 0xFFFF, flags⟩] }, orbit := some (orbitSec sets) } with orbit := o }

/-- The image of it. -/
def orbitImage (flags : Nat) (sets : List OrbitSet) : Image :=
  { bare with plans := { bare.plans with beams := [⟨0, 0, 0xFFFF, flags⟩] }, orbit := some (orbitSec sets) }

/-- A capture of nothing. -/
def nothing (checkpoint : Bool) : Capture :=
  { checkpoint := checkpoint, jobStep := 3, applied := 0, orbitOut := 0, orbitApplied := 0, anchorEpoch := 0, epochs := [], numerics := [] }

theorem witness_Pack : let s := orbiting 4 [] { dueOut := some 1 }
    liveOrbit s = some (orbitImage 4 [], orbitSec []) ∧ s.orbit.dueOut = some 1 ∧ workDue s (orbitImage 4 []) 2 = true
      ∧ packEntries (orbitImage 4 []) (orbitSec []) 1 [] s = (true, s) := by decide +kernel
theorem witness_Unpack : let s := orbiting 8 [] { dueIn := some 1 }
    workDue s (orbitImage 8 []) 3 = true ∧ unpackEntries (orbitImage 8 []) (orbitSec []) [] s = (true, s) := by decide +kernel
theorem witness_Capture (c : Bool) : let s := orbiting 32 [] { due := [nothing c] }
    workDue s (orbitImage 32 []) 5 = true ∧ s.orbit.due = [nothing c]
      ∧ captureTiles (captureSet (orbitImage 32 []) (nothing c)) s = (some [], s) := by cases c <;> decide +kernel
/-- A packet of a buoy that the image does not hold fails. -/
theorem witness_Validate : let x : OrbitSet := ⟨2, 5, 9, 5, 6, 0, 0⟩
    let s := orbiting 0 [] { staged := some 1 }
    let t := orbiting 0 [x] { staged := some 1 }
    s.orbit.staged = some 1 ∧ firstBadPacket (orbitImage 0 []) (orbitSec []) 1 0 [] s = (none, s)
      ∧ firstBadPacket (orbitImage 0 [x]) (orbitSec [x]) 1 0 [x] t = (some 0, t) := ⟨rfl, rfl, rfl⟩
theorem witness_Anchor : let x : OrbitSet := ⟨2, 5, 5, 5, 6, 0, 0⟩
    let s : State := orbiting 0 [x] { anchorBusy := true }
    s.orbit.anchorBusy = true ∧ (orbitSec [x]).sets = [x]
      ∧ buoyEntry { orbitImage 0 [x] with buoys := [oneTile 5 1, oneTile 6 1] } x.anchor = some (oneTile 5 1)
      ∧ buoyEntry { orbitImage 0 [x] with buoys := [oneTile 5 1, oneTile 6 1] } x.stage = some (oneTile 6 1) := ⟨rfl, rfl, rfl, rfl⟩
theorem witness_Writes : let s := orbiting 0 [] { writing := some (nothing true), snapWriting := some (nothing false), snapRelease := true }
    s.orbit.writing = some (nothing true) ∧ (nothing true).checkpoint = true ∧ anchorWhole s.orbit (nothing true) = true
      ∧ s.orbit.snapWriting = some (nothing false) ∧ (nothing false).checkpoint = false := by decide
theorem witness_OrbitHost : Reaches .host .rdxOrbitHost (at_ 32 7 + 2) ready ∧ Reaches .host .rdxOrbitHost (at_ 32 1 + 1) ready
    ∧ Reaches .mgmt .rdxCapture 1 ready ∧ Reaches .host .rdxCapture 2 ready ∧ Reaches .host .rdxCapture 4 ready
    ∧ liveOrbit (orbiting 0 [] {}) ≠ none ∧ (orbiting 0 [] {}).orbit.applied + 1 = 1
    ∧ Reaches .host .rdxOrbitHost (at_ 32 1 + 1) (orbiting 0 [] {}) := by unfold Reaches; decide

/-- A deep object of a checkpoint. -/
def ckptObject (content : Bytes) : DeepObj := { deepObject 0 0 [] with area := 3, tileCount := 0, content := content }

/-- READY with a checked image, a restore under way from the object. -/
def restoring (i : Image) (content : Bytes) : State :=
  { ready with
    img := { stage := .checked, kind := .full, checked := some i }
    orbit := { restore := 1, restoreObj := 0 }
    deep := { channels := [0], objects := [ckptObject content] } }

theorem witness_RestoreAsk : let s := restoring bare []
    Reaches .host .rdxRestore (locator 3 0 0) s ∧ s.glb.state = .ready ∧ s.img.stage = .checked ∧ s.img.kind = .full
      ∧ locatedObject s.deep (locator 3 0 0 % 2 ^ 58) = some (ckptObject []) ∧ locatedObject s.deep 1 = none := by unfold Reaches; decide
theorem witness_Restore (i : Image) (content : Bytes) : (restoring i content).img.checked = some i ∧ (restoring i content).orbit.restore = 1
    ∧ deepObj (restoring i content).deep (restoring i content).orbit.restoreObj = some (ckptObject content) := ⟨rfl, rfl, rfl⟩

/-- The image with one shard of this member. -/
def shardImage : Image :=
  { bare with buoys := [oneTile 5 1, oneTile 6 1], exchange := { noExchange with pairs := [⟨4, 5, 6, 5, 6⟩] } }

/-- A capture's bytes ahead of its tiles. -/
def captured (i : Image) : Bytes := captureAhead i (nothing true) (captureSet i (nothing true))

/-- What lies ahead of a capture's tiles passes its CRC-32C. -/
theorem captured_ok (i : Image) : captureCrcOk (captured i) = true := by
  have hf (c : Capture) (n : Nat) : (captureFields i c n).length = 84 := by
    simp only [captureFields, List.length_append, leBytes_length]
    decide
  have key (c : Capture) (n : Nat) (r : Bytes) : captureCrcOk (captureHeader i c n ++ r) = true := by
    have e : captureHeader i c n ++ r = captureFields i c n
        ++ (leBytes 4 (crc32c (captureFields i c n ++ List.replicate 172 0)) ++ (List.replicate 168 0 ++ r)) := by
      simp only [captureHeader, List.append_assoc]
    have h4 : (captureHeader i c n ++ r).take 4 = ascii "CAPT" := by
      rw [e]
      simp only [captureFields, List.append_assoc]
      exact List.take_left' (by decide)
    have hn : natAt (captureHeader i c n ++ r) 84 4 = crc32c (captureFields i c n ++ List.replicate 172 0) :=
      (natAt_middle _ _ e (hf c n)).trans (Nat.mod_eq_of_lt (crc32c_lt _))
    have hb : (captureHeader i c n ++ r).take 84 ++ [0, 0, 0, 0] ++ ((captureHeader i c n ++ r).drop 88).take 168
        = captureFields i c n ++ List.replicate 172 0 := by
      have hd : (captureHeader i c n ++ r).drop 88 = List.replicate 168 0 ++ r := by
        rw [e, ← List.append_assoc]
        exact List.drop_left' (by simp [hf])
      rw [hd, List.take_left' List.length_replicate, e, List.take_left' (hf c n), List.append_assoc]
      rfl
    unfold captureCrcOk
    rw [h4, hn, hb, beq_self_eq_true, beq_self_eq_true]
    rfl
  have ha (c : Capture) (set : List Captured) : captureAhead i c set
      = captureHeader i c set.length ++ (directory (aheadBytes c set.length) set ++ epochRecords c.epochs ++ c.numerics) := by
    simp only [captureAhead, List.append_assoc]
  unfold captured
  rw [ha]
  exact key _ _ _

theorem witness_Restore_checks : captureCrcOk [] = false ∧ captureIsOf bare (captured bare) = true
    ∧ captureIsOf { bare with jobId := 8 } (captured bare) = false ∧ captureFits bare (captured bare) = true
    ∧ captureFits shardImage (captured bare) = false ∧ captureFits shardImage (captured shardImage) = true := by decide +kernel
theorem witness_Restore_loads : let s := restoring bare (captured bare)
    loadShards bare (readEpochs (captured bare)) (ckptObject (captured bare)) 0 [] s = (true, s) := rfl
theorem witness_Restore_fails : let s := restoring shardImage []
    ∀ d : DirRecord, d.id = 4 → d.tiles = 1 → loadShards shardImage [] (ckptObject []) 0 [d] s = (false, s) := by
  rintro s ⟨id, sh, n, at_⟩ rfl rfl
  rfl

end Sys2Proof.Tests
end

