-- ==== Sys2Proof/Tests/Witness6.lean ====
section
/-! SUPPORT. Witnesses that the hypotheses of the statements O52 to O57 can be met: one theorem for each, with the states they stand on. -/
namespace Sys2Proof.Tests
open Sys2Proof.Machine Sys2Proof.Claims
set_option Elab.async false

/-! ## O52: accesses from outside -/

/-- READY with T1 of every unit and the aperture at 8 GiB; firewall windows 0 and 32 read, or read and write, their first 64 KiB, and windows 1
and 33 those of the aperture. -/
def walled (perm : W64) : State :=
  { withT1 ready with
    live := { fwlRange := [(1, 0x00020000 * 2 ^ 32 + 0x00020000), (33, 0x00020000 * 2 ^ 32 + 0x00020000)]
              fwlPerm := [(0, perm), (1, perm), (32, perm), (33, perm)] }
    host := { ready.host with aperture := 2, partnerUp := true, port0 := { up := true }, port1 := { up := true } } }

theorem witness_Mem : hostServed (walled 7) = true ∧ (walled 7).glb.state ≠ .hostLost ∧ hdmCovers (walled 7) 0 = true
    ∧ hdmCovers (walled 7) (2 ^ 24 - 1) = true ∧ hdmCovers (walled 7) (2 ^ 24) = false
    ∧ firstBarred (walled 7).live 0 false (64 * 1023) 64 = none ∧ badLines (walled 7) (64 * 1023) 64 = []
    ∧ (∀ n ∈ linesOf (64 * 1023) 64, lineFailed (walled 7).lpd n = false) ∧ firstBarred (walled 7).live 0 false (64 * 1024) 64 = some 1024
    ∧ firstBarred (walled 7).live 0 true 0 64 = none ∧ firstBarred (walled 5).live 0 true 0 64 = some 0
    ∧ firstBarred (walled 5).live 0 false 0 64 = none ∧ firstBarred (walled 3).live 0 false 0 64 = some 0
    ∧ Lpd.wf (walled 7).lpd = true ∧ 0 ∉ (walled 7).host.violated := by decide +kernel

/-- Landing window 0 locked by root port 0, its span the 64 KiB at 64 KiB. -/
def lockedWin (dropped : Bool) : LockedWin :=
  { gen := 1, base := 65536, size := 65536, producer := 1, release := 0, admitted := none, dropped := dropped }

/-- With that window locked. -/
def lockedIn (s : State) : State := { s with host := { s.host with locked := [(0, lockedWin false)] } }

theorem witness_Aperture (site : Site) : siteServed site (walled 7) = true ∧ inBar2 0 64 = true ∧ inBar2 (2 ^ 32 - 64) 64 = true
    ∧ inBar2 (2 ^ 32 - 64) 65 = false ∧ (walled 7).glb.state ≠ .hostLost
    ∧ apertureBarred (walled 7) (apertureAt (walled 7) 0) 64 = false
    ∧ apertureBarred { walled 7 with host := { (walled 7).host with aperture := 1 } } (5 * 2 ^ 30 - 64) 64 = true
    ∧ apertureBarred { walled 7 with host := { (walled 7).host with aperture := 1 } } (5 * 2 ^ 30) 64 = false
    ∧ firstBarred (walled 7).live (siteRequester site) false (2 ^ 33) 64 = none
    ∧ firstBarred (walled 7).live (siteRequester site) false (2 ^ 33 + 65536) 64 = some (2 ^ 27 + 1024)
    ∧ linesOf (2 ^ 33) 64 = [2 ^ 27] ∧ linesOf (2 ^ 33 + 1) 64 = [2 ^ 27, 2 ^ 27 + 1]
    ∧ (apertureBuf (walled 7) site).find? (fun y => y.1 == 2 ^ 27) = none
    ∧ (walled 7).env.badT1 = [] ∧ lineFailed (walled 7).lpd (2 ^ 27) = false := by cases site <;> decide +kernel
theorem witness_Aperture_buffered : let s : State := { walled 7 with host := { (walled 7).host with bufHost := [(2 ^ 27, ones 64, false)] } }
    (apertureBuf s .host).find? (fun y => y.1 == 2 ^ 27) = some (2 ^ 27, ones 64, false) := by decide
theorem witness_Aperture_write (site : Site) : inJob (walled 7) = false ∧ siteServed .host (running bare) = true ∧ inJob (running bare) = true
    ∧ firstRefused (walled 7) (siteRequester site) 0 (2 ^ 33) 64 = none ∧ lockedTouched (walled 7) 0 (2 ^ 33) 64 = []
    ∧ firstRefused (walled 5) (siteRequester site) 0 (2 ^ 33) 64 = some (2 ^ 27) := by cases site <;> decide +kernel
theorem witness_Inbound (port : Fin 2) : let s := lockedIn (walled 7)
    (rootPort s port).up = true ∧ inboundUnsupported s (2 ^ 45) 64 = true ∧ inboundUnsupported s (t1Cap s.lpd - 63) 64 = true
      ∧ inboundUnsupported s (t1Cap s.lpd - 64) 64 = false ∧ firstBarred s.live (3 + port) false 0 64 = none
      ∧ firstBarred s.live (3 + port) false 65536 64 = some 1024 ∧ badLines s 0 64 = []
      ∧ firstRefused s (3 + port) (port + 1) 0 64 = none ∧ lockedTouched s (port + 1) 0 64 = []
      ∧ firstRefused s (3 + port) (port + 1) (2 * 65536) 64 = some 2048 := by
  have h : port = 0 ∨ port = 1 := by omega
  obtain rfl | rfl := h <;> decide +kernel
theorem witness_Inbound_locked : let s := lockedIn (walled 7)
    firstRefused s 3 1 65536 64 = none ∧ lockedTouched s 1 65536 64 = [0] ∧ SMap.find? s.host.locked 0 = some (lockedWin false)
      ∧ (lockedWin false).dropped = false ∧ firstRefused s 4 2 65536 64 = some 1024 ∧ firstRefused s 3 1 (2 * 65536 - 64) 8 = none
      ∧ firstRefused s 3 1 (2 * 65536 - 64) 9 = some 2047 := by decide +kernel
theorem witness_Outbound : hostServed (walled 7) = true ∧ (0 : Nat) < 2 ^ 30 ∧ (2 ^ 30 - 1) / 2 ^ 29 = 1 ∧ (2 ^ 29 - 1) / 2 ^ 29 = 0
    ∧ Reaches .host .aptCfgData 0 (walled 7) ∧ Reaches .mgmt .aptCfgData 0 (walled 7)
    ∧ (rootPort (walled 7) (cfgPort (walled 7))).up = true := by unfold Reaches; decide

/-! ## O53: copies and the host link -/

/-- The copy task on CE0: an operation on tile 0 of the access. -/
def copyRun (op : Nat) (rec_ : Bool) : RunTask :=
  engRun (op * 2 ^ 56 + (if rec_ then 2 ^ 55 else 0) + 1 * 2 ^ 64)

/-- RUNNING it, at tile 0; buoy 5 stands in the deep tier with these tiles. -/
def copying (op : Nat) (rec_ : Bool) (tiles : SMap (Option Bytes)) (cells : SMap Byte) : State :=
  { engWorld 0 1 1 with
    host := { (engWorld 0 1 1).host with ce := [(0, { run := some (copyRun op rec_) })] }
    deep := { (engWorld 0 1 1).deep with objects := [deepObject 5 1 tiles] }
    lpd := { cells := cells } }

theorem witness_Copy (op : Nat) (h : op = 1 ∨ op = 2) (rec_ : Bool) (tiles : SMap (Option Bytes)) (cells : SMap Byte) :
    ceTask (copying op rec_ tiles cells) 0 = some (engImage 0 1 1, copyRun op rec_) ∧ copyOp (copyRun op rec_).task = op
      ∧ copyCount (copyRun op rec_).task = 1 ∧ copyRecords (copyRun op rec_).task = rec_
      ∧ (SMap.get (copying op rec_ tiles cells).host.ce 0 {}).next = 0
      ∧ tileRef (engImage 0 1 1) (copyRun op rec_) (copyAcc (copyRun op rec_).task) (copyFirst (copyRun op rec_).task + 0)
        = some (goodRef 1 1 0) := by
  obtain rfl | rfl := h <;> cases rec_ <;> exact ⟨rfl, by decide, by decide, by decide, rfl, by decide⟩
theorem witness_Copy_ends : 374999 < periodOf (copying 1 true [] []).live := (by decide : 374999 < periodOf ready.live)

theorem copy_tile_good (who le ev idFault op : Nat) (rec_ : Bool) (cells : SMap Byte) :
    let s := copying op rec_ [(0, some (plainTile 1 5 0 zeroTile))] cells
    useTile who le ev idFault (goodRef 1 1 0).entry (goodRef 1 1 0).tile (goodRef 1 1 0).budget s
      = (.good (workHeader 1 5 0 0 127 0 0) (plainTile 1 5 0 zeroTile), s) :=
  deep_use who le ev idFault (e := deepBuoy 1 1) (n := 0) rfl rfl (zero_ok (by decide) (n := 5) (by decide) (by decide))

/-- A tile that passes its checks is copied. -/
theorem toHostTile_good {u : Nat} {i : Image} {t : RunTask} {j : Nat} {r : TileRef} {h : Header} {b : Bytes} {s x : State}
    (hr : tileRef i t (copyAcc t.task) (copyFirst t.task + j) = some r)
    (hu : useTile ceCode t.task.le 0x5003 0x9001 r.entry r.tile r.budget s = (.good h b, x)) : ∃ y, toHostTile u i t j s = (true, y) := by
  unfold toHostTile
  rw [hr]
  simp only [hu]
  exact ⟨_, rfl⟩
theorem toHost_good (rec_ : Bool) : let s := copying 1 rec_ [(0, some (plainTile 1 5 0 zeroTile))] []
    ∃ x, toHostTile 0 (engImage 0 1 1) (copyRun 1 rec_) 0 s = (true, x) :=
  toHostTile_good (witness_Copy 1 (.inl rfl) rec_ [] []).2.2.2.2.2 (copy_tile_good _ _ _ _ 1 rec_ [])
theorem witness_ToHost (rec_ : Bool) : let s := copying 1 rec_ [(0, some (plainTile 1 5 0 zeroTile))] []
    ∃ x, copyTiles (toHostTile 0 (engImage 0 1 1) (copyRun 1 rec_)) (1 - 0) 0 s = (true, x) := by
  obtain ⟨x, hx⟩ := toHost_good rec_
  refine ⟨x, ?_⟩
  simp only [copyTiles, hx]
theorem witness_ToHost_held : let s := copying 1 false [(0, some [])] []
    ∃ q, useTile ceCode (copyRun 1 false).task.le 0x5003 0x9001 (goodRef 1 1 0).entry 0 0 s = (.held, q) := ⟨_, rfl⟩

/-- A run of bytes stands in T1 as it is. -/
theorem fill_keyed {α : Type} (d : Nat → α) (a : Nat) (b : List α) : SMap.fill d b.length a (SMap.keyed a b) = b := by
  induction b generalizing a with
  | nil => rfl
  | cons x r ih => simp [SMap.keyed, SMap.fill, ih]
theorem slice_keyed {α : Type} (a : Nat) (b : List α) : SMap.slice (SMap.keyed a b) a b.length = SMap.keyed a b := by
  apply List.filter_eq_self.2
  intro e he
  have := SMap.mem_keyed he
  simp [this]
theorem overlay_nil {α : Type} (m : SMap α) : SMap.overlay [] m = m := by
  cases m <;> rfl
theorem t1_keyed (a : Nat) (b : Bytes) : t1Bytes { cells := SMap.keyed a b } a b.length = b := by
  have hw : wcbBytes { cells := SMap.keyed a b } a b.length = [] := rfl
  unfold t1Bytes
  rw [hw, slice_keyed, overlay_nil, slice_keyed, fill_keyed]

/-- What the copy engine reads from the host region. -/
theorem t1Read_keyed (who : Nat) {s : State} {a n : Nat} {b : Bytes} (hl : s.lpd = { cells := SMap.keyed a b }) (hn : n = b.length)
    (hb : s.env.badT1 = []) : t1Read who a n s = (⟨b, false⟩, s) := by
  have h0 : badLines s a n = [] := by simp [badLines, hb]
  have h1 : (linesOf a n).any (lineFailed s.lpd) = false := by
    rw [hl, List.any_eq_false]
    intro x _
    simp [lineFailed]
  unfold t1Read
  rw [h0]
  simp only [h1]
  rw [hl, hn, t1_keyed]

/-- A plain tile passes the checks of FROM_HOST. -/
theorem fromHost_passes {e : BuoyEntry} {k : Nat} {p : Bytes} (h : PlainOk e.format e.id k p) :
    fromHostCheck e k ⟨plainTile e.format e.id k p, false⟩ = none := by
  unfold fromHostCheck
  simp only [plain_numeric h, plain_identity h, show tileCrcOk (plainTile e.format e.id k p) = true from makeTile_crcOk _ _]
  rfl

/-- The host's copy of tile 0 as it arrives. -/
def fromHostTile0 : State := copying 2 false [] (SMap.keyed 0 (plainTile 1 5 0 zeroTile))

theorem plain_pitch (e : BuoyEntry) (n k : Nat) (p : Bytes) (h : PlainOk e.format n k p) :
    buoyPitch e = (plainTile e.format n k p).length := by
  obtain ⟨_, _, _, _, _, hl⟩ := h
  simp [buoyPitch, tilePitch, plainTile, hl, Nat.add_comm]

theorem tile0_ok : PlainOk (goodRef 1 1 0).entry.format (goodRef 1 1 0).entry.id 0 zeroTile :=
  zero_ok (by decide) (n := 5) (by decide) (by decide)

theorem witness_FromHost_read : t1Read ceCode (copyAt fromHostTile0 (copyRun 2 false) (goodRef 1 1 0).entry 0) (buoyPitch (goodRef 1 1 0).entry)
    fromHostTile0 = (⟨plainTile 1 5 0 zeroTile, false⟩, fromHostTile0) :=
  t1Read_keyed ceCode (a := 0) rfl (plain_pitch (goodRef 1 1 0).entry 5 0 zeroTile tile0_ok) rfl
theorem witness_FromHost_check : fromHostCheck (goodRef 1 1 0).entry 0 ⟨plainTile 1 5 0 zeroTile, false⟩ = none := fromHost_passes tile0_ok

/-- A tile that passes is written. -/
theorem fromHostTile_good {u : Nat} {i : Image} {t : RunTask} {j : Nat} {r : TileRef} {s : State} {m : MemRead × State}
    (hr : tileRef i t (copyAcc t.task) (copyFirst t.task + j) = some r)
    (hm : t1Read ceCode (copyAt s t r.entry j) (buoyPitch r.entry) s = m) (hc : fromHostCheck r.entry r.tile m.1 = none) {n : Nat}
    (hd : (buoyOf m.2 r.entry.id).auth.place = .deep n) :
    (∃ q, writeTile ceCode (some t.task.le) r.entry r.tile (stampTile (jobStep m.2) m.1.data) m.2 = (true, q))
      ∧ ∃ y, fromHostTile u i t j s = (true, y) := by
  have hw := (write_deep ceCode (some t.task.le) r.entry r.tile (stampTile (jobStep m.2) m.1.data) m.2 hd).1
  generalize hq : writeTile ceCode (some t.task.le) r.entry r.tile (stampTile (jobStep m.2) m.1.data) m.2 = w at hw
  obtain ⟨w1, w2⟩ := w
  subst hw
  refine ⟨⟨w2, rfl⟩, ?_⟩
  unfold fromHostTile
  rw [hr]
  simp only [hm, hc, hq]
  exact ⟨_, rfl⟩
theorem fromHost_good : (∃ q, writeTile ceCode (some (copyRun 2 false).task.le) (goodRef 1 1 0).entry 0
      (stampTile (jobStep fromHostTile0) (plainTile 1 5 0 zeroTile)) fromHostTile0 = (true, q))
    ∧ ∃ x, fromHostTile 0 (engImage 0 1 1) (copyRun 2 false) 0 fromHostTile0 = (true, x) :=
  fromHostTile_good (m := (⟨plainTile 1 5 0 zeroTile, false⟩, fromHostTile0)) (n := 0) (witness_Copy 2 (.inr rfl) false [] []).2.2.2.2.2
    witness_FromHost_read witness_FromHost_check rfl
theorem witness_FromHost : ∃ x, copyTiles (fromHostTile 0 (engImage 0 1 1) (copyRun 2 false)) (1 - 0) 0 fromHostTile0 = (true, x) := by
  obtain ⟨x, hx⟩ := fromHost_good.2
  refine ⟨x, ?_⟩
  simp only [copyTiles, hx]
/-- Nothing in the host region: the CRC check fails. -/
theorem witness_FromHost_fails : fromHostCheck (goodRef 1 1 0).entry 0 ⟨[1], true⟩ = some 1
    ∧ (0 : Nat) < copyCount (copyRun 2 false).task := by decide

theorem witness_RootPort (port : Fin 2) : (rootPort (walled 7) port).up = true := by
  have h : port = 0 ∨ port = 1 := by omega
  obtain rfl | rfl := h <;> rfl
theorem witness_HostLost : ready.host.hostUp = true ∧ mayLoseHost ready = true ∧ inJob ready = false ∧ (running bare).host.hostUp = true
    ∧ mayLoseHost (running bare) = true ∧ inJob (running bare) = true ∧ hostTrains ready = true := by decide
theorem witness_HostLost_notYet : let s : State := { ready with glb := { ready.glb with state := .recovery } }
    s.host.hostUp = true ∧ mayLoseHost s = false ∧ hostTrains s = true := by decide

/-- HOST_LOST, the management port served. -/
def lostHost : State := { ready with glb := { ready.glb with state := .hostLost }, lpd := { selfRefresh := true } }

theorem witness_HostCommands : Reaches .mgmt .aptHostCmd 1 lostHost ∧ lostHost.glb.state = .hostLost ∧ Reaches .host .aptHostCmd 1 ready
    ∧ Reaches .mgmt .aptHostCmd 2 lostHost ∧ Reaches .host .aptHostCmd 2 ready ∧ ready.glb.state ≠ .hostLost := by unfold Reaches; decide
theorem witness_HostRecovered (k : RecoveryCause) : let s : State := { ready with glb := { ready.glb with state := .recovery, recovery := k } }
    s.glb.state = .recovery ∧ s.glb.recovery = k ∧ failingBanks (scrubMemories s) = [] := by cases k <;> decide +kernel

/-! ## O54: transfers and firmware -/

/-- A transfer is open. -/
def transferring (x : Xfer) : State :=
  { ready with nor := { slotB := goodSlot, operator := some policyModulus }, kpr := { xfer := x },
               env := { firmwareKey := slotKey, firmwareModulus := slotModulus } }

theorem policy_signed : operatorSigned (transferring {}) goodPolicy = true := policy_verifies
theorem witness_Policy : policyOk goodPolicy = true ∧ operatorSigned (transferring {}) goodPolicy = true := ⟨policy_good, policy_signed⟩
theorem witness_Policy_bad : policyOk [] = false ∧ operatorSigned (transferring {}) [] = false ∧ operatorSigned ready goodPolicy = false
    ∧ serviceSigned ready [] = false :=
  ⟨by decide, by simp [operatorSigned, transferring, recordVerifies], rfl, by simp [serviceSigned, recordVerifies]⟩
theorem witness_Open (o : Nat) (h : o ∈ [2, 3, 4, 5]) : Reaches .host .kprXferCtrl (at_ 8 o + 1) ready
    ∧ (xferPort .host ready && ready.kpr.xfer.owner == none && objectAllowed o false ready.glb.state
      && (!ready.kpr.romService || (o == 1 && false))) = true := by
  unfold Reaches
  simp only [List.mem_cons, List.not_mem_nil, or_false] at h
  obtain rfl | rfl | rfl | rfl := h <;> decide
theorem witness_OpenWrite (o : Nat) (h : o ∈ [1, 5, 6]) : Reaches .mgmt .kprXferCtrl (at_ 8 o + 2) ready
    ∧ (xferPort .mgmt ready && ready.kpr.xfer.owner == none && objectAllowed o true ready.glb.state
      && (!ready.kpr.romService || (o == 1 && true))) = true := by
  unfold Reaches
  simp only [List.mem_cons, List.not_mem_nil, or_false] at h
  obtain rfl | rfl | rfl := h <;> decide
theorem witness_Open_refused : Reaches .host .kprXferCtrl (at_ 8 1 + 1) ready ∧ objectAllowed 1 false ready.glb.state = false
    ∧ Reaches .host .kprXferCtrl (at_ 8 255 + 2) ready ∧ objectAllowed 255 true ready.glb.state = false := by unfold Reaches; decide
theorem witness_Close (o : Nat) (w : Bool) (h : (o, w) ∈ [(1, true), (2, false), (3, false), (4, false), (5, false), (5, true), (6, true)])
    (b : Bytes) : let s := transferring { owner := some .host, object := o, write := w, data := b }
    Reaches .host .kprXferCtrl 3 s ∧ Reaches .host .kprXferCtrl 4 s ∧ xferPort .host s = true ∧ s.kpr.xfer.owner = some .host
      ∧ objectAllowed s.kpr.xfer.object s.kpr.xfer.write s.glb.state = true ∧ s.kpr.xfer.data = b := by
  simp only [List.mem_cons, Prod.mk.injEq, List.not_mem_nil, or_false] at h
  obtain ⟨rfl, rfl⟩ | ⟨rfl, rfl⟩ | ⟨rfl, rfl⟩ | ⟨rfl, rfl⟩ | ⟨rfl, rfl⟩ | ⟨rfl, rfl⟩ | ⟨rfl, rfl⟩ := h <;>
    exact ⟨rfl, rfl, rfl, rfl, rfl, rfl⟩
theorem witness_Close_refused : Reaches .mgmt .kprXferCtrl 3 ready ∧ Reaches .mgmt .kprXferCtrl 4 ready ∧ ready.kpr.xfer.owner ≠ some .mgmt := by
  unfold Reaches; decide
theorem witness_VerifyFw : let s := transferring {}
    Reaches .host .kprXferCtrl 5 s ∧ xferPort .host s = true ∧ s.glb.state ≠ .lantern ∧ slotValid s (!s.nor.active) = true
      ∧ s.kpr.romService = false := ⟨rfl, rfl, by decide, slot_good, rfl⟩
theorem witness_VerifyFw_rom : let s := { transferring {} with kpr := { romService := true } }
    Reaches .mgmt .kprXferCtrl 5 s ∧ xferPort .mgmt s = true ∧ s.glb.state ≠ .lantern ∧ slotValid s (!s.nor.active) = true
      ∧ s.kpr.romService = true := ⟨rfl, rfl, by decide, slot_good, rfl⟩
theorem witness_VerifyFw_fails : Reaches .host .kprXferCtrl 5 ready ∧ xferPort .host ready = true ∧ ready.glb.state ≠ .lantern
    ∧ slotValid ready (!ready.nor.active) = false := ⟨rfl, rfl, by decide, by decide +kernel⟩
theorem witness_VerifyFw_lantern : Reaches .mgmt .kprXferCtrl 5 (booting 2) ∧ (booting 2).glb.state = .lantern := by unfold Reaches; decide
theorem witness_ActivateFw : let s : State := { ready with kpr := { bValid := true } }
    Reaches .host .kprXferCtrl 6 s ∧ (xferPort .host s && s.glb.state != .lantern && !s.kpr.romService && slotFlag s (!s.nor.active)) = true
      ∧ Reaches .host .kprXferCtrl 6 ready ∧ slotFlag ready (!ready.nor.active) = false := by unfold Reaches; decide
theorem witness_Prepared : let s := transferring { owner := some .host, object := 3, state := 1 }
    s.kpr.xfer.owner ≠ none ∧ s.kpr.xfer.state = 1 ∧ s.kpr.xfer.object = 3 := by decide
theorem witness_XferRead : let s := transferring { owner := some .host, object := 5, state := 2, data := List.replicate 16 1, position := 8 }
    readServed .host s = true ∧ s.kpr.xfer.owner = some .host ∧ s.kpr.xfer.position < xferLength s.kpr.xfer := by decide
theorem witness_XferRead_end : let s := transferring { owner := some .host, object := 5, state := 2, data := List.replicate 16 1, position := 16 }
    readServed .host s = true ∧ xferLength s.kpr.xfer ≤ s.kpr.xfer.position := by decide
theorem witness_XferWrite (o : Nat) : let s := transferring { owner := some .host, object := o, write := true, state := 2, undrained := 65535 }
    Reaches .host .kprXferData 9 s ∧ s.kpr.xfer.owner = some .host ∧ s.kpr.xfer.write = true ∧ 2 ≤ s.kpr.xfer.state
      ∧ s.kpr.xfer.undrained < 65536 := ⟨rfl, rfl, rfl, Nat.le_refl 2, (by decide : (65535 : Nat) < 65536)⟩
theorem witness_XferWrite_refused : Reaches .mgmt .kprXferData 9 ready ∧ ready.kpr.xfer.owner ≠ some .mgmt := by unfold Reaches; decide
theorem witness_Switch (b : Bool) : let s : State := { ready with nor := { pending := some b } }
    s.nor.pending = some b ∧ fenceState s.glb.state = true ∧ s.kpr.romService = false ∧ s.kpr.trial = false := ⟨rfl, rfl, rfl, rfl⟩
theorem witness_Trial (b : Bool) : ({ ready with kpr := { trial := true, trialSlot := b, restarting := true } } : State).kpr.trial = true := rfl

/-! ## O55: the CSR space and the I3C target -/

theorem witness_Access (p : Port) : readServed p ready = true ∧ romSilent p 0 ready = false ∧ wholeAccess 0 4 = false ∧ wholeAccess 4 8 = false
    ∧ wholeAccess 0 8 = true ∧ regAt 0 = some .glbId ∧ plainRead .glbId = true ∧ wholeAccess 0x000FF8 8 = true ∧ regAt 0x000FF8 = none := by
  cases p <;> decide +kernel
theorem witness_CsrWrite_row : regAt 0x900000 = some .secStatus ∧ (∃ o, regAt o = some .kprXferCtrl) ∧ (∃ o, regAt o = some .imgCtrl)
    ∧ (∃ o, regAt o = some .imgLoad) ∧ rowOf .host 9 .imgLoad = some (.imgLoad .host 9) := by
  refine ⟨by decide +kernel, ⟨0xA00010 + 8, ?_⟩, ⟨0x200008, ?_⟩, ⟨0x200010, ?_⟩, rfl⟩ <;> decide +kernel
/-- A shadow write, and one that CHECKING refuses. -/
theorem witness_CsrWrite_rws : regAt 0xC00100 = some (.fwlRange 0) ∧ wholeAccess 0xC00100 8 = true
    ∧ Reaches .mgmt (.fwlRange 0) (0xFFFFFFFFFFFFFFFF : W64).toNat ready ∧ Rws.value ready.shadow (.fwlRange 0) = some 0
    ∧ ready.img.stage ≠ .checking ∧ ready.img.stage ≠ .armed ∧ (armed bare).img.stage = .armed
    ∧ Reaches .mgmt (.fwlRange 0) (1 : W64).toNat (armed bare) ∧ Rws.value (armed bare).shadow (.fwlRange 0) = some 0
    ∧ writeRefused (Reg.fwlRange 0).spec (0xFFFFFFFFFFFFFFFF : W64).toNat = true := by unfold Reaches; decide +kernel
theorem witness_CsrWrite_plain : Reaches .host .deepWritePolicy (0xFFFFFFFFFFFFFFFF : W64).toNat ready ∧ regAt 0x800008 = some .deepWritePolicy
    ∧ wholeAccess 0x800008 8 = true ∧ (plainValue ready .deepWritePolicy).isSome = true
    ∧ writeRefused Reg.deepWritePolicy.spec (0xFFFFFFFFFFFFFFFF : W64).toNat = true := by unfold Reaches; decide +kernel

/-- READY with a dynamic address. -/
def addressed (offset : Nat) : State := { ready with kpr := { dynAddr := some 8, mgmtOffset := offset } }

theorem witness_Private : mgmtServed (addressed 0) = true ∧ (addressed 0).kpr.dynAddr ≠ none ∧ romSilent .mgmt 0 (addressed 0) = false
    ∧ regAt (addressed 0).kpr.mgmtOffset = some .glbId ∧ (addressed 0).kpr.romService = false ∧ (addressed 1).kpr.mgmtOffset % 8 ≠ 0
    ∧ mgmtServed (addressed 1) = true := by decide +kernel
theorem witness_Nack : mgmtServed State.reset = false ∧ ready.kpr.dynAddr = none ∧ mgmtPowered ready = true ∧ mgmtServed ready = true := by decide

/-! ## O56: service, halts and telemetry -/

theorem witness_Recovery_service : Reaches .mgmt .glbService 1 ready ∧ Reaches .mgmt .glbService 1 (running bare) ∧ inJob (running bare) = true
    ∧ ready.glb.state = .ready ∧ Reaches .mgmt .glbService 1 (booting 2) ∧ (booting 2).glb.state = .lantern := by unfold Reaches; decide
theorem witness_Recovery_leave (k : RecoveryCause) : let s : State := { ready with glb := { ready.glb with state := .recovery, recovery := k } }
    Reaches .mgmt .glbService 2 s ∧ s.glb.state = .recovery ∧ s.glb.recovery = k := by unfold Reaches; cases k <;> decide
theorem witness_Fences (n : Nat) (d : Fin 8) : Reaches .mgmt .glbService (at_ 32 (d.val % 2 ^ 32) + n) ready
    ∧ fenceAllowed 8 ready = false ∧ fenceAllowed 7 ready = true ∧ ready.glb.state ≠ .off ∧ ready.glb.state ≠ .lantern
    ∧ fenceState ready.glb.state = true ∧ fenceState (running bare).glb.state = false
    ∧ Reaches .mgmt .glbService (at_ 32 (d.val % 2 ^ 32) + n) (running bare) := by
  refine ⟨rfl, ?_, ?_, ?_, ?_, ?_, ?_, rfl⟩ <;> decide
theorem witness_Fences_lift : let s : State := { ready with glb := { ready.glb with present := 0xFF, fullFenced := 0x80 } }
    s.glb.present.getLsbD 7 = true ∧ s.glb.fullFenced.getLsbD 7 = true ∧ s.glb.fullFenced.getLsbD 0 = false
      ∧ ({ s with img := { stage := .checked } } : State).img.stage = .checked := by decide
theorem witness_ClearRetired : Reaches .mgmt .glbService (at_ 32 (2 * 2 ^ 24 + 15) + 6) ready ∧ retiredPartOk 255 = true
    ∧ retiredPartOk 256 = false ∧ retiredPartOk (2 ^ 24 + 271) = true ∧ retiredPartOk (2 ^ 24 + 272) = false
    ∧ retiredPartOk (2 * 2 ^ 24 + 15) = true ∧ retiredPartOk (2 * 2 ^ 24 + 16) = false ∧ retiredPartOk (3 * 2 ^ 24) = false
    ∧ fenceState (running bare).glb.state = false := by unfold Reaches; decide

/-- Engine faults of an engine so far, and the policy that two in an hour fence its die. -/
def faulty (engine n : Nat) : State :=
  { running bare with
    ev := { fencePolicy := 0x00010002 }
    nor := { engineFaults := List.replicate n ⟨engine, 0⟩ } }

theorem witness_EngineError : let u (n : Nat) : State := { faulty 1794 n with nor := { (faulty 1794 n).nor with
      engineFaults := (faulty 1794 n).nor.engineFaults ++ [⟨1794, (faulty 1794 n).lnt.rtc⟩] } }
    fenceCount (u 0) = 2 ∧ recentFaults (u 0) 1794 < fenceCount (u 0) ∧ fenceCount (u 1) ≠ 0 ∧ fenceCount (u 1) ≤ recentFaults (u 1) 1794
      ∧ 1794 / 256 = (7 : Fin 8).val ∧ inJob (u 1) = true ∧ fenceCount { ready with ev := { fencePolicy := 0 } } = 0 := by decide
theorem witness_Keeper : keeperRuns ready = true ∧ inJob ready = false ∧ keeperRuns (running bare) = true ∧ inJob (running bare) = true := by decide
/-- The occupancies at the two thresholds. -/
theorem witness_Shed : keeperRuns ready = true ∧ (90 : Nat) < 91 ∧ ¬(90 : Nat) < 90 ∧ (70 : Nat) ≤ 70 ∧ (69 : Nat) < 70 ∧ ready.kpr.shed = 0
    ∧ ({ ready with kpr := { shed := 1, band := 2 } } : State).kpr.band = 2 := by decide
theorem witness_Msix : let s : State := { ready with ev := { msix := [(4, { sent := true, owed := true })] } }
    (SMap.get s.ev.msix 4 {}).owed = true ∧ s.host.hostUp = true ∧ (SMap.get s.ev.msix 0 {}).owed = false := by decide
theorem witness_FirewallRate : let s (n : Nat) : State := { ready with host := { ready.host with alarmRate := 5, thisSecond := n } }
    ((s 6).host.alarmRate ≠ 0 ∧ (s 6).host.alarmRate.toNat < (s 6).host.thisSecond)
      ∧ ¬((s 5).host.alarmRate ≠ 0 ∧ (s 5).host.alarmRate.toNat < (s 5).host.thisSecond) := by decide

/-- Two entries wait for an area of 64 KiB, that is of 1 023 entries, of which some are unread. -/
def telemetry (written : Nat) : State :=
  { ready with
    lpd := { units := List.range 256, generation := 0 }
    ev := { telem := 1, writeSeq := written, telemQueue := [telemEntry 1 0 0 [], telemEntry 1 0 1 []] } }

theorem witness_Telemetry : (telemetry 1021).ev.telemQueue ≠ [] ∧ telemEnabled (telemetry 1021) = true ∧ (telemetry 1021).kpr.shed = 0
    ∧ telemRoom (telemetry 1021) = 2 ∧ telemRoom (telemetry 1022) = 1 ∧ (telemetry 1022).ev.telemQueue.length = 2
    ∧ Lpd.wf (telemetry 1022).lpd = true ∧ telemCapacity (telemetry 0) = 1023 := by decide +kernel
theorem witness_Telemetry_units (k : Nat) : lineFailed (telemetry 0).lpd k = false := rfl
theorem witness_Telemetry_off : telemEnabled { telemetry 0 with ev := { (telemetry 0).ev with telem := 0 } } = false
    ∧ ({ telemetry 0 with kpr := { shed := 1 } } : State).kpr.shed ≠ 0 := by decide

/-! ## O57: memories -/

theorem witness_Memory : Lpd.wf (withT1 ready).lpd = true ∧ lineFailed (withT1 ready).lpd 0 = false
    ∧ (∀ n ∈ linesOf 0 64, lineFailed { (withT1 ready).lpd with failed := [0] } n = true) ∧ (List.replicate 64 (7 : Byte)).length = 64 := by
  decide +kernel

end Sys2Proof.Tests
end

section
/-! SUPPORT. A fold of changes to a map, key by key; and records made one after another (R616, R619). -/
namespace Sys2Proof

theorem SMap.get_foldl_modify_of_notMem {α : Type} [DecidableEq α] (f : α → α) (d : α) {u : Nat} {us : List Nat} (h : u ∉ us) (m : SMap α) :
    SMap.get (us.foldl (fun m u => SMap.modify m u d f) m) u d = SMap.get m u d := by
  induction us generalizing m with
  | nil => rfl
  | cons a us ih =>
    obtain ⟨ha, hus⟩ := List.ne_and_not_mem_of_not_mem_cons h
    rw [List.foldl_cons, ih hus, SMap.get_modify_other m d f ha]

/-- What every value of f meets is met at each key that a fold of `modify` names. -/
theorem SMap.get_foldl_modify_of_mem {α : Type} [DecidableEq α] {f : α → α} {P : α → Prop} (hf : ∀ x, P (f x)) (d : α) {u : Nat}
    {us : List Nat} (h : u ∈ us) (m : SMap α) : P (SMap.get (us.foldl (fun m u => SMap.modify m u d f) m) u d) := by
  induction us generalizing m with
  | nil => cases h
  | cons a us ih =>
    rw [List.foldl_cons]
    by_cases hu : u ∈ us
    · exact ih hu _
    · obtain rfl : u = a := (List.mem_cons.mp h).resolve_right hu
      rw [SMap.get_foldl_modify_of_notMem f d hu, SMap.get_modify_same]
      exact hf _

end Sys2Proof

namespace Sys2Proof.Machine
open Claims

theorem logged_of_ring {code : Nat} {d : Bytes} {s t u : State} (h : Logged code d s t) (hu : u.ev.ring = t.ev.ring) : Logged code d s u := by
  unfold Logged
  rw [hu]
  exact h

theorem recordOne_nextSeq (code : Nat) (d : Bytes) (s : State) : (recordOne code d s).ev.nextSeq = s.ev.nextSeq + 1 := by
  have hsignal : ∀ v t, (signal v t).ev.nextSeq = t.ev.nextSeq := fun v t => by
    unfold signal
    dsimp only
    split <;> rfl
  have hlog : ∀ r t, (logRecord r t).ev.nextSeq = t.ev.nextSeq := fun r t => by
    unfold logRecord
    split <;> rfl
  unfold recordOne
  dsimp only
  rw [interrupt_ev, hsignal, hlog]
  rfl

/-- A record takes one sequence number, and a second where the overflow record follows it (R616, R619). -/
theorem record_nextSeq (code : Nat) (d : Bytes) (s : State) :
    (record code d s).ev.nextSeq = s.ev.nextSeq + 1 ∨ (record code d s).ev.nextSeq = s.ev.nextSeq + 2 := by
  unfold record
  dsimp only
  split
  · right
    rw [recordOne_nextSeq, recordOne_nextSeq, BitVec.add_assoc]
    rfl
  · exact .inl (recordOne_nextSeq code d s)

theorem loggedWithin_of_logged {code n k : Nat} {d : Bytes} {s t u : State} (h : Logged code d t u) (hk : k < n)
    (hseq : t.ev.nextSeq = s.ev.nextSeq + BitVec.ofNat 32 k) : LoggedWithin n code d s u := by
  obtain ⟨r, hr, hcode, hdetail, hs, -⟩ := h
  exact ⟨r, hr, hcode, hdetail, k, hk, hs.trans hseq⟩

/-- What a write costs for its reserved bits comes before the record of the refusal itself (R7, R107). -/
theorem record_noteDiscard_within (r : Reg) (v code : Nat) (d : Bytes) (s : State) :
    LoggedWithin 3 code d s (record code d (noteDiscard r v s)) := by
  have hlog := record_logged code d (noteDiscard r v s)
  by_cases hv : writeRefused r.spec v = true
  · have hnote : noteDiscard r v s = record 0x4001 [] s := if_pos hv
    rw [hnote] at hlog ⊢
    obtain hone | htwo := record_nextSeq 0x4001 [] s
    · exact loggedWithin_of_logged hlog (by decide : 1 < 3) hone
    · exact loggedWithin_of_logged hlog (by decide : 2 < 3) htwo
  · rw [noteDiscard_kept (by simpa using hv)] at hlog ⊢
    exact loggedWithin_of_logged hlog (by decide : 0 < 3) (BitVec.add_zero _).symm

end Sys2Proof.Machine
end

section
/-! SUPPORT. The LPDDR5X packages (R390, R399, R403): what a failed data group, a refresh report and a write-out leave. -/
namespace Sys2Proof.Machine
open Claims

/-! ## Refresh rates (R403) -/

/-- The units of package p with a refresh rate noted, and nothing else changed. -/
def withRefresh (p rate : Nat) (s : State) : State :=
  { s with lpd := updInfo (packageUnits s.lpd p) (fun i => { i with refresh := rate % 256 }) s.lpd }

/-- The rate stands at the package's units, at no other, and the contents of T1 stay. -/
def RefreshNoted (p rate : Nat) (l m : Lpd) : Prop :=
  (∀ u ∈ packageUnits l p, (SMap.get m.info u {}).refresh = rate % 256)
    ∧ (∀ u, u ∉ packageUnits l p → SMap.get m.info u {} = SMap.get l.info u {}) ∧ m.cells = l.cells

theorem withRefresh_noted (p rate : Nat) (s : State) : RefreshNoted p rate s.lpd (withRefresh p rate s).lpd :=
  ⟨fun _ hu => SMap.get_foldl_modify_of_mem (P := fun i : UnitInfo => i.refresh = rate % 256) (fun _ => rfl) {} hu _,
    fun _ hu => SMap.get_foldl_modify_of_notMem (fun i : UnitInfo => { i with refresh := rate % 256 }) {} hu s.lpd.info, rfl⟩

/-- A state whose T1 is that of `withRefresh` has the rate noted, and its information alone tells `withRefresh` from s. -/
theorem refreshNoted_of_lpd {p rate : Nat} {s y : State} (h : y.lpd = (withRefresh p rate s).lpd) :
    RefreshNoted p rate s.lpd y.lpd ∧ ({ s with lpd := { s.lpd with info := y.lpd.info } } : State) = withRefresh p rate s := by
  rw [h]
  exact ⟨withRefresh_noted p rate s, rfl⟩

theorem reportRefresh_fault {rate : Nat} {hot : Bool} {s : State} (hj : inJob s = true) (h : 16 < rate ∨ hot = true) (p : Nat) :
    reportRefresh p rate hot s = raiseFault 0x8B02 (detail [(1, p)]) (withRefresh p rate s) := by
  simp [reportRefresh, withRefresh, hj, h]

theorem reportRefresh_event {rate : Nat} {hot : Bool} {s : State} (hn : ¬(inJob s = true ∧ (16 < rate ∨ hot = true)))
    (h : 16 ≤ rate ∨ hot = true) (p : Nat) :
    reportRefresh p rate hot s = record 0x4B01 (detail [(1, p), (1, rate)]) (withRefresh p rate s) := by
  have hf : ((decide (16 < rate) || hot) && inJob s) = false := by simpa [and_comm] using hn
  simp [reportRefresh, withRefresh, hf, h]

theorem reportRefresh_quiet {rate : Nat} (h : rate < 16) (p : Nat) (s : State) : reportRefresh p rate false s = withRefresh p rate s := by
  have h1 : ¬16 < rate := by omega
  have h2 : ¬16 ≤ rate := by omega
  simp [reportRefresh, withRefresh, h1, h2]

/-! ## Failures (R390) -/

theorem raiseFault_lpd (code : Nat) (d : Bytes) (s : State) : (raiseFault code d s).lpd = s.lpd := by
  obtain ⟨-, hframe, -⟩ := raiseFault_faulted code d s
  rw [hframe]
  rfl

/-- A data group with units in service fails: a fault in a job, and no more than the failed units outside one. -/
theorem failGroup_units {p g : Nat} {s : State} (h : dataGroup s.lpd p g ≠ []) :
    failGroup p g s = let u : State := { s with lpd := failUnits (dataGroup s.lpd p g) s.lpd }
      if inJob s then raiseFault 0x8B01 (detail [(1, p), (1, g)]) u else u := by
  simp [failGroup, h]

/-! ## The oldest entry (R399) -/

theorem writeOutOldest_nil {l : Lpd} {p : Nat} (h : wcbOf l p = []) : writeOutOldest l p = l := by
  simp [writeOutOldest, h]

theorem writeOutOldest_cons {l : Lpd} {p : Nat} {e : WcbEntry} {es : List WcbEntry} (h : wcbOf l p = e :: es) :
    writeOutOldest l p = writeOut (setWcb l p es) e := by
  simp [writeOutOldest, h]

@[simp] theorem wcbOf_writeOut (l : Lpd) (e : WcbEntry) (q : Nat) : wcbOf (writeOut l e) q = wcbOf l q := rfl

theorem writeOut_setWcb_cells {l : Lpd} {e : WcbEntry} (h : lineFailed l e.line = false) (p : Nat) (es : List WcbEntry) :
    (writeOut (setWcb l p es) e).cells = canonCells l (SMap.overlay (SMap.shift e.bytes (e.line * 64)) l.cells) := by
  have hgood : lineFailed (setWcb l p es) e.line = false := h
  unfold writeOut
  simp only [hgood, Bool.false_eq_true, if_false]
  rfl

theorem writeOut_setWcb_mergeReads (l : Lpd) (e : WcbEntry) (p : Nat) (es : List WcbEntry) :
    (writeOut (setWcb l p es) e).mergeReads = if e.bytes.length = 64 then l.mergeReads else satAdd 32 l.mergeReads 1 := by
  simp [writeOut, setWcb]

theorem exec_wcbWriteOut {p : Fin 16} {s : State} {l : Lpd} (h : writeOutOldest s.lpd p.val = l) :
    exec (.wcbWriteOut p) s = .next { s with lpd := l } := by
  rw [← h]
  rfl

/-- Settles O45: by the branches of the three controllers' meanings, each noted as the state that it leaves. -/
theorem packagesAct : Obligations.PackagesAct := by
  unfold Obligations.PackagesAct
  intro p g s
  refine ⟨fun hg => ⟨fun hj => ?_, fun hj => ?_⟩, fun rate hot => ⟨fun hj hr => ?_, fun hn hr => ?_, fun hr hh => ?_⟩, ?_,
    fun e es hw hl => ?_, fun hw => ?_⟩
  · refine ⟨_, congrArg Host.Outcome.next (failGroup_units hg), ?_⟩
    simp only [hj, if_true]
    exact raiseFault_faulted _ _ _
  · refine ⟨_, congrArg Host.Outcome.next (failGroup_units hg), ?_⟩
    simp only [hj, Bool.false_eq_true, if_false]
    rfl
  · obtain ⟨hnoted, hu⟩ := refreshNoted_of_lpd (raiseFault_lpd 0x8B02 (detail [(1, p)]) (withRefresh p rate s))
    refine ⟨_, congrArg Host.Outcome.next (reportRefresh_fault hj hr p), hnoted, ?_⟩
    rw [hu]
    exact raiseFault_faulted _ _ _
  · obtain ⟨hnoted, hu⟩ := refreshNoted_of_lpd (record_lpd 0x4B01 (detail [(1, p), (1, rate)]) (withRefresh p rate s))
    refine ⟨_, congrArg Host.Outcome.next (reportRefresh_event hn hr p), hnoted, ?_, record_logged _ _ (withRefresh p rate s)⟩
    rw [hu]
    exact record_frame _ _ _
  · subst hh
    exact ⟨_, congrArg Host.Outcome.next (reportRefresh_quiet hr p s), withRefresh_noted p rate s, rfl⟩
  · exact ⟨s, rfl, rfl⟩
  · refine ⟨_, exec_wcbWriteOut (writeOutOldest_cons hw), rfl, ?_, fun q hq => ?_,
      writeOut_setWcb_cells hl p es, writeOut_setWcb_mergeReads s.lpd e p es⟩
    · exact wcbOf_setWcb_same s.lpd p es
    · exact wcbOf_setWcb_other s.lpd es hq
  · exact ⟨_, exec_wcbWriteOut (writeOutOldest_nil hw), rfl⟩

end Sys2Proof.Machine
end

section
/-! SUPPORT. Writes and reads of the CSR space over a port, and the I3C target (R4 to R8, R107, R606, R607): what each access leaves. -/
namespace Sys2Proof.Machine
open Claims

/-! ## A write of a register by its kind (R8) -/

/-- A register that has a row: its write is the row's command. -/
theorem exec_rowOf {p : Port} {v : W64} {r : Reg} {c : Instr} (h : rowOf p v r = some c) (s : State) :
    exec c s = .next (writeReg p r v s) := by
  unfold rowOf at h
  split at h <;> cases h <;> rfl

/-- An RWS register has no row of its own: its write reaches the shadow (R8). -/
theorem writeActing_of_rws {r : Reg} {b : Rws} {x : W64} (h : Rws.value b r = some x) (p : Port) (v : W64) (s : State) :
    writeActing p r v s = none := by
  unfold Rws.value at h
  split at h
  case h_11 => cases h
  all_goals rfl

/-- A plain RW register has no row of its own and no shadow. -/
theorem writeActing_of_plain {r : Reg} {t : State} {x : W64} (h : plainValue t r = some x) (p : Port) (v : W64) (s : State) :
    writeActing p r v s = none ∧ Rws.value s.shadow r = none := by
  unfold plainValue at h
  split at h
  case h_12 => cases h
  all_goals exact ⟨rfl, rfl⟩

/-- A write of an RWS register that reaches it (R8, R107). -/
theorem writeReg_rws {p : Port} {r : Reg} {v x : W64} {s : State} (hreach : Reaches p r v.toNat s) (h : Rws.value s.shadow r = some x) :
    writeReg p r v s = writeShadow r (acceptFields r.spec.fields x.toNat v.toNat) (noteDiscard r v.toNat s) := by
  unfold writeReg
  rw [writeActing_of_rws h p v s, h]
  exact regWrite_open hreach _ _

/-- A write of a plain RW register that reaches it (R8). -/
theorem writeReg_plain {p : Port} {r : Reg} {v x : W64} {s : State} (hreach : Reaches p r v.toNat s) (h : plainValue s r = some x) :
    writeReg p r v s = setPlain r (acceptFields r.spec.fields x.toNat v.toNat) (noteDiscard r v.toNat s) := by
  obtain ⟨hacting, hrws⟩ := writeActing_of_plain h p v s
  unfold writeReg
  rw [hacting, hrws, h]
  exact regWrite_open hreach _ _

/-! ## The shadow set (R8, R107) -/

theorem Rws.value_put {r : Reg} {b : Rws} {x : W64} (h : Rws.value b r = some x) (v : W64) : Rws.value (Rws.put r v b) r = some v := by
  unfold Rws.value at h
  split at h
  case h_11 => cases h
  case h_7 | h_8 | h_9 | h_10 => exact congrArg some (SMap.get_set_same _ _ _ _)
  all_goals rfl

theorem noteDiscard_shadow (r : Reg) (v : Nat) (s : State) : (noteDiscard r v s).shadow = s.shadow := by
  rw [noteDiscard_frame r v s]
  rfl

theorem noteDiscard_img (r : Reg) (v : Nat) (s : State) : (noteDiscard r v s).img = s.img := by
  rw [noteDiscard_frame r v s]
  rfl

/-- Outside CHECKING and ARMED a write of an RWS register changes its shadow copy and the records of R7. -/
theorem writeShadow_noteDiscard_open {s : State} (hc : s.img.stage ≠ .checking) (ha : s.img.stage ≠ .armed) (r : Reg) (v n : Nat) :
    writeShadow r n (noteDiscard r v s) = { noteDiscard r v s with shadow := Rws.put r (w64 n) s.shadow } := by
  have hstage : ¬((noteDiscard r v s).img.stage = .checking ∨ (noteDiscard r v s).img.stage = .armed) := by
    rw [noteDiscard_img]
    exact not_or.mpr ⟨hc, ha⟩
  unfold writeShadow
  rw [if_neg hstage, noteDiscard_shadow]

/-- In CHECKING and ARMED it is refused with event 0x4301. -/
theorem writeShadow_noteDiscard_closed {s : State} (h : s.img.stage = .checking ∨ s.img.stage = .armed) (r : Reg) (v n : Nat) :
    writeShadow r n (noteDiscard r v s) = record 0x4301 [] (noteDiscard r v s) := by
  unfold writeShadow
  rw [noteDiscard_img, if_pos h]

/-! ## Plain registers -/

theorem plainValue_setPlain {r : Reg} {s : State} {x : W64} (h : plainValue s r = some x) (n : Nat) (t : State) :
    plainValue (setPlain r n t) r = some (w64 n) := by
  unfold plainValue at h
  split at h
  case h_12 => cases h
  case h_7 => exact congrArg some (SMap.get_set_same _ _ _ _)
  case h_10 | h_11 => simp [plainValue, setPlain]
  all_goals rfl

/-- What a write of a plain register leaves: the RWS sets, GLB, the image, T1, the censuses and the event ring. -/
theorem setPlain_frame (r : Reg) (n : Nat) (s : State) : (setPlain r n s).live = s.live ∧ (setPlain r n s).shadow = s.shadow
    ∧ (setPlain r n s).glb = s.glb ∧ (setPlain r n s).img = s.img ∧ (setPlain r n s).lpd = s.lpd
    ∧ (setPlain r n s).num.census = s.num.census ∧ (setPlain r n s).ev.ring = s.ev.ring := by
  unfold setPlain
  split <;> exact ⟨rfl, rfl, rfl, rfl, rfl, rfl, rfl⟩

/-! ## The two ports (R5, R6) -/

section
variable {p : Port} {off width : Nat} {s : State} (hserved : readServed p s = true) (hrom : romSilent p off s = false)
include hserved hrom

theorem csrStore_narrow (h : wholeAccess off width = false) (v : W64) : csrStore p off width v s = record 0x4000 [] s := by
  simp [csrStore, hserved, hrom, h]

theorem csrStore_unoccupied (h : wholeAccess off width = true) (hreg : regAt off = none) (v : W64) : csrStore p off width v s = s := by
  simp [csrStore, hserved, hrom, h, hreg]

theorem csrStore_register {r : Reg} (h : wholeAccess off width = true) (hreg : regAt off = some r) (v : W64) :
    csrStore p off width v s = writeReg p r v s := by
  simp [csrStore, hserved, hrom, h, hreg]

theorem csrFetch_narrow (h : wholeAccess off width = false) : csrFetch p off width s = replyCsr p off (0, record 0x4000 [] s) := by
  simp [csrFetch, hserved, hrom, h]

end

theorem csrFetch_whole {p : Port} {off width : Nat} {s : State} (hserved : readServed p s = true) (h : wholeAccess off width = true) :
    csrFetch p off width s = replyCsr p off (csrLoad p off s) := by
  simp [csrFetch, hserved, h]

theorem csrLoad_unoccupied {p : Port} {off : Nat} {s : State} (hrom : romSilent p off s = false) (hreg : regAt off = none) :
    csrLoad p off s = (0, s) := by
  simp [csrLoad, hrom, hreg]

/-- A register whose read moves nothing reads as its value (R8). -/
theorem csrLoad_plainRead {p : Port} {off : Nat} {s : State} {r : Reg} (hrom : romSilent p off s = false) (hreg : regAt off = some r)
    (hplain : plainRead r = true) : csrLoad p off s = (readReg r s, s) := by
  simp only [csrLoad, hrom, hreg, Bool.false_eq_true, if_false]
  split
  case h_1 heq => cases heq
  case h_6 heq => cases heq; rfl
  all_goals
    rename_i heq
    cases heq
    cases hplain

/-! ## The I3C target (R606, R607) -/

theorem addressed_open {s : State} (hm : mgmtServed s = true) (ha : s.kpr.dynAddr ≠ none) (act : State → State) : addressed act s = act s := by
  have hsome : s.kpr.dynAddr.isSome = true := Option.isSome_iff_ne_none.mpr ha
  simp [addressed, hm, hsome]

theorem addressed_silent {s : State} (h : mgmtServed s = false ∨ s.kpr.dynAddr = none) (act : State → State) : addressed act s = nack s := by
  unfold addressed
  obtain hm | ha := h
  · simp [hm]
  · simp [ha]

theorem broadcast_open {s : State} (h : mgmtPowered s = true) (act : State → State) : broadcast act s = act s := if_pos h

/-- One read at an aligned offset: the register's eight bytes (R607). -/
theorem privateLoads_one {off : Nat} {s : State} {r : Reg} (hrom : romSilent .mgmt off s = false) (hoff : off % 8 = 0)
    (hreg : regAt off = some r) (hplain : plainRead r = true) : privateLoads off 1 s = (leBytes 8 (readReg r s).toNat, s) := by
  simp [privateLoads, hrom, hoff, csrLoad_plainRead hrom hreg hplain]

/-- One read at a misaligned offset: zeros, and event 0x4000 (R5). -/
theorem privateLoads_one_misaligned {off : Nat} {s : State} (hrom : s.kpr.romService = false) (hoff : off % 8 ≠ 0) :
    privateLoads off 1 s = (List.replicate 8 0, record 0x4000 [] s) := by
  have hload : (romSilent .mgmt off s || off % 8 == 0) = false := by simp [romSilent, hrom, hoff]
  simp only [privateLoads, hload, Bool.false_eq_true, if_false]
  rfl

/-- A transfer's command to a target that takes it. -/
theorem runs_addressed {c : Instr} {act : State → State} {s : State} {P : State → Prop} (hc : exec c s = .next (addressed act s))
    (hm : mgmtServed s = true) (ha : s.kpr.dynAddr ≠ none) (hP : P (act s)) : Runs c s P :=
  ⟨act s, by rw [hc, addressed_open hm ha], hP⟩

/-- A broadcast while the target works. -/
theorem runs_broadcast {c : Instr} {act : State → State} {s : State} {P : State → Prop} (hc : exec c s = .next (broadcast act s))
    (hp : mgmtPowered s = true) (hP : P (act s)) : Runs c s P :=
  ⟨act s, by rw [hc, broadcast_open hp], hP⟩

/-- The commands that go to the target's own address. -/
theorem exec_addressed {c : Instr} (h : c = .getpid ∨ c = .getbcr ∨ c = .getdcr ∨ c = .getstatus ∨ c = .getmxds
    ∨ (∃ n, c = .privateRead n) ∨ ∃ o ws, c = .privateWrite o ws) (s : State) : ∃ act, exec c s = .next (addressed act s) := by
  obtain rfl | rfl | rfl | rfl | rfl | ⟨n, rfl⟩ | ⟨o, ws, rfl⟩ := h <;> exact ⟨_, rfl⟩

/-! ## The clauses -/

/-- Outside CHECKING and ARMED a write of an RWS register puts what its fields accept into the shadow (R8, R107). -/
theorem writeReg_rws_open {p : Port} {r : Reg} {v x : W64} {s : State} (hreach : Reaches p r v.toNat s) (hx : Rws.value s.shadow r = some x)
    (hc : s.img.stage ≠ .checking) (ha : s.img.stage ≠ .armed) :
    let t := writeReg p r v s
    let y := w64 (acceptFields r.spec.fields x.toNat v.toNat)
    UpToRecords { s with shadow := t.shadow } t ∧ Rws.value t.shadow r = some y ∧ t.shadow = Rws.put r y s.shadow
      ∧ (writeRefused r.spec v.toNat = true → Logged 0x4001 [] s t) := by
  dsimp only
  rw [writeReg_rws hreach hx, writeShadow_noteDiscard_open hc ha]
  refine ⟨?_, Rws.value_put hx _, rfl, fun hv => logged_of_ring (noteDiscard_logged hv s) rfl⟩
  have hframe := noteDiscard_frame r v.toNat s
  unfold UpToRecords at hframe ⊢
  rw [hframe]
  rfl

/-- In CHECKING and ARMED it costs event 0x4301 and changes nothing else (R107). -/
theorem writeReg_rws_closed {p : Port} {r : Reg} {v x : W64} {s : State} (hreach : Reaches p r v.toNat s)
    (hx : Rws.value s.shadow r = some x) (hstage : s.img.stage = .checking ∨ s.img.stage = .armed) :
    UpToRecords s (writeReg p r v s) ∧ LoggedWithin 3 0x4301 [] s (writeReg p r v s) := by
  rw [writeReg_rws hreach hx, writeShadow_noteDiscard_closed hstage]
  exact ⟨upToRecords_trans (noteDiscard_frame r v.toNat s) (record_frame _ _ _), record_noteDiscard_within r v.toNat _ _ s⟩

/-- A write of a plain register puts what its fields accept into it alone (R8). -/
theorem writeReg_plain_takes {p : Port} {r : Reg} {v x : W64} {s : State} (hreach : Reaches p r v.toNat s) (hx : plainValue s r = some x) :
    let t := writeReg p r v s
    plainValue t r = some (w64 (acceptFields r.spec.fields x.toNat v.toNat)) ∧ t.live = s.live ∧ t.shadow = s.shadow ∧ t.glb = s.glb
      ∧ t.img = s.img ∧ t.lpd = s.lpd ∧ t.num.census = s.num.census ∧ (writeRefused r.spec v.toNat = true → Logged 0x4001 [] s t) := by
  dsimp only
  rw [writeReg_plain hreach hx]
  obtain ⟨hlive, hshadow, hglb, himg, hlpd, hcensus, hring⟩ :=
    setPlain_frame r (acceptFields r.spec.fields x.toNat v.toNat) (noteDiscard r v.toNat s)
  have hframe := noteDiscard_frame r v.toNat s
  refine ⟨plainValue_setPlain hx _ _, hlive.trans ?_, hshadow.trans ?_, hglb.trans ?_, himg.trans ?_, hlpd.trans ?_, hcensus.trans ?_,
    fun hv => logged_of_ring (noteDiscard_logged hv s) hring⟩
  all_goals
    rw [hframe]
    rfl

/-- Settles O55: by the kind of the register that a port reaches, and by the target's address. -/
theorem portsReachTheRegisters : Obligations.PortsReachTheRegisters := by
  unfold Obligations.PortsReachTheRegisters
  refine ⟨fun p off width v s hserved hrom => ⟨fun hw => ?_, fun hw hreg => ?_, fun r hw hreg => ?_⟩, fun off v s hm ha => ?_,
    fun s hs c hc => ?_, fun a s => ?_⟩
  · refine ⟨⟨_, congrArg Host.Outcome.next (csrStore_narrow hserved hrom hw v), record_frame _ _ _, record_logged _ _ _⟩,
      ⟨_, congrArg Host.Outcome.next (csrFetch_narrow hserved hrom hw), ?_, record_logged 0x4000 [] s, rfl⟩⟩
    exact upToRecords_trans (record_frame 0x4000 [] s) rfl
  · refine ⟨⟨s, congrArg Host.Outcome.next (csrStore_unoccupied hserved hrom hw hreg v), rfl⟩,
      ⟨_, congrArg Host.Outcome.next (csrFetch_whole hserved hw), ?_⟩⟩
    rw [csrLoad_unoccupied hrom hreg]
    rfl
  · have hwrite : exec (.csrWrite p off width v) s = .next (writeReg p r v s) :=
      congrArg Host.Outcome.next (csrStore_register hserved hrom hw hreg v)
    refine ⟨fun c hc => ?_, fun x hreach hx => ⟨fun hck har => ⟨_, hwrite, writeReg_rws_open hreach hx hck har⟩,
      fun hst => ⟨_, hwrite, writeReg_rws_closed hreach hx hst⟩⟩, fun x hreach hx => ⟨_, hwrite, writeReg_plain_takes hreach hx⟩,
      fun hplain => ⟨_, congrArg Host.Outcome.next (csrFetch_whole hserved hw), ?_⟩⟩
    · rw [hwrite]
      obtain hrow | heq | heq := hc
      · exact (exec_rowOf hrow s).symm
      · cases heq
        rfl
      · cases heq
        rfl
    · rw [csrLoad_plainRead hrom hreg hplain]
      rfl
  · refine ⟨runs_addressed rfl hm ha rfl, congrArg Host.Outcome.next (addressed_open hm ha _), fun r hrom hoff hreg hplain => ?_,
      fun hrom hoff => ?_, fun c b hcb => ?_, runs_addressed rfl hm ha rfl⟩
    · refine runs_addressed rfl hm ha ?_
      rw [privateLoads_one hrom hoff hreg hplain]
    · refine runs_addressed rfl hm ha ?_
      rw [privateLoads_one_misaligned hrom hoff]
      exact ⟨upToRecords_trans (record_frame 0x4000 [] s) rfl, record_logged 0x4000 [] s, rfl⟩
    · obtain heq | heq | heq | heq := hcb <;> cases heq <;> exact runs_addressed rfl hm ha rfl
  · obtain ⟨act, hact⟩ := exec_addressed hc s
    exact ⟨nack s, by rw [hact, addressed_silent hs], rfl⟩
  · refine ⟨fun hp hn => runs_broadcast rfl hp ?_, fun hn => ⟨_, rfl, ?_⟩, fun hm hn => ⟨setAddr (some a) s, ?_, rfl⟩, fun hp =>
      ⟨runs_broadcast rfl hp rfl, runs_broadcast rfl hp rfl, runs_broadcast rfl hp rfl⟩⟩
    · simp [hn, setAddr, answer]
    · simp [broadcast, hn]
    · simp [exec, execSetdasa, hm, hn]

end Sys2Proof.Machine
end

section
/-! SUPPORT. The registers of the image unit and the events of chapter 03: what a write that reaches them does (R7, R108), and what an event
leaves (Table 3.13). -/
namespace Sys2Proof.Machine
open Claims

/-! ## Writes that a register takes whole -/

/-- A register with one field of 64 bits has no reserved bits and takes every word (R7). -/
theorem acceptFields_word (old : Nat) (v : W64) : acceptFields [⟨63, 0, .any⟩] old v.toNat = v.toNat := by
  have hv : v.toNat % 2 ^ 64 = v.toNat := Nat.mod_eq_of_lt v.isLt
  simpa [acceptFields, Takes.accepts, bits] using hv

/-- A write of such a register gives the whole word to its action and costs no event. -/
theorem regWrite_word {p : Port} {r : Reg} {v : W64} {s : State} {a : RegAccess} (h : Reaches p r v.toNat s)
    (hr : r.spec = ⟨a, [], [⟨63, 0, .any⟩]⟩) (old : State → Nat) (act : Nat → State → State) :
    regWrite p r v old act s = act v.toNat s := by
  have hrefused : writeRefused r.spec v.toNat = false := by
    rw [hr]
    rfl
  rw [regWrite_open h, noteDiscard_kept hrefused, hr, acceptFields_word]

/-- The commands of IMG_CTRL are those up to 5, and each is taken whole (Table 3.14). -/
theorem imgCommand_open {p : Port} {cmd : Nat} {s : State} (h : Reaches p .imgCtrl cmd s) (hc : cmd ≤ 5) (act : State → State) :
    imgCommand p cmd act s = .next (act s) := by
  have hword : (w64 cmd).toNat = cmd := Nat.mod_eq_of_lt (by omega)
  have htaken : ∀ c ≤ 5, writeRefused Reg.imgCtrl.spec c = false := by decide
  have hreach : Reaches p .imgCtrl (w64 cmd).toNat s := by rwa [hword]
  have hrefused : writeRefused Reg.imgCtrl.spec (w64 cmd).toNat = false := by
    rw [hword]
    exact htaken cmd hc
  unfold imgCommand
  rw [regCommand_open hreach hrefused]

theorem noteDiscard_host (r : Reg) (v : Nat) (s : State) : (noteDiscard r v s).host = s.host := by
  rw [noteDiscard_frame r v s]
  rfl

/-! ## Events of chapter 03 (Table 3.13) -/

/-- An event of chapter 03 changes LAST_EVENT and the records, and nothing else. -/
theorem recordImg_frame (code : Nat) (d : Bytes) (s : State) :
    UpToRecords { s with img := { s.img with lastEvent := code } } (recordImg code d s) := by
  have h := record_frame code d s
  unfold UpToRecords at h
  unfold UpToRecords recordImg noteImgEvent
  rw [h]
  rfl

theorem recordImg_logged (code : Nat) (d : Bytes) (s : State) : Logged code d s (recordImg code d s) :=
  logged_of_ring (record_logged code d s) rfl

@[simp] theorem recordImg_img (code : Nat) (d : Bytes) (s : State) : (recordImg code d s).img = { s.img with lastEvent := code } := by
  simp [recordImg, noteImgEvent]

@[simp] theorem recordImg_live (code : Nat) (d : Bytes) (s : State) : (recordImg code d s).live = s.live := record_live code d s

@[simp] theorem recordImg_shadow (code : Nat) (d : Bytes) (s : State) : (recordImg code d s).shadow = s.shadow := record_shadow code d s

/-- A refusal of chapter 03: LAST_EVENT and its record. -/
theorem recordImg_refusal (code : Nat) (d : Bytes) (s : State) :
    UpToRecords { s with img := { s.img with lastEvent := code } } (recordImg code d s) ∧ Logged code d s (recordImg code d s) :=
  ⟨recordImg_frame code d s, recordImg_logged code d s⟩

end Sys2Proof.Machine
end

section
/-! SUPPORT. Votes along the tree of the job group (R118, R123, R470): what an arriving vote makes the group's result here. -/
namespace Sys2Proof.Machine
open Claims

/-! ## Messages along the tree touch the links alone -/

theorem sendCtl_frame (m : Nat) (c : CtlMsg) (s : State) : OnlyLinks s (sendCtl m c s) := by
  unfold sendCtl
  split
  · exact setLink_frame _ _ s
  · exact onlyLinks_refl s

theorem sendDown_frame (i : Image) (m : CtlMsg) (s : State) : OnlyLinks s (sendDown i m s) :=
  onlyLinks_foldl (fun s c => sendCtl (moduleAt i c) m s) (fun s c => sendCtl_frame (moduleAt i c) m s) (treeChildren i) s

/-! ## The group's result of a vote -/

/-- The result of a vote that is known here: of a hold, the result at a beam tick (R76, R118, R123). -/
def groupResult (tick : Nat) (k : VoteKind) (t : State) : Option Bool :=
  match k with
  | .hold => SMap.find? t.beam.holdResults tick
  | .arm => t.img.voteResult
  | .release => t.img.releaseResult

theorem groupResult_setResult (k : VoteKind) (ok : Bool) (s : State) : groupResult (nextTick s) k (setResult k ok s) = some ok := by
  cases k with
  | hold => exact SMap.find?_insert_same _ _ _
  | arm => rfl
  | release => rfl

theorem groupResult_of_onlyLinks {s t : State} (h : OnlyLinks s t) (tick : Nat) (k : VoteKind) :
    groupResult tick k t = groupResult tick k s := by
  rw [h]
  cases k <;> rfl

/-- An announced result is the one kept here. -/
theorem groupResult_announceVote (i : Image) (b : Ballot) (ok : Bool) (s : State) :
    groupResult (nextTick s) b.kind (announceVote i b ok s) = some ok := by
  unfold announceVote
  rw [groupResult_of_onlyLinks (sendDown_frame _ _ _)]
  exact groupResult_setResult b.kind ok s

/-! ## The member's own vote -/

theorem ownVote_hold_group {s : State} {i : Image} {b : Ballot} {own : Bool} (h : ownVote s i .hold = some (b, own)) : b.group = 0 := by
  simp only [ownVote, Option.map_eq_some_iff, Prod.mk.injEq] at h
  obtain ⟨-, -, rfl, -⟩ := h
  rfl

theorem ownVote_kind {s : State} {i : Image} {k : VoteKind} {b : Ballot} {own : Bool} (h : ownVote s i k = some (b, own)) : b.kind = k := by
  cases k with
  | hold =>
    simp only [ownVote, Option.map_eq_some_iff, Prod.mk.injEq] at h
    obtain ⟨-, -, rfl, -⟩ := h
    rfl
  | arm =>
    simp only [ownVote, Option.ite_none_right_eq_some, Option.map_eq_some_iff, Prod.mk.injEq] at h
    obtain ⟨-, -, -, rfl, -⟩ := h
    rfl
  | release =>
    unfold ownVote at h
    dsimp only at h
    split at h
    · simp only [Option.ite_none_right_eq_some, Option.map_eq_some_iff, Prod.mk.injEq] at h
      obtain ⟨-, -, -, rfl, -⟩ := h
      rfl
    · cases h

/-- A member that has voted on a release has one pending (R123). -/
theorem release_pending_of_ownVote {s : State} {i : Image} {k : VoteKind} {x : Ballot × Bool} (h : ownVote s i k = some x) :
    (decide (k = .release) && s.img.release.isNone) = false := by
  cases k with
  | hold => rfl
  | arm => rfl
  | release =>
    cases hr : s.img.release with
    | some b => rfl
    | none => simp [ownVote, hr] at h

/-! ## A vote arrives -/

/-- The state once the vote of child c has been heard as the first one. -/
def withVote (b : Ballot) (c : Nat) (ok : Bool) (s : State) : State :=
  { s with beam := { s.beam with votes := [⟨b.kind, c, b.jobId, b.group, b.beam, ok⟩] } }

theorem ownVote_withVote (b : Ballot) (c : Nat) (ok : Bool) (s : State) (i : Image) (k : VoteKind) :
    ownVote (withVote b c ok s) i k = ownVote s i k := by
  cases k <;> rfl

theorem nextTick_withVote (b : Ballot) (c : Nat) (ok : Bool) (s : State) : nextTick (withVote b c ok s) = nextTick s := rfl

theorem votesOf_withVote (b : Ballot) (c : Nat) (ok : Bool) (s : State) :
    votesOf (withVote b c ok s) b.kind = [⟨b.kind, c, b.jobId, b.group, b.beam, ok⟩] := by
  simp [votesOf, withVote]

section
variable {link : Nat} {s : State} {i : Image} (hg : groupImage s = some i) (hj : inJob s = true) (hm : isMember s link = true)
  {b own : Ballot} {mine : Bool} (hown : ownVote s i b.kind = some (own, mine))
include hg hj hm hown

/-- A result that comes down is announced here, as false where its fields are not the member's own (R118, R123, R470). -/
theorem groupResult_onVote_down (hp : (treeParent i).isSome = true) (ok : Bool) :
    groupResult (nextTick s) b.kind (onVote link b ok false s) = some (ok && decide (own = b)) := by
  obtain ⟨parent, hparent⟩ := Option.isSome_iff_exists.mp hp
  have hvote : onVote link b ok false s = announceVote i b (ok && own == b) s := by
    simp [onVote, hg, hj, hm, takeResult, hparent, hown]
  rw [hvote, groupResult_announceVote, Bool.beq_eq_decide_eq]

/-- At the root with one child, the child's vote completes the ballot: the result is the AND, a vote with other fields counting as
false (R470). -/
theorem groupResult_onVote_root {c : Nat} (hp : treeParent i = none) (hc : treeChildren i = [c])
    (hl : groupLink s (moduleAt i c) = some link) (hv : s.beam.votes = []) (ok : Bool) :
    groupResult (nextTick s) b.kind (onVote link b ok true s)
      = some (mine && ok && decide (b.jobId = own.jobId ∧ b.group = own.group ∧ b.beam = own.beam)) := by
  have hkind : own.kind = b.kind := ownVote_kind hown
  have hchild : childOn s i link ((votesOf s b.kind).map (·.sender)) = some c := by simp [childOn, votesOf, hc, hl, hv]
  have hheard : allHeard (withVote b c ok s) i b.kind = true := by simp [allHeard, hc, votesOf_withVote]
  have hsettle : takeVote i link b ok s = settleVote i b.kind (withVote b c ok s) := by
    have hpending := release_pending_of_ownVote hown
    simp only [takeVote, hchild, hpending, hv]
    rfl
  have hpass : settleVote i b.kind (withVote b c ok s)
      = announceVote i own (combineVotes (withVote b c ok s) own mine) (withVote b c ok s) := by
    simp [settleVote, ownVote_withVote, hown, hheard, passVote, hp]
  have hvote : onVote link b ok true s = takeVote i link b ok s := by simp [onVote, hg, hj, hm]
  rw [hvote, hsettle, hpass, ← hkind, ← nextTick_withVote b c ok s, groupResult_announceVote, combineVotes, hkind, votesOf_withVote]
  simp [agrees, Bool.beq_eq_decide_eq, Bool.and_assoc]

end

/-- Settles O21: by the direction of the vote, each kind's ballot read at its own row. -/
theorem votesCombine : Obligations.VotesCombine := by
  unfold Obligations.VotesCombine
  intro link s i hg hj hm
  refine ⟨fun hp => ⟨fun b own job pb ok hown => ⟨_, rfl, ?_⟩, fun b own job g bm ok hown => ⟨_, rfl, ?_⟩,
      fun b own job g bm ok hown => ⟨_, rfl, ?_⟩⟩,
    fun c hp hc hl hv => ⟨fun b own job pb ok hown => ⟨_, rfl, ?_⟩, fun b own job g bm ok hown => ⟨_, rfl, ?_⟩,
      fun b own job g bm ok hown => ⟨_, rfl, ?_⟩⟩⟩
  · exact groupResult_onVote_down (b := ⟨.hold, w64 job.toNat, 0, w64 pb.toNat⟩) hg hj hm hown hp ok
  · exact groupResult_onVote_down (b := ⟨.arm, job, g, bm⟩) hg hj hm hown hp ok
  · exact groupResult_onVote_down (b := ⟨.release, job, g, bm⟩) hg hj hm hown hp ok
  · have h := groupResult_onVote_root (b := ⟨.hold, w64 job.toNat, 0, w64 pb.toNat⟩) hg hj hm hown hp hc hl hv ok
    simp only [ownVote_hold_group hown, true_and] at h
    exact h
  · exact groupResult_onVote_root (b := ⟨.arm, job, g, bm⟩) hg hj hm hown hp hc hl hv ok
  · exact groupResult_onVote_root (b := ⟨.release, job, g, bm⟩) hg hj hm hown hp hc hl hv ok

end Sys2Proof.Machine
end
section
/-! SUPPORT. The staging area (R104 to R109): opening it, appending to it, loading into it, and emptying it. -/
namespace Sys2Proof.Machine
open Claims

/-! ## BEGIN and DISCARD (R105, R108) -/

/-- BEGIN in EMPTY and FAILED: an empty staging area for an image of the kind. -/
theorem beginStage_opens {s : State} (h : s.img.stage = .empty ∨ s.img.stage = .failed) (kind : StageKind) :
    let t := beginStage kind s
    t = { s with img := t.img, orbit := t.orbit } ∧ t.img.stage = .filling ∧ t.img.kind = kind ∧ t.img.staging = []
      ∧ t.img.load = none ∧ t.img.checked = none ∧ t.orbit.restore = 0 := by
  have hopen : (s.img.stage = .empty || s.img.stage = .failed) = true := by simpa using h
  unfold beginStage
  rw [if_pos hopen]
  exact ⟨rfl, rfl, rfl, rfl, rfl, rfl, rfl⟩

theorem beginStage_refused {s : State} (he : s.img.stage ≠ .empty) (hf : s.img.stage ≠ .failed) (kind : StageKind) :
    beginStage kind s = recordImg 0x4300 [] s := by
  simp [beginStage, he, hf, refuseStage]

theorem discardStage_armed {s : State} (h : s.img.stage = .armed) : discardStage s = recordImg 0x4300 [] s := if_pos h

theorem discardStage_empties {s : State} (h : s.img.stage ≠ .armed) : discardStage s = emptyStage (dropRestore s) := if_neg h

/-! ## IMG_DATA (R105) -/

theorem appendWord_taken {s : State} (h : mayAppend s 8 = true) (v : Nat) : appendWord v s = appendStage (leBytes 8 v) s := if_pos h

theorem appendWord_refused {s : State} (h : mayAppend s 8 = false) (v : Nat) : appendWord v s = recordImg 0x4303 [] s := by
  simp [appendWord, h, refuseAppend]

/-! ## IMG_LOAD (R105) -/

/-- The offset that a word of IMG_LOAD asks for, in bytes (Table 3.15). -/
def loadOffset (v : W64) : Nat := v.toNat / 2 ^ 32 * 4096

/-- The length that a word of IMG_LOAD asks for, in bytes (Table 3.15). -/
def loadLength (v : W64) : Nat := v.toNat % 2 ^ 20 * 4096

/-- The word of IMG_LOAD without its reserved bits. -/
def loadWord (v : W64) : Nat := acceptFields Reg.imgLoad.spec.fields 0 v.toNat

theorem bits_loadWord (v : W64) : bits (loadWord v) 63 32 * 4096 = loadOffset v ∧ bits (loadWord v) 19 0 * 4096 = loadLength v := by
  have hword : loadWord v = v.toNat / 2 ^ 32 % 2 ^ 32 * 2 ^ 32 + v.toNat % 2 ^ 20 := by
    simp [loadWord, Reg.spec, acceptFields, Takes.accepts, bits]
  have hv : v.toNat < 2 ^ 64 := v.isLt
  rw [hword]
  unfold bits loadOffset loadLength
  omega

/-- An IMG_LOAD that reaches its register: a request whose reserved bits cost their event first (R7). -/
theorem execImgLoad_open {p : Port} {v : W64} {s : State} (h : Reaches p .imgLoad v.toNat s) :
    execImgLoad p v s = .next (requestLoad (loadWord v) (noteDiscard .imgLoad v.toNat s)) :=
  congrArg Host.Outcome.next (regWrite_open h (fun _ => 0) requestLoad)

section
variable (v : W64) (s : State)

/-- What a load is judged by is untouched by the reserved bits' event. -/
theorem loadAllowed_noteDiscard : (mayAppend (noteDiscard .imgLoad v.toNat s) (loadLength v)
      && decide (loadOffset v + loadLength v ≤ regionSize (noteDiscard .imgLoad v.toNat s).host))
    = (mayAppend s (loadLength v) && decide (loadOffset v + loadLength v ≤ regionSize s.host)) := by
  simp only [mayAppend, noteDiscard_img, noteDiscard_host]

theorem requestLoad_loadWord : requestLoad (loadWord v) (noteDiscard .imgLoad v.toNat s)
    = let t := noteDiscard .imgLoad v.toNat s
      if (mayAppend s (loadLength v) && decide (loadOffset v + loadLength v ≤ regionSize s.host)) = true then
        if loadLength v = 0 then t else { t with img := { t.img with load := some (loadOffset v, loadLength v) } }
      else refuseAppend t := by
  obtain ⟨hoffset, hlength⟩ := bits_loadWord v
  unfold requestLoad
  rw [hoffset, hlength]
  dsimp only
  rw [loadAllowed_noteDiscard]

end

/-- A load of bytes is asked for. -/
theorem requestLoad_pends {v : W64} {s : State} (hn : loadLength v ≠ 0) (ha : mayAppend s (loadLength v) = true)
    (hr : loadOffset v + loadLength v ≤ regionSize s.host) :
    UpToRecords { s with img := { s.img with load := some (loadOffset v, loadLength v) } }
      (requestLoad (loadWord v) (noteDiscard .imgLoad v.toNat s)) := by
  rw [requestLoad_loadWord, if_pos (by simp [ha, hr]), if_neg hn]
  have hframe := noteDiscard_frame .imgLoad v.toNat s
  unfold UpToRecords at hframe ⊢
  rw [hframe]
  rfl

/-- A load of no bytes asks for nothing. -/
theorem requestLoad_nothing {v : W64} {s : State} (hn : loadLength v = 0) (ha : mayAppend s (loadLength v) = true)
    (hr : loadOffset v + loadLength v ≤ regionSize s.host) :
    UpToRecords s (requestLoad (loadWord v) (noteDiscard .imgLoad v.toNat s)) := by
  rw [requestLoad_loadWord, if_pos (by simp [ha, hr]), if_pos hn]
  exact noteDiscard_frame .imgLoad v.toNat s

/-- A load that the stage, the area or the host region does not allow is refused. -/
theorem requestLoad_refused {v : W64} {s : State}
    (h : mayAppend s (loadLength v) = false ∨ regionSize s.host < loadOffset v + loadLength v) :
    UpToRecords { s with img := { s.img with lastEvent := 0x4303 } } (requestLoad (loadWord v) (noteDiscard .imgLoad v.toNat s))
      ∧ LoggedWithin 3 0x4303 [] s (requestLoad (loadWord v) (noteDiscard .imgLoad v.toNat s)) := by
  have hrefused : ¬((mayAppend s (loadLength v) && decide (loadOffset v + loadLength v ≤ regionSize s.host)) = true) := by
    obtain ha | hr := h
    · simp [ha]
    · simp [hr]
  rw [requestLoad_loadWord, if_neg hrefused]
  have hframe := noteDiscard_frame .imgLoad v.toNat s
  refine ⟨upToRecords_trans ?_ (recordImg_frame 0x4303 [] _), record_noteDiscard_within .imgLoad v.toNat 0x4303 [] s⟩
  unfold UpToRecords at hframe ⊢
  rw [hframe]
  rfl

/-! ## IMG_LOAD_COMPLETE (R106) -/

theorem raiseFault_img (code : Nat) (d : Bytes) (s : State) : (raiseFault code d s).img = s.img := by
  obtain ⟨-, hframe, -⟩ := raiseFault_faulted code d s
  rw [hframe]
  rfl

/-- A read of T1 leaves the image unit as it is. -/
theorem t1Read_img (who a n : Nat) (s : State) : (t1Read who a n s).2.img = s.img := by
  unfold t1Read
  split
  · rfl
  · split
    · rfl
    · exact raiseFault_img _ _ _

/-- The pull's end: what was read joins the staging area. -/
theorem exec_imgLoadComplete {s : State} {off n : Nat} (h : s.img.load = some (off, n)) :
    let r := t1Read (engineCode 8 9) (s.host.regionBase + off) n s
    exec .imgLoadComplete s = .next (appendStage r.1.data { r.2 with img := { r.2.img with load := none } }) := by
  change execImgLoadComplete s = _
  simp only [execImgLoadComplete, h]

/-- Settles O23: each command by what it does while the area takes it, and by its refusal otherwise. -/
theorem stagingFills : Obligations.StagingFills := by
  unfold Obligations.StagingFills
  intro p s
  refine ⟨fun hr hs => ?_, fun hr hs => ?_, fun hr he hf => ?_, fun v hr => ⟨fun ha => ?_, fun ha => ?_⟩,
    fun v hr => ⟨fun hn ha hin => ?_, fun hn ha hin => ?_, fun hno => ?_⟩, fun off n hload => ?_⟩
  · exact ⟨_, imgCommand_open hr (by decide) _, beginStage_opens hs .full⟩
  · exact ⟨_, imgCommand_open hr (by decide) _, beginStage_opens hs .delta⟩
  · refine ⟨_, imgCommand_open hr (by decide) _, ?_⟩
    rw [beginStage_refused he hf]
    exact recordImg_refusal 0x4300 [] s
  · refine ⟨_, congrArg Host.Outcome.next (regWrite_word hr rfl _ appendWord), ?_⟩
    rw [appendWord_taken ha]
    rfl
  · refine ⟨_, congrArg Host.Outcome.next (regWrite_word hr rfl _ appendWord), ?_⟩
    rw [appendWord_refused ha]
    exact recordImg_refusal 0x4303 [] s
  · exact ⟨_, execImgLoad_open hr, requestLoad_pends hn ha hin⟩
  · exact ⟨_, execImgLoad_open hr, requestLoad_nothing hn ha hin⟩
  · exact ⟨_, execImgLoad_open hr, requestLoad_refused hno⟩
  · refine ⟨_, exec_imgLoadComplete hload, rfl, ?_, ?_⟩
    · simp only [appendStage, t1Read_img]
    · simp only [appendStage, t1Read_img]

end Sys2Proof.Machine
end

section
/-! SUPPORT. The image check's beginning and end (R108, R109, R112). -/
namespace Sys2Proof.Machine
open Claims

/-! ## CHECK (R109) -/

theorem startCheck_empty {s : State} (h : s.img.stage = .empty) :
    startCheck s = { s with img := { s.img with stage := .checking, kind := .regs } } := if_pos h

theorem startCheck_filling {s : State} (h : s.img.stage = .filling) :
    startCheck s = { s with shadow := stagedRegs s.img s.shadow, img := { s.img with stage := .checking, load := none } } := by
  simp [startCheck, h]

theorem startCheck_refused {s : State} (he : s.img.stage ≠ .empty) (hf : s.img.stage ≠ .filling) :
    startCheck s = recordImg 0x4300 [] s := by
  simp [startCheck, he, hf, refuseStage]

/-! ## CHECK_COMPLETE (R112) -/

theorem exec_checkComplete_pass {s : State} (hs : s.img.stage = .checking) (h : firstFailure s = none) :
    exec .checkComplete s = .next (passCheck s) := by
  change execCheckComplete s = _
  simp [execCheckComplete, hs, endCheck, h]

theorem exec_checkComplete_fail {s : State} {f : CheckFail} (hs : s.img.stage = .checking) (h : firstFailure s = some f) :
    exec .checkComplete s = .next (failCheck f s) := by
  change execCheckComplete s = _
  simp [execCheckComplete, hs, endCheck, h]

/-- A pass: the merged set is the checked one, and nothing of the staged or the live registers moves. -/
theorem passCheck_leaves (s : State) :
    (passCheck s).img.stage = .checked ∧ (passCheck s).img.checked = some (mergedSet s.img)
      ∧ (passCheck s).img.checkedDigest = imageDigest s.img ∧ (passCheck s).img.staging = s.img.staging ∧ (passCheck s).live = s.live
      ∧ (passCheck s).shadow = s.shadow
      ∧ Logged 0x0300 (detail [(1, stageKindCode s.img.kind), (8, passMark s)]) s (passCheck s) := by
  simp only [passCheck, recordImg_img, recordImg_live, recordImg_shadow, true_and]
  exact recordImg_logged _ _ _

/-- A failure: its event and IMG_CHECK_DETAIL. -/
theorem failCheck_leaves (f : CheckFail) (s : State) :
    (failCheck f s).img.stage = .failed ∧ (failCheck f s).img.detail = (f.event, f.part, f.entry)
      ∧ (failCheck f s).img.checked = s.img.checked ∧ (failCheck f s).live = s.live ∧ Logged f.event f.more s (failCheck f s) := by
  simp only [failCheck, recordImg_img, recordImg_live, true_and]
  exact recordImg_logged _ _ _

/-- Settles O24: by the stage in which each command comes, and by the check's first failure. -/
theorem checksEnd : Obligations.ChecksEnd := by
  unfold Obligations.ChecksEnd
  intro p s
  refine ⟨fun hr => ⟨fun he => ?_, fun hf => ?_, fun he hf => ?_⟩, fun hs => ⟨fun hpass => ?_, fun f hfail => ?_⟩,
    fun hr => ⟨fun ha => ?_, fun ha => ?_⟩⟩
  · exact ⟨_, imgCommand_open hr (by decide) _, startCheck_empty he⟩
  · exact ⟨_, imgCommand_open hr (by decide) _, startCheck_filling hf⟩
  · refine ⟨_, imgCommand_open hr (by decide) _, ?_⟩
    rw [startCheck_refused he hf]
    simp only [recordImg_img, recordImg_shadow, true_and]
    exact recordImg_logged 0x4300 [] s
  · exact ⟨_, exec_checkComplete_pass hs hpass, passCheck_leaves s⟩
  · exact ⟨_, exec_checkComplete_fail hs hfail, failCheck_leaves f s⟩
  · refine ⟨_, imgCommand_open hr (by decide) _, ?_⟩
    rw [discardStage_empties ha]
    exact ⟨rfl, rfl, rfl, rfl, rfl, rfl⟩
  · refine ⟨_, imgCommand_open hr (by decide) _, ?_⟩
    rw [discardStage_armed ha]
    exact recordImg_refusal 0x4300 [] s

end Sys2Proof.Machine
end

section
/-! SUPPORT. Releases of the running job, errors of the live area, and the ends of warm-ups (R123, R124, R153). -/
namespace Sys2Proof.Machine
open Claims

/-! ## IMG_RELEASE (R123) -/

/-- The beam that a write of v to IMG_RELEASE asks for. -/
def askedRelease (v : W64) (s : State) : Nat := if v.toNat = 0 then beamNumber s + 4 else v.toNat

theorem releaseRefusal_notRunning {s : State} (h : s.glb.state ≠ .running) (b : Nat) : releaseRefusal b s = some 1 := if_pos h

section
variable {s : State} (hrun : s.glb.state = .running)
include hrun

theorem releaseRefusal_armed (h : s.img.stage = .armed) (b : Nat) : releaseRefusal b s = some 2 := by
  simp [releaseRefusal, hrun, h]

variable (harm : s.img.stage ≠ .armed)
include harm

theorem releaseRefusal_pending (h : s.img.release ≠ none) (b : Nat) : releaseRefusal b s = some 3 := by
  simp [releaseRefusal, hrun, harm, Option.isSome_iff_ne_none, h]

theorem releaseRefusal_early (h : s.img.release = none) {b : Nat} (hb : b < beamNumber s + 4) : releaseRefusal b s = some 4 := by
  simp [releaseRefusal, hrun, harm, h, hb]

theorem releaseRefusal_none (h : s.img.release = none) {b : Nat} (hb : beamNumber s + 4 ≤ b) : releaseRefusal b s = none := by
  have hnot : ¬b < beamNumber s + 4 := Nat.not_lt.mpr hb
  simp [releaseRefusal, hrun, harm, h, hnot]

end

theorem requestRelease_refused {v : W64} {s : State} {c : Nat} (h : releaseRefusal (askedRelease v s) s = some c) :
    requestRelease v.toNat s = recordImg 0x4307 (leBytes 1 c) s := by
  unfold askedRelease at h
  simp [requestRelease, h, detail]

theorem requestRelease_taken {v : W64} {s : State} (h : releaseRefusal (askedRelease v s) s = none) :
    requestRelease v.toNat s
      = { s with img := { s.img with release := some (askedRelease v s), ownRelease := none, releaseResult := none } } := by
  unfold askedRelease at h ⊢
  simp only [requestRelease, h]

theorem exec_imgRelease_open {p : Port} {v : W64} {s : State} (h : Reaches p .imgRelease v.toNat s) :
    exec (.imgRelease p v) s = .next (requestRelease v.toNat s) :=
  congrArg Host.Outcome.next (regWrite_word h rfl _ requestRelease)

/-! ## Warm-ups (R153) -/

/-- A buoy with warm-up steps left is in warm-up. -/
theorem inWarmup_of_left {n : NumState} {buoy : Nat} (h : warmupLeft n buoy ≠ 0) : inWarmup n = true := by
  unfold warmupLeft SMap.get at h
  cases hf : SMap.find? n.warmup buoy with
  | none => simp [hf] at h
  | some k => exact List.any_eq_true.mpr ⟨(buoy, k), find?_mem hf, by simpa [hf] using h⟩

/-- A buoy's warm-up is over: its count is no longer kept. -/
def warmupOver (buoy : Nat) (s : State) : State := { s with num := { s.num with warmup := SMap.erase s.num.warmup buoy } }

/-- The end of one buoy's warm-up is recorded where no other buoy is in warm-up. -/
theorem changeWarmup_erase {buoy : Nat} {s : State} (h : inWarmup s.num = true) :
    changeWarmup (fun w => SMap.erase w buoy) s
      = if inWarmup (warmupOver buoy s).num then warmupOver buoy s else record 0x0401 [] (warmupOver buoy s) := by
  have hchange : changeWarmup (fun w => SMap.erase w buoy) s
      = if inWarmup s.num && !inWarmup (warmupOver buoy s).num then record 0x0401 [] (warmupOver buoy s) else warmupOver buoy s := rfl
  rw [hchange, h]
  cases inWarmup (warmupOver buoy s).num <;> rfl

theorem exec_warmupEnd {buoy : Nat} {s : State} {i : Image} (hi : s.img.live = some i) (hp : planRuns s = true)
    (hg : isGate i s.beam.planBeam = true) (hr : s.rdx.gate.isSome = true) (hw : warmupLeft s.num buoy = 1) :
    exec (.warmupEnd buoy) s
      = .next (if inWarmup (warmupOver buoy s).num then warmupOver buoy s else record 0x0401 [] (warmupOver buoy s)) := by
  have hwarm : inWarmup s.num = true := inWarmup_of_left (by omega : warmupLeft s.num buoy ≠ 0)
  have hruns : (planRuns s && isGate i s.beam.planBeam && s.rdx.gate.isSome && warmupLeft s.num buoy == 1) = true := by
    simp [hp, hg, hr, hw]
  rw [← changeWarmup_erase hwarm]
  change execWarmupEnd buoy s = _
  simp only [execWarmupEnd, hi, if_pos hruns]

theorem warmupLeft_over_same (buoy : Nat) (s : State) : warmupLeft (warmupOver buoy s).num buoy = 0 := SMap.get_erase_same _ _ _

theorem warmupLeft_over_other {buoy b : Nat} (h : b ≠ buoy) (s : State) : warmupLeft (warmupOver buoy s).num b = warmupLeft s.num b :=
  SMap.get_erase_other _ _ h

/-- Settles O26: by the cause that a release is refused for, and by whether other buoys are still in warm-up. -/
theorem releasesAndWarmups : Obligations.ReleasesAndWarmups := by
  unfold Obligations.ReleasesAndWarmups
  refine ⟨fun p v s hr => ⟨fun hrun harm hrel hb => ?_, fun c hc => ?_, fun hrun => releaseRefusal_notRunning hrun _,
      fun hrun harm => releaseRefusal_armed hrun harm _, fun hrun harm hrel => releaseRefusal_pending hrun harm hrel _,
      fun hrun harm hrel hb => releaseRefusal_early hrun harm hrel hb⟩, fun s hlive => ?_,
    fun buoy s i hi hp hg hgate hw => ⟨_, exec_warmupEnd hi hp hg hgate hw, ?_⟩⟩
  · exact ⟨_, exec_imgRelease_open hr, requestRelease_taken (releaseRefusal_none hrun harm hrel hb)⟩
  · refine ⟨_, exec_imgRelease_open hr, ?_⟩
    rw [requestRelease_refused hc]
    exact recordImg_refusal 0x4307 (leBytes 1 c) s
  · exact ⟨_, congrArg Host.Outcome.next (if_pos hlive), raiseFault_faulted 0x8300 [] s⟩
  · cases hlast : inWarmup (warmupOver buoy s).num with
    | true =>
      simp only [if_true]
      exact ⟨warmupLeft_over_same buoy s, fun b hb => warmupLeft_over_other hb s, rfl, fun h => by simp [hlast] at h, fun _ => rfl⟩
    | false =>
      simp only [Bool.false_eq_true, if_false, record_num]
      exact ⟨warmupLeft_over_same buoy s, fun b hb => warmupLeft_over_other hb s, record_frame 0x0401 [] (warmupOver buoy s),
        fun _ => record_logged 0x0401 [] (warmupOver buoy s), fun h => by simp [hlast] at h⟩

end Sys2Proof.Machine
end

section
/-! SUPPORT. The selector registers (R167, R380, R410, R480, R520, R631): what a write latches where it holds the register's field alone. -/
namespace Sys2Proof.Machine
open Claims

/-! ## Writes that a register's low field takes whole -/

theorem w64_toNat (v : W64) : w64 v.toNat = v := BitVec.ofNat_toNat 64 v

section
variable {p : Port} {r : Reg} {v : W64} {s : State} {a : RegAccess} {n : Nat} {k : Takes}
  (hspec : r.spec = ⟨a, [(63, n + 1)], [⟨n, 0, k⟩]⟩) (hv : v.toNat < 2 ^ (n + 1)) (hk : k.accepts v.toNat = true)
include hspec hv hk

theorem writeRefused_lowField : writeRefused r.spec v.toNat = false := by
  have hreserved : bits v.toNat 63 (n + 1) = 0 := by simp [bits, Nat.div_eq_of_lt hv]
  have hfield : bits v.toNat n 0 = v.toNat := by simp [bits, Nat.mod_eq_of_lt hv]
  simp [hspec, writeRefused, hreserved, hfield, hk]

theorem acceptFields_lowField (old : Nat) : acceptFields r.spec.fields old v.toNat = v.toNat := by
  have hfield : bits v.toNat n 0 = v.toNat := by simp [bits, Nat.mod_eq_of_lt hv]
  simp [hspec, acceptFields, hfield, hk]

/-- A word that holds a value of a register's one field, at bit 0, and no reserved bit goes to the register's action and costs no
event (R7). -/
theorem regWrite_lowField (hreach : Reaches p r v.toNat s) (old : State → Nat) (act : Nat → State → State) :
    regWrite p r v old act s = act v.toNat s := by
  rw [regWrite_open hreach, noteDiscard_kept (writeRefused_lowField hspec hv hk), acceptFields_lowField hspec hv hk]

/-- The row's command of such a register. -/
theorem runs_lowField {c : Instr} {old : State → Nat} {act : Nat → State → State} {P : State → Prop}
    (hexec : exec c s = .next (regWrite p r v old act s)) (hreach : Reaches p r v.toNat s) (hP : P (act v.toNat s)) : Runs c s P :=
  ⟨act v.toNat s, by rw [hexec, regWrite_lowField hspec hv hk hreach], hP⟩

end

/-! ## PLE_BUOY_SEL (R380) -/

theorem selectBuoy_frame (v : W64) (s : State) : selectBuoy v.toNat s
    = { s with ple := { s.ple with sel := v, info := (selectBuoy v.toNat s).ple.info, moor := (selectBuoy v.toNat s).ple.moor } } := by
  unfold selectBuoy
  rw [w64_toNat]
  split <;> rfl

/-- A declared buoy's entry is latched (Tables 10.14, 10.15). -/
theorem selectBuoy_live {x : Nat} {s : State} (h : (liveBuoy s x).isSome = true) :
    (selectBuoy x s).ple.info = w64 (buoyInfo (buoyOf s x)) ∧ (selectBuoy x s).ple.moor = w64 (moorWord s (buoyOf s x).auth.place) := by
  obtain ⟨e, he⟩ := Option.isSome_iff_exists.mp h
  simp [selectBuoy, he]

theorem selectBuoy_undeclared {x : Nat} {s : State} (h : liveBuoy s x = none) :
    (selectBuoy x s).ple.info = 0 ∧ (selectBuoy x s).ple.moor = 0 := by
  simp [selectBuoy, h]

/-- Settles O27: each selector is one field at bit 0, and LINK alone has reserved encodings (R7). -/
theorem selectorsLatch : Obligations.SelectorsLatch := by
  unfold Obligations.SelectorsLatch
  intro p v s
  refine ⟨fun hr hv => ?_, fun hr hv => ?_, fun hr hv => ?_, fun hr hv => ?_, fun hr hv => ?_, fun hr hv => ?_, fun hr hv => ?_,
    fun hr hv => ?_⟩
  · exact runs_lowField rfl hv rfl rfl hr (by simp only [selectCensus, w64_toNat])
  · exact runs_lowField rfl hv rfl rfl hr ⟨selectBuoy_frame v s, selectBuoy_live, selectBuoy_undeclared⟩
  · exact runs_lowField rfl hv rfl rfl hr (by simp only [selectUnit, w64_toNat])
  · have hlink : (Takes.upTo 47).accepts v.toNat = true := decide_eq_true (Nat.le_of_lt_succ hv)
    exact runs_lowField rfl (Nat.lt_trans hv (by decide)) hlink rfl hr (by simp only [selectLink, w64_toNat])
  · exact runs_lowField rfl hv rfl rfl hr (by simp only [selectRoute, w64_toNat])
  · exact runs_lowField rfl hv rfl rfl hr (by simp only [selectEpoch, w64_toNat])
  · exact runs_lowField rfl hv rfl rfl hr (by simp only [selectLayer, w64_toNat])
  · exact runs_lowField rfl hv rfl rfl hr (by simp only [selectEvent, w64_toNat])

end Sys2Proof.Machine
end

section
/-! SUPPORT. The CLEAR registers (R200, R234, R274): a write of 1 applies the block's clear, a write of 0 does nothing. -/
namespace Sys2Proof

/-- A fold of `modify` over keys that all differ changes each of them once. -/
theorem SMap.get_foldl_modify_of_nodup {α : Type} [DecidableEq α] (f : α → α) (d : α) {us : List Nat} (hus : us.Nodup) {u : Nat}
    (h : u ∈ us) (m : SMap α) : SMap.get (us.foldl (fun m u => SMap.modify m u d f) m) u d = f (SMap.get m u d) := by
  induction us generalizing m with
  | nil => cases h
  | cons a us ih =>
    obtain ⟨ha, hus⟩ := List.nodup_cons.mp hus
    rw [List.foldl_cons]
    obtain rfl | hu := List.mem_cons.mp h
    · rw [SMap.get_foldl_modify_of_notMem f d ha, SMap.get_modify_same]
    · have hne : u ≠ a := fun e => ha (e ▸ hu)
      rw [ih hus hu, SMap.get_modify_other m d f hne]

/-- A change at one key, read anywhere. -/
theorem SMap.get_modify_everywhere {α : Type} [DecidableEq α] (m : SMap α) (k : Nat) (d : α) (f : α → α) :
    SMap.get (SMap.modify m k d f) k d = f (SMap.get m k d) ∧ ∀ n, n ≠ k → SMap.get (SMap.modify m k d f) n d = SMap.get m n d :=
  ⟨SMap.get_modify_same m k d f, fun _ hn => SMap.get_modify_other m d f hn⟩

end Sys2Proof

namespace Sys2Proof.Machine
open Claims

section
variable {p : Port} {r : Reg} {s : State} {c : Instr} {zero : State → State} {P : State → Prop}
  (hspec : r.spec = ⟨.wo, [(63, 1)], [⟨0, 0, .any⟩]⟩)
include hspec

theorem runs_clear_one (hexec : exec c s = .next (clearWrite p r 1 zero s)) (hreach : Reaches p r 1 s) (hP : P (zero s)) : Runs c s P :=
  runs_lowField hspec (by decide) rfl hexec hreach hP

theorem runs_clear_zero (hexec : exec c s = .next (clearWrite p r 0 zero s)) (hreach : Reaches p r 0 s) (hP : P s) : Runs c s P :=
  runs_lowField hspec (by decide) rfl hexec hreach hP

end

theorem updLinks_eq (ls : List Nat) (f : Link → Link) (s : State) : updLinks ls f s
    = { s with fab := { s.fab with links := ls.foldl (fun m l => SMap.modify m l {} f) s.fab.links } } := rfl

/-- FAB_CLEAR zeroes the counts of the block and the error counts of each link, and nothing else (Table 13.23). -/
theorem clearFab_acts (s : State) :
    clearFab s = { s with fab := { s.fab with links := (clearFab s).fab.links, retries := 0, halts := 0, drops := 0 } }
      ∧ ∀ l < 48, linkOf (clearFab s) l = Link.cleared (linkOf s l) := by
  have hget : ∀ l < 48, SMap.get ((List.range 48).foldl (fun m l => SMap.modify m l {} Link.cleared) s.fab.links) l {}
      = Link.cleared (linkOf s l) := fun l hl =>
    SMap.get_foldl_modify_of_nodup Link.cleared {} List.nodup_range (List.mem_range.mpr hl) s.fab.links
  unfold clearFab
  rw [updLinks_eq]
  generalize (List.range 48).foldl (fun m l => SMap.modify m l {} Link.cleared) s.fab.links = links at hget ⊢
  exact ⟨rfl, hget⟩

/-- Settles O28: each CLEAR register is the one bit 0, and each block's clear changes its own unit. -/
theorem clearsZeroCounters : Obligations.ClearsZeroCounters := by
  unfold Obligations.ClearsZeroCounters
  intro p d u k s
  refine ⟨fun h => ?_, fun h => ?_, fun h => ?_, fun h => ?_, fun h => ?_, fun h => ?_, fun h => ?_, fun h => ?_, fun h => ?_, fun h => ?_,
    fun h => ?_⟩
  · exact runs_clear_one rfl rfl h ⟨rfl, SMap.get_modify_everywhere s.me _ {} MeUnit.cleared⟩
  · exact runs_clear_one rfl rfl h ⟨rfl, SMap.get_modify_everywhere s.ve _ {} VeUnit.cleared⟩
  · exact runs_clear_one rfl rfl h ⟨rfl, SMap.get_modify_everywhere s.ae _ {} SeqUnit.cleared⟩
  · exact runs_clear_one rfl rfl h ⟨rfl, SMap.get_modify_everywhere s.gse _ {} SeqUnit.cleared⟩
  · exact runs_clear_one rfl rfl h ⟨rfl, SMap.get_modify_everywhere s.lye _ {} SeqUnit.cleared⟩
  · exact runs_clear_one rfl rfl h ⟨rfl, tstOf_updTst_same k TileStore.cleared s,
      fun _ hn => tstOf_updTst_other TileStore.cleared s hn⟩
  · exact runs_clear_one rfl rfl h rfl
  · exact runs_clear_one rfl rfl h rfl
  · exact runs_clear_one rfl rfl h (clearFab_acts s)
  · exact runs_clear_one rfl rfl h rfl
  · exact runs_clear_zero rfl rfl h rfl

end Sys2Proof.Machine
end

section
/-! SUPPORT. Records of information events, and a tile written into T1 (R193, R341, R348, R616): what each changes, said once. -/
namespace Sys2Proof.Machine
open Claims

/-! ## Information events (R12, R618) -/

/-- A record of class 0 goes into the ring alone, so no log record is lost by it and it takes one sequence number (R618, R619). -/
theorem record_nextSeq_of_information {code : Nat} (hcode : eventClass code = 0) (d : Bytes) (s : State) :
    (record code d s).ev.nextSeq = s.ev.nextSeq + 1 := by
  have hsignal : ∀ v t, (signal v t).ev.lostRun = t.ev.lostRun := fun v t => by
    unfold signal
    dsimp only
    split <;> rfl
  have hlog : ∀ t, logRecord (mkRecord code d s) t = t := fun t => if_pos hcode
  have hlost : (recordOne code d s).ev.lostRun = s.ev.lostRun := by
    unfold recordOne
    dsimp only
    rw [interrupt_ev, hsignal, hlog]
    rfl
  unfold record
  simp only [hlost, Bool.and_not_self, Bool.false_eq_true, if_false]
  exact recordOne_nextSeq code d s

/-! ## A tile written into T1 -/

theorem t1Write_frame (a : Nat) (bs : Bytes) (w : Option Nat) (s : State) :
    t1Write a bs w s = { s with lpd := (t1Write a bs w s).lpd, out := (t1Write a bs w s).out } := by
  unfold t1Write tellHost
  split <;> rfl

theorem countEncoded_frame (b : Bytes) (s : State) :
    countEncoded b s = { s with ple := { s.ple with counts := (countEncoded b s).ple.counts } } := by
  unfold countEncoded
  split <;> rfl

theorem noteShared_frame (e : BuoyEntry) (s : State) :
    noteShared e s = { s with ple := { s.ple with sharedWritten := (noteShared e s).ple.sharedWritten } } := by
  unfold noteShared
  split <;> rfl

/-- An engine's write of a tile into T1 is taken; it changes T1, the PLE and what has left the module, and in the buoy table what R341
says of a write. -/
theorem writeTile_t1 {e : BuoyEntry} {s : State} {a : Nat} (h : (buoyOf s e.id).auth.place = .t1 a) (who : Nat) (le : Option Nat)
    (tile : Nat) (b : Bytes) : ∃ q, writeTile who le e tile b s = (true, q)
      ∧ q = { s with lpd := q.lpd, ple := q.ple, out := q.out } ∧ buoyOf q e.id = noteWrite (jobStep s) tile (buoyOf s e.id) := by
  unfold writeTile storeTile
  simp only [h]
  refine ⟨_, rfl, ?_, ?_⟩
  · rw [countEncoded_frame, t1Write_frame, noteShared_frame]
    rfl
  · rw [countEncoded_frame, t1Write_frame, noteShared_frame]
    exact buoyOf_updBuoy_same e.id _ s

end Sys2Proof.Machine
end

section
/-! SUPPORT. MATMUL on verified operands (R187, R189 to R193, R226 to R234): what stands before the output action, what the action changes,
and the task's end. -/
namespace Sys2Proof.Machine
open Claims

/-! ## From the command to the products -/

theorem exec_matmul_good {die : Fin 8} {half : Fin 2} {s x : State} {i : Image} {t : RunTask} {os : List Operand}
    {ts : List (Header × Bytes)} {endAt : Nat} (htask : meTask s (2 * die.val + half.val) = some (i, t)) (hend : endAt < periodOf s.live)
    (hos : matmulOperands i t = some os) (hts : useOperands (meCode (2 * die.val + half.val)) t.task.le os s = (.all ts, x)) (stall : Nat) :
    exec (.matmul die half endAt stall) s = .next (computeMatmul (2 * die.val + half.val) i t (splitTurns (ts.take (2 * kTiles t.task))).1
      (splitTurns (ts.take (2 * kTiles t.task))).2 (ts.drop (2 * kTiles t.task)) endAt stall x) := by
  have hmay : mayEnd s endAt = true := decide_eq_true hend
  change execMatmul die half endAt stall s = _
  unfold execMatmul
  simp only [htask, hmay, if_true]
  unfold runMatmul
  simp only [hos, hts]

section
variable {u : Nat} {i : Image} {t : RunTask} {as bs : List (Header × Bytes)} {x : State} {p : Product}
  (hp : multiply (accPolicy i t.task) t.task (operandPairs t.task as bs) (entrySlots (SMap.get x.me u {}) t.task) = p)
include hp

theorem computeMatmul_stopped (hstop : p.stopped = true) (rb : List (Header × Bytes)) (endAt stall : Nat) :
    computeMatmul u i t as bs rb endAt stall x = excessFault u t (entrySlots (SMap.get x.me u {}) t.task).attempt p x := by
  unfold computeMatmul
  simp only [hp, hstop, if_true]

theorem computeMatmul_finishes (hstop : p.stopped = false) (rb : List (Header × Bytes)) (endAt stall : Nat) :
    computeMatmul u i t as bs rb endAt stall x
      = finishMatmul u i t (entrySlots (SMap.get x.me u {}) t.task).attempt p rb endAt stall x := by
  unfold computeMatmul
  simp only [hp, hstop, Bool.false_eq_true, if_false]

end

/-! ## The events of the replays (R226 to R228) -/

theorem noteReplays_frame (who idx mode n attempt : Nat) (s : State) : UpToRecords s (noteReplays who idx mode n attempt s) := by
  induction n generalizing attempt s with
  | zero => exact upToRecords_refl s
  | succ n ih => exact upToRecords_trans (record_frame _ _ s) (ih _ _)

/-- Event 0x0600 is information: each replay takes one sequence number. -/
theorem noteReplays_nextSeq (who idx mode n attempt : Nat) (s : State) :
    (noteReplays who idx mode n attempt s).ev.nextSeq = s.ev.nextSeq + BitVec.ofNat 32 n := by
  induction n generalizing attempt s with
  | zero => exact (BitVec.add_zero _).symm
  | succ n ih =>
    unfold noteReplays
    rw [ih, record_nextSeq_of_information rfl, BitVec.add_assoc, Nat.add_comm n 1, BitVec.ofNat_add]
    rfl

theorem noteExhausted_frame (who : Nat) (t : RunTask) (p : Product) (s : State) : UpToRecords s (noteExhausted who t p s) := by
  unfold noteExhausted
  dsimp only
  split
  · exact record_frame _ _ s
  · split
    · exact record_frame _ _ s
    · exact upToRecords_refl s

/-! ## Replays beyond the budget (R228) -/

/-- Fault 0x8600 comes right after the replays' events; the slots and the completed tasks stay. -/
theorem excessFault_acts (u : Nat) (t : RunTask) (first : Nat) (p : Product) (x : State) : let y := excessFault u t first p x
    LoggedWithin (p.replays + 2) 0x8600
        (detail [(2, meCode u), (2, t.task.idx), (4, t.planBeam), (1, payloadField t.task 223 216)]) x y
      ∧ y.beam.done = x.beam.done ∧ (SMap.get y.me u {}).slots = (SMap.get x.me u {}).slots
      ∧ (inJob x = true → y.beam.stopped = true) := by
  intro y
  let noted := noteReplays (meCode u) t.task.idx (accMode t.task) p.replays (first + 1) x
  have hnoted : UpToRecords x noted := noteReplays_frame _ _ _ _ _ x
  obtain ⟨hlog, hframe, hhalt, -⟩ := raiseFault_faulted 0x8600
    (detail [(2, meCode u), (2, t.task.idx), (4, t.planBeam), (1, payloadField t.task 223 216)]) (updMeUnit u (MeUnit.counted p) noted)
  refine ⟨loggedWithin_of_logged hlog (by omega : p.replays < p.replays + 2) (noteReplays_nextSeq _ _ _ _ _ x), ?_, ?_, fun hj => ?_⟩
  · have hy : y.beam.done = noted.beam.done := by
      change (excessFault u t first p x).beam.done = _
      unfold excessFault
      rw [hframe]
      rfl
    rw [hy, hnoted]
    rfl
  · have hy : y.me = SMap.modify noted.me u {} (MeUnit.counted p) := by
      change (excessFault u t first p x).me = _
      unfold excessFault
      rw [hframe]
      rfl
    rw [hy, SMap.get_modify_same, hnoted]
    rfl
  · have hjob : inJob (updMeUnit u (MeUnit.counted p) noted) = inJob x := by
      change inJob noted = _
      rw [hnoted]
      rfl
    exact (hhalt (hjob.trans hj)).1

/-! ## The task's end -/

/-- A finished task as its output action finds the machine: its events recorded, its non-finite result indicated (R226 to R232). -/
def beforeAction (u : Nat) (t : RunTask) (first : Nat) (p : Product) (s : State) : State :=
  indicateIf ((resultElems (accMode t.task) p).any (fun v => nonfinite32 v.1))
    (noteExhausted (meCode u) t p (noteReplays (meCode u) t.task.idx (accMode t.task) p.replays (first + 1) s))

/-- The slots, the registers and the end of a task whose output action left q. -/
def endMatmul (u : Nat) (t : RunTask) (first : Nat) (p : Product) (endAt stall : Nat) (q : State) : State :=
  let last := accLast t.task first p (resultElems (accMode t.task) p)
  let r := updMeUnit u (fun m => MeUnit.finished t last (leftSlots q t.task p) endAt stall (MeUnit.counted p m)) q
  finishTask (meCode u) t.task.le t.task.idx endAt (if p.attempt = 3 then { r with freeCount := r.freeCount + 1 } else r)

/-- The task is complete at y, begun at x: its place in the beam, its engine's registers and slots (R203, R226, R230, R231, R234); the
other matrix engines stay. -/
def MatmulEnded (u : Nat) (t : RunTask) (first : Nat) (p : Product) (endAt stall : Nat) (x y : State) : Prop :=
  let m := SMap.get x.me u {}
  let n := SMap.get y.me u {}
  let res := resultElems (accMode t.task) p
  (t.task.le, t.task.idx) ∈ y.beam.done ∧ n.run = none ∧ n.last = accLast t.task first p res
    ∧ n.macs = satAdd 64 m.macs p.macs ∧ n.replayCount = satAdd 32 m.replayCount p.replays
    ∧ n.busy = addBusy m.busy t.start endAt ∧ n.stallFetch = satAdd 32 m.stallFetch stall
    ∧ (¬(accMode t.task = 2 ∧ p.attempt = 3) → SMap.find? n.slots (accSlotOf t.task)
        = some (slotSet (accMode t.task) p.attempt (lambdaOf (accMode t.task) p.attempt) p.pairs))
    ∧ (∀ k, k ≠ u → SMap.get y.me k {} = SMap.get x.me k {})
    ∧ (res.any (fun v => nonfinite32 v.1) = true → y.num.nonFinite = true)

section
variable (u : Nat) (i : Image) (t : RunTask) (first : Nat) (p : Product) (endAt stall : Nat)

theorem indicateIf_eq (b : Bool) (s : State) : indicateIf b s = { s with num := { s.num with nonFinite := s.num.nonFinite || b } } := by
  cases b <;> simp [indicateIf]

theorem beforeAction_frame (x : State) :
    UpToRecords { x with num := { x.num with nonFinite := x.num.nonFinite || (resultElems (accMode t.task) p).any (fun v => nonfinite32 v.1) } }
      (beforeAction u t first p x) := by
  have h := upToRecords_trans (noteReplays_frame (meCode u) t.task.idx (accMode t.task) p.replays (first + 1) x)
    (noteExhausted_frame (meCode u) t p _)
  unfold beforeAction
  rw [indicateIf_eq, h]
  rfl

@[simp] theorem beforeAction_me (x : State) : (beforeAction u t first p x).me = x.me := by rw [beforeAction_frame]; rfl
@[simp] theorem beforeAction_ve (x : State) : (beforeAction u t first p x).ve = x.ve := by rw [beforeAction_frame]; rfl
@[simp] theorem beforeAction_tst (x : State) : (beforeAction u t first p x).tst = x.tst := by rw [beforeAction_frame]; rfl
@[simp] theorem beforeAction_lpd (x : State) : (beforeAction u t first p x).lpd = x.lpd := by rw [beforeAction_frame]; rfl
@[simp] theorem beforeAction_ple (x : State) : (beforeAction u t first p x).ple = x.ple := by rw [beforeAction_frame]; rfl
@[simp] theorem beforeAction_img (x : State) : (beforeAction u t first p x).img = x.img := by rw [beforeAction_frame]; rfl
@[simp] theorem beforeAction_beam (x : State) : (beforeAction u t first p x).beam = x.beam := by rw [beforeAction_frame]; rfl
@[simp] theorem beforeAction_num (x : State) : (beforeAction u t first p x).num
    = { x.num with nonFinite := x.num.nonFinite || (resultElems (accMode t.task) p).any (fun v => nonfinite32 v.1) } := by
  rw [beforeAction_frame]; rfl

theorem finishMatmul_of_action {rb : List (Header × Bytes)} {x q : State}
    (h : applyAction (meCode u) i t rb (resultElems (accMode t.task) p) (beforeAction u t first p x) = (true, q)) :
    finishMatmul u i t first p rb endAt stall x = endMatmul u t first p endAt stall q := by
  unfold beforeAction at h
  unfold finishMatmul
  simp only [h]
  rfl

theorem endMatmul_frame (q : State) : let y := endMatmul u t first p endAt stall q
    y = { q with beam := y.beam, lnt := y.lnt, fab := y.fab, rdx := y.rdx, ev := y.ev, nor := y.nor, out := y.out, me := y.me,
                 freeCount := y.freeCount } := by
  dsimp only
  unfold endMatmul
  dsimp only
  rw [finishTask_frame]
  split <;> rfl

@[simp] theorem endMatmul_ve (q : State) : (endMatmul u t first p endAt stall q).ve = q.ve := by rw [endMatmul_frame]
@[simp] theorem endMatmul_tst (q : State) : (endMatmul u t first p endAt stall q).tst = q.tst := by rw [endMatmul_frame]
@[simp] theorem endMatmul_lpd (q : State) : (endMatmul u t first p endAt stall q).lpd = q.lpd := by rw [endMatmul_frame]
@[simp] theorem endMatmul_ple (q : State) : (endMatmul u t first p endAt stall q).ple = q.ple := by rw [endMatmul_frame]
@[simp] theorem endMatmul_num (q : State) : (endMatmul u t first p endAt stall q).num = q.num := by rw [endMatmul_frame]

theorem endMatmul_me (q : State) : (endMatmul u t first p endAt stall q).me
    = SMap.modify q.me u {} (fun m => MeUnit.finished t (accLast t.task first p (resultElems (accMode t.task) p)) (leftSlots q t.task p)
        endAt stall (MeUnit.counted p m)) := by
  unfold endMatmul
  dsimp only
  rw [finishTask_frame]
  split <;> rfl

/-- Whatever the output action did besides, the end completes the task where it left the matrix engines as they were. -/
theorem endMatmul_ended {x q : State} (hme : q.me = x.me)
    (hnum : (resultElems (accMode t.task) p).any (fun v => nonfinite32 v.1) = true → q.num.nonFinite = true) :
    MatmulEnded u t first p endAt stall x (endMatmul u t first p endAt stall q) := by
  have hown := SMap.get_modify_same q.me u {} (fun m => MeUnit.finished t (accLast t.task first p (resultElems (accMode t.task) p))
    (leftSlots q t.task p) endAt stall (MeUnit.counted p m))
  rw [← endMatmul_me, hme] at hown
  unfold MatmulEnded
  dsimp only
  rw [hown]
  refine ⟨finishTask_done _ _ _ _ _, rfl, rfl, rfl, rfl, rfl, rfl, fun hslots => ?_, fun k hk => ?_, fun hres => ?_⟩
  · have hleft : leftSlots q t.task p = slotSet (accMode t.task) p.attempt (lambdaOf (accMode t.task) p.attempt) p.pairs := by
      unfold leftSlots
      simp only [hslots, Bool.and_eq_true, decide_eq_true_eq, if_false]
    rw [← hleft]
    exact SMap.find?_insert_same _ _ _
  · rw [endMatmul_me, SMap.get_modify_other _ _ _ hk, hme]
  · rw [endMatmul_num]
    exact hnum hres

end

/-! ## The output actions (R189 to R193) -/

theorem applyAction_none {t : RunTask} (h : outAction t.task = 0) (who : Nat) (i : Image) (rb : List (Header × Bytes))
    (res : List (Nat × Bool)) (s : State) : applyAction who i t rb res s = (true, s) := by
  unfold applyAction
  simp only [h]

theorem applyAction_stream {t : RunTask} (h : outAction t.task = 4) (who : Nat) (i : Image) (rb : List (Header × Bytes))
    (res : List (Nat × Bool)) (s : State) :
    applyAction who i t rb res s = (true, streamOut i t (res.map (·.1)) (res.any (·.2)) s) := by
  unfold applyAction
  simp only [h]

/-- STORE, RB_STORE and RB_ADD each write one tile, narrowed from elements of their own. -/
theorem applyAction_write {i : Image} {t : RunTask} {r : TileRef} (hlow : 1 ≤ outAction t.task) (hhigh : outAction t.task ≤ 3)
    (hr : outRef i t = some r) (who : Nat) (rb : List (Header × Bytes)) (res : List (Nat × Bool)) (s : State) :
    ∃ xs sat, applyAction who i t rb res s = writeOutput who i t r xs sat s := by
  have hcases : outAction t.task = 1 ∨ outAction t.task = 2 ∨ outAction t.task = 3 := by omega
  unfold applyAction
  obtain h | h | h := hcases <;> simp only [h, hr] <;> exact ⟨_, _, rfl⟩

theorem streamOut_eq {i : Image} {t : RunTask} {a b : EngineEntry} (ha : i.engines[t.task.le]? = some a)
    (hb : i.engines[a.chain]? = some b) (xs : List Nat) (sat : Bool) (s : State) : streamOut i t xs sat s
      = updVeUnit (2 * engineDie s b + b.unit) (fun v => { v with stream := v.stream ++ [streamTileOf s t xs sat] }) s := by
  unfold streamOut
  simp only [ha, hb, Option.bind_some]

/-- An output tile in T1: the write is taken and noted at its buoy and in the numerics, and no engine changes. -/
theorem writeOutput_t1 {r : TileRef} {s : State} {a : Nat} (h : (buoyOf s r.entry.id).auth.place = .t1 a) (who : Nat) (i : Image)
    (t : RunTask) (xs : List Nat) (sat : Bool) : ∃ q, writeOutput who i t r xs sat s = (true, q)
      ∧ q = { s with lpd := q.lpd, ple := q.ple, num := q.num, out := q.out } ∧ (s.num.nonFinite = true → q.num.nonFinite = true)
      ∧ (buoyOf q r.entry.id).lastEpoch = jobStep s % 2 ^ 32 ∧ (buoyOf q r.entry.id).retained = [] := by
  unfold writeOutput
  dsimp only
  generalize narrowFor s i r.entry r.tile (jobStep s) 0 (payloadField t.task 79 64) (t.task.payload.testBit 12) xs = w
  obtain ⟨q, hq, hframe, hbuoy⟩ := writeTile_t1 (s := { s with num := NumState.note s.num i r.entry w }) h who (some t.task.le) r.tile
    (if sat then flagSaturated w.tile else w.tile)
  refine ⟨q, hq, ?_, fun hn => ?_, ?_, ?_⟩
  · rw [hframe]
  · rw [hframe]
    simp [NumState.note, hn]
  · rw [hbuoy]
    rfl
  · rw [hbuoy]
    rfl

/-! ## The task with each action -/

section
variable {i : Image} {t : RunTask} (u first : Nat) (p : Product) (rb : List (Header × Bytes)) (endAt stall : Nat) (x : State)

theorem finishMatmul_none (h : outAction t.task = 0) : let y := finishMatmul u i t first p rb endAt stall x
    MatmulEnded u t first p endAt stall x y ∧ y.lpd = x.lpd ∧ y.tst = x.tst ∧ y.ve = x.ve
      ∧ y.num = { x.num with nonFinite := x.num.nonFinite || (resultElems (accMode t.task) p).any (fun v => nonfinite32 v.1) } := by
  rw [finishMatmul_of_action u i t first p endAt stall (applyAction_none h _ _ _ _ _)]
  exact ⟨endMatmul_ended u t first p endAt stall (by simp) (fun hres => by simp [hres]), by simp, by simp, by simp, by simp⟩

theorem finishMatmul_stream {a b : EngineEntry} (h : outAction t.task = 4) (ha : i.engines[t.task.le]? = some a)
    (hb : i.engines[a.chain]? = some b) : let y := finishMatmul u i t first p rb endAt stall x
    let v := 2 * engineDie x b + b.unit
    let res := resultElems (accMode t.task) p
    MatmulEnded u t first p endAt stall x y ∧ y.lpd = x.lpd ∧ y.tst = x.tst
      ∧ (veUnit y v).stream = (veUnit x v).stream ++ [streamTileOf x t (res.map (·.1)) (res.any (·.2))]
      ∧ ∀ k, k ≠ v → veUnit y k = veUnit x k := by
  have hdie : engineDie (beforeAction u t first p x) b = engineDie x b := by simp [engineDie]
  have htile : ∀ xs sat, streamTileOf (beforeAction u t first p x) t xs sat = streamTileOf x t xs sat := by simp [streamTileOf, jobStep]
  rw [finishMatmul_of_action u i t first p endAt stall (applyAction_stream h _ _ _ _ _), streamOut_eq ha hb, hdie, htile]
  refine ⟨endMatmul_ended u t first p endAt stall (by simp) (fun hres => by simp [hres]), by simp, by simp, ?_, fun k hk => ?_⟩
  · simp [veUnit, updVeUnit]
  · simp [veUnit, updVeUnit, hk]

theorem finishMatmul_write {r : TileRef} {a : Nat} (hlow : 1 ≤ outAction t.task) (hhigh : outAction t.task ≤ 3) (hr : outRef i t = some r)
    (hplace : (buoyOf x r.entry.id).auth.place = .t1 a) : let y := finishMatmul u i t first p rb endAt stall x
    MatmulEnded u t first p endAt stall x y ∧ y.ve = x.ve ∧ y.tst = x.tst
      ∧ (buoyOf y r.entry.id).lastEpoch = jobStep x % 2 ^ 32 ∧ (buoyOf y r.entry.id).retained = [] := by
  have hstep : jobStep (beforeAction u t first p x) = jobStep x := by simp [jobStep]
  have hstart : (buoyOf (beforeAction u t first p x) r.entry.id).auth.place = .t1 a := by simpa [buoyOf] using hplace
  obtain ⟨xs, sat, hwrite⟩ := applyAction_write hlow hhigh hr (meCode u) rb (resultElems (accMode t.task) p) (beforeAction u t first p x)
  obtain ⟨q, hq, hframe, hnum, hepoch, hretained⟩ := writeOutput_t1 hstart (meCode u) i t xs sat
  rw [hstep] at hepoch
  rw [finishMatmul_of_action u i t first p endAt stall (hwrite.trans hq)]
  have hbuoy : buoyOf (endMatmul u t first p endAt stall q) r.entry.id = buoyOf q r.entry.id := by simp [buoyOf]
  refine ⟨endMatmul_ended u t first p endAt stall ?_ (fun hres => hnum (by simp [hres])), ?_, ?_, ?_, ?_⟩
  · rw [hframe, beforeAction_me]
  · rw [endMatmul_ve, hframe, beforeAction_ve]
  · rw [endMatmul_tst, hframe, beforeAction_tst]
  · rw [hbuoy, hepoch]
  · rw [hbuoy, hretained]

end

/-- Settles O36: by the products' stop or else by the output action, each of which leaves the matrix engines to the task's end. -/
theorem matmulCompletes : Obligations.MatmulCompletes := by
  unfold Obligations.MatmulCompletes
  intro die half endAt stall s x i t os ts u c htask hend hos hts ab m e p res ends
  have hexec : exec c s = _ := exec_matmul_good htask hend hos hts stall
  have hfinish : p.stopped = false → exec c s = .next (finishMatmul u i t e.attempt p (ts.drop (2 * kTiles t.task)) endAt stall x) :=
    fun hstop => by rw [hexec, computeMatmul_finishes rfl hstop]
  refine ⟨⟨_, hexec, fun hstop => ?_⟩, fun hstop hact => ⟨_, hfinish hstop, finishMatmul_none u e.attempt p _ endAt stall x hact⟩,
    fun a b hstop hact ha hb => ⟨_, hfinish hstop, finishMatmul_stream u e.attempt p _ endAt stall x hact ha hb⟩,
    fun r a hstop hlow hhigh hr hplace => ⟨_, hfinish hstop, finishMatmul_write u e.attempt p _ endAt stall x hlow hhigh hr hplace⟩⟩
  rw [computeMatmul_stopped rfl hstop]
  exact excessFault_acts u t e.attempt p x

end Sys2Proof.Machine
end

section
/-! SUPPORT. The engines of chapter 08: what a task's end leaves to them (R71, R504), and one engine read after one update. -/
namespace Sys2Proof.Machine

/-! ## What a task's end leaves -/

section
variable (who le idx endAt : Nat) (s : State)

@[simp] theorem finishTask_num : (finishTask who le idx endAt s).num = s.num := by rw [finishTask_frame]
@[simp] theorem finishTask_me : (finishTask who le idx endAt s).me = s.me := by rw [finishTask_frame]
@[simp] theorem finishTask_ve : (finishTask who le idx endAt s).ve = s.ve := by rw [finishTask_frame]
@[simp] theorem finishTask_ae : (finishTask who le idx endAt s).ae = s.ae := by rw [finishTask_frame]
@[simp] theorem finishTask_gse : (finishTask who le idx endAt s).gse = s.gse := by rw [finishTask_frame]
@[simp] theorem finishTask_lye : (finishTask who le idx endAt s).lye = s.lye := by rw [finishTask_frame]
@[simp] theorem finishTask_tst : (finishTask who le idx endAt s).tst = s.tst := by rw [finishTask_frame]
@[simp] theorem finishTask_lpd : (finishTask who le idx endAt s).lpd = s.lpd := by rw [finishTask_frame]

end

/-! ## Reading one engine after one update -/

@[simp] theorem get_updAe_same (die : Nat) (f : SeqUnit → SeqUnit) (s : State) :
    SMap.get (updAe die f s).ae die {} = f (SMap.get s.ae die {}) := SMap.get_modify_same _ _ _ _
@[simp] theorem get_updAe_other {die k : Nat} (f : SeqUnit → SeqUnit) (s : State) (h : k ≠ die) :
    SMap.get (updAe die f s).ae k {} = SMap.get s.ae k {} := SMap.get_modify_other _ _ _ h
@[simp] theorem get_updGse_same (die : Nat) (f : SeqUnit → SeqUnit) (s : State) :
    SMap.get (updGse die f s).gse die {} = f (SMap.get s.gse die {}) := SMap.get_modify_same _ _ _ _
@[simp] theorem get_updGse_other {die k : Nat} (f : SeqUnit → SeqUnit) (s : State) (h : k ≠ die) :
    SMap.get (updGse die f s).gse k {} = SMap.get s.gse k {} := SMap.get_modify_other _ _ _ h
@[simp] theorem get_updLye_same (die : Nat) (f : SeqUnit → SeqUnit) (s : State) :
    SMap.get (updLye die f s).lye die {} = f (SMap.get s.lye die {}) := SMap.get_modify_same _ _ _ _
@[simp] theorem get_updLye_other {die k : Nat} (f : SeqUnit → SeqUnit) (s : State) (h : k ≠ die) :
    SMap.get (updLye die f s).lye k {} = SMap.get s.lye k {} := SMap.get_modify_other _ _ _ h

end Sys2Proof.Machine
end

section
/-! SUPPORT. FWD and BWD of the attention engine (R285, R292 to R296): the blocks, the chain's context, and the task's end. -/
namespace Sys2Proof.Machine

/-! ## Skipped blocks (R292) -/

section
variable {t : RunTask} {mask : List Nat} {j : Nat} (h : skipsBlock t.task mask j = true) (die : Nat) (i : Image)
  (ops : List (Header × Bytes)) (n : Nat) (s : State)
include h

theorem forwardBlocks_skip :
    forwardBlocks die i t mask ops (n + 1) j s = forwardBlocks die i t mask ops n (j + 1) (skipBlock die t.task j s) := by
  simp only [forwardBlocks, h, if_true]

theorem backwardBlocks_skip :
    backwardBlocks die i t mask ops (n + 1) j s = backwardBlocks die i t mask ops n (j + 1) (skipBlock die t.task j s) := by
  simp only [backwardBlocks, h, if_true]

end

theorem skipBlock_frame (die : Nat) (t : TaskEntry) (j : Nat) (s : State) : skipBlock die t j s = { s with ae := (skipBlock die t j s).ae } := rfl

/-! ## The task's end -/

/-- The task is complete at r, its blocks done at w: its place in the beam, its engine's registers and its chain's context (R285); the
other attention engines, the memories and the numerics stay. -/
def AttentionEnded (die : Nat) (t : RunTask) (endAt : Nat) (w : State) (ctx : AeCtx) (r : State) : Prop :=
  let m := SMap.get r.ae die {}
  (t.task.le, t.task.idx) ∈ r.beam.done ∧ m.run = none ∧ m.item = aeCount t.task - 1 ∧ m.phase = 0
    ∧ m.count = (SMap.get w.ae die {}).count ∧ m.busy = addBusy (SMap.get w.ae die {}).busy t.start endAt
    ∧ SMap.get m.ctx (aeCtxNo t.task) {} = ctx ∧ (∀ k, k ≠ die → SMap.get r.ae k {} = SMap.get w.ae k {})
    ∧ r.lpd = w.lpd ∧ r.tst = w.tst ∧ r.me = w.me ∧ r.ve = w.ve ∧ r.num = w.num

/-- The end keeps the context that it finds. -/
theorem endAttention_ended (die : Nat) (t : RunTask) (endAt : Nat) (s : State) :
    AttentionEnded die t endAt s (SMap.get (SMap.get s.ae die {}).ctx (aeCtxNo t.task) {}) (endAttention die t endAt s) := by
  have hae : (endAttention die t endAt s).ae = (updAe die (SeqUnit.finished t (aeCount t.task) endAt) s).ae := finishTask_ae _ _ _ _ _
  unfold AttentionEnded
  rw [hae, get_updAe_same]
  exact ⟨finishTask_done _ _ _ _ _, rfl, rfl, rfl, rfl, rfl, rfl, fun k hk => get_updAe_other _ _ hk, finishTask_lpd _ _ _ _ _,
    finishTask_tst _ _ _ _ _, finishTask_me _ _ _ _ _, finishTask_ve _ _ _ _ _, finishTask_num _ _ _ _ _⟩

theorem keepCtx_unit (die : Nat) (t : TaskEntry) (s : State) : SMap.get (keepCtx die t s).ae die {} = { SMap.get s.ae die {} with
    ctx := SMap.set (SMap.get s.ae die {}).ctx (aeCtxNo t) (ctxFor s (SMap.get s.ae die {}) t) {} } := get_updAe_same _ _ _

/-- A chain that goes on: the end comes where the task has left it its context. -/
theorem endAttention_keepCtx_ended (die : Nat) (t : RunTask) (endAt : Nat) (s : State) :
    AttentionEnded die t endAt s (ctxFor s (SMap.get s.ae die {}) t.task) (endAttention die t endAt (keepCtx die t.task s)) := by
  obtain ⟨hdone, hrun, hitem, hphase, hcount, hbusy, hctx, hothers, hframe⟩ := endAttention_ended die t endAt (keepCtx die t.task s)
  rw [keepCtx_unit] at hcount hbusy hctx
  rw [SMap.get_set_same] at hctx
  exact ⟨hdone, hrun, hitem, hphase, hcount, hbusy, hctx, fun k hk => (hothers k hk).trans (get_updAe_other _ _ hk), hframe⟩

/-! ## FINISH -/

theorem closeCtx_free (die : Nat) (t : TaskEntry) (s : State) :
    SMap.get (SMap.get (closeCtx die t s).ae die {}).ctx (aeCtxNo t) {} = {} := by
  simp only [closeCtx, get_updAe_same, SMap.get_set_same]

/-- Tiles that were written leave the chain's end; tiles that were refused end the task's run. -/
theorem finishForward_frees {die : Nat} {i : Image} {t : RunTask} {s w : State} (h : finishForward die i t s = (true, w)) :
    SMap.get (SMap.get w.ae die {}).ctx (aeCtxNo t.task) {} = {} := by
  unfold finishForward at h
  dsimp only at h
  split at h
  · split at h
    · split at h
      · split at h
        · obtain rfl := (Prod.mk.inj h).2
          exact closeCtx_free _ _ _
        · next hrefused => exact absurd h (hrefused _)
      · next hrefused => exact absurd h (hrefused _)
    · cases h
  · cases h

theorem finishBackward_frees {die : Nat} {i : Image} {t : RunTask} {s w : State} (h : finishBackward die i t s = (true, w)) :
    SMap.get (SMap.get w.ae die {}).ctx (aeCtxNo t.task) {} = {} := by
  unfold finishBackward at h
  dsimp only at h
  split at h
  · split at h
    · obtain rfl := (Prod.mk.inj h).2
      exact closeCtx_free _ _ _
    · next hrefused => exact absurd h (hrefused _)
  · cases h

/-! ## From the command to the blocks -/

/-- FINISH of a chain, by its direction. -/
def finishAttention (die : Nat) (i : Image) (t : RunTask) (s : State) : Bool × State :=
  if isBwd t.task then finishBackward die i t s else finishForward die i t s

theorem finishAttention_frees {die : Nat} {i : Image} {t : RunTask} {s w : State} (h : finishAttention die i t s = (true, w)) :
    SMap.get (SMap.get w.ae die {}).ctx (aeCtxNo t.task) {} = {} := by
  unfold finishAttention at h
  split at h
  · exact finishBackward_frees h
  · exact finishForward_frees h

/-- The command of the task's direction, its fixed operands and its mask read at y, and its blocks done at z. -/
theorem exec_attention_blocks {die : Fin 8} {endAt : Nat} {s x y z : State} {i : Image} {t : RunTask} {ops ms : List (Header × Bytes)}
    (htask : seqTask s (SMap.get s.ae die {}) = some (i, t)) (hend : endAt < periodOf s.live)
    (hops : aeTiles die t (if isBwd t.task then kvRefs i t (aeFix t.task) else qRefs i t (aeFix t.task)) s = (some ops, x))
    (hms : aeTiles die t (maskRefs i t) x = (some ms, y))
    (hblocks : (if isBwd t.task
        then backwardBlocks die i t (maskElems ms) ops (aeCount t.task - (SMap.get y.ae die {}).item) (SMap.get y.ae die {}).item y
        else forwardBlocks die i t (maskElems ms) ops (aeCount t.task - (SMap.get y.ae die {}).item) (SMap.get y.ae die {}).item y)
      = (true, z)) :
    exec (if isBwd t.task then Instr.bwd die endAt else Instr.fwd die endAt) s
      = .next (closeAttention die t endAt (fun r => finishAttention die i t r.2) (true, z)) := by
  have hmay : mayEnd s endAt = true := decide_eq_true hend
  cases hdir : isBwd t.task
  case true =>
    simp only [hdir, if_true] at hops hblocks ⊢
    change execBwd die endAt s = _
    unfold execBwd runBackward
    simp only [htask, hmay, hdir, hops, hms, hblocks, finishAttention, Bool.and_self, if_true]
  case false =>
    simp only [hdir, Bool.false_eq_true, if_false] at hops hblocks ⊢
    change execFwd die endAt s = _
    unfold execFwd runForward
    simp only [htask, hmay, hdir, hops, hms, hblocks, finishAttention, Bool.not_false, Bool.and_self, if_true, Bool.false_eq_true, if_false]

/-- Settles O37: by FINISH, before which the context is the chain's and after which it is free. -/
theorem attentionTasksComplete : Obligations.AttentionTasksComplete := by
  unfold Obligations.AttentionTasksComplete
  intro die endAt s x y z i t ops ms htask hend hops hms j c hblocks ends
  have hexec : exec c s = _ := exec_attention_blocks htask hend hops hms hblocks
  refine ⟨fun hchain => ⟨_, hexec, ?_⟩, fun w hfinish hfin => ⟨_, hexec, ?_⟩, fun k n q hskip =>
    ⟨forwardBlocks_skip hskip die i ops n q, backwardBlocks_skip hskip die i ops n q, skipBlock_frame die t.task k q, ?_⟩⟩
  · simp only [closeAttention, hchain, Bool.false_eq_true, if_false]
    exact endAttention_keepCtx_ended die t endAt z
  · have hfree : finishAttention die i t (keepCtx die t.task z) = (true, w) := hfin
    simp only [closeAttention, hfinish, if_true, hfree]
    have hended := endAttention_ended die t endAt w
    rw [finishAttention_frees hfree] at hended
    exact hended
  · simp only [skipBlock, get_updAe_same, and_self]

end Sys2Proof.Machine
end

section
/-! SUPPORT. Tiles that pass their checks at use (R178 to R180): however they were read, the live set stays, and with it the period that a
task's end is held to (R72). -/
namespace Sys2Proof.Machine

/-! ## Reads of the memories -/

@[simp] theorem raiseFault_live (code : Nat) (d : Bytes) (s : State) : (raiseFault code d s).live = s.live := by
  obtain ⟨-, hframe, -⟩ := raiseFault_faulted code d s
  rw [hframe]
  rfl

@[simp] theorem countDecoded_live (b : Bytes) (s : State) : (countDecoded b s).live = s.live := by
  unfold countDecoded
  split <;> rfl

@[simp] theorem countServed_live (tier budget : Nat) (s : State) : (countServed tier budget s).live = s.live := rfl

@[simp] theorem noteEcc_live (n w : Nat) (s : State) : (noteEcc n w s).live = s.live := by
  unfold noteEcc
  split
  · rfl
  · rfl
  · exact record_live _ _ _

@[simp] theorem readWords_live (n : Nat) (ws : List Nat) (s : State) : (readWords n ws s).2.live = s.live := by
  unfold readWords
  induction ws generalizing s with
  | nil => rfl
  | cons w ws ih => exact (ih _).trans (noteEcc_live n w s)

@[simp] theorem t0Read_live (n m first k j len : Nat) (s : State) : (t0Read n m first k j len s).2.live = s.live := by
  unfold t0Read
  split
  · exact raiseFault_live _ _ _
  · split
    · exact raiseFault_live _ _ _
    · exact readWords_live _ _ _

@[simp] theorem t1Read_live (who a n : Nat) (s : State) : (t1Read who a n s).2.live = s.live := by
  unfold t1Read
  split
  · rfl
  · split
    · rfl
    · exact raiseFault_live _ _ _

/-! ## A tile fetched -/

theorem fetchT0_live (who store first count word pitch tile : Nat) (s : State) :
    (fetchT0 who store first count word pitch tile s).2.live = s.live := by
  have hread := t0Read_live store (masterAt who store) first count (tileWord word pitch tile) (pitch / 64) s
  unfold fetchT0
  split <;> next hr => rwa [hr] at hread

theorem fetchT1_live (who offset pitch tile : Nat) (compressed : Bool) (s : State) :
    (fetchT1 who offset pitch tile compressed s).2.live = s.live := by
  unfold fetchT1
  split
  · exact (countDecoded_live _ _).trans (t1Read_live _ _ _ _)
  · exact t1Read_live _ _ _ _

theorem fetchDeep_live (n pitch tile : Nat) (s : State) : (fetchDeep n pitch tile s).2.live = s.live := by
  unfold fetchDeep
  split
  · exact countDecoded_live _ _
  · rfl

/-- A tile of the owner's mooring is one that has arrived; one that is asked for is waited for. -/
theorem fetchOwner_tile_live {le : Option Nat} {e : BuoyEntry} {tile m : Nat} {use : ReqUse} {s x : State} {b : Bytes}
    (h : fetchOwner le e tile m use s = (.tile b, x)) : x.live = s.live := by
  unfold fetchOwner at h
  split at h
  · obtain rfl := (Prod.mk.inj h).2
    exact countDecoded_live _ _
  · cases (Prod.mk.inj h).1

theorem fetchFrom_tile_live {who : Nat} {le : Option Nat} {e : BuoyEntry} {tile : Nat} {mo : Mooring} {use : ReqUse} {s x : State}
    {b : Bytes} (h : fetchFrom who le e tile mo use s = (.tile b, x)) : x.live = s.live := by
  have hend {r : Fetched × State} (hr : r = (.tile b, x)) (hlive : r.2.live = s.live) : x.live = s.live := by rwa [hr] at hlive
  unfold fetchFrom at h
  split at h
  · exact hend h (fetchT0_live _ _ _ _ _ _ _ _)
  · exact hend h (fetchT1_live _ _ _ _ _ _)
  · exact fetchOwner_tile_live h
  · exact hend h (fetchDeep_live _ _ _ _)

theorem fetchTile_tile_live {who le : Nat} {e : BuoyEntry} {tile budget : Nat} {s x : State} {b : Bytes}
    (h : fetchTile who le e tile budget s = (.tile b, x)) : x.live = s.live := by
  unfold fetchTile at h
  dsimp only at h
  split at h
  · next hb =>
    obtain rfl := (Prod.mk.inj h).2
    exact (countServed_live _ _ _).trans (fetchFrom_tile_live (Prod.ext hb rfl))
  · next hnone => exact absurd (Prod.mk.inj h).1 (hnone _)

/-! ## Tiles used -/

theorem checkHeader_good {who idFault : Nat} {e : BuoyEntry} {tile : Nat} {b c : Bytes} {h : Header} {s x : State}
    (hgood : checkHeader who idFault e tile b s = (.good h c, x)) : x = s := by
  unfold checkHeader at hgood
  dsimp only at hgood
  split at hgood
  · cases (Prod.mk.inj hgood).1
  · split at hgood
    · cases (Prod.mk.inj hgood).1
    · exact (Prod.mk.inj hgood).2.symm

theorem useTile_good_live {who le crcEvent idFault : Nat} {e : BuoyEntry} {tile budget : Nat} {h : Header} {b : Bytes} {s x : State}
    (hgood : useTile who le crcEvent idFault e tile budget s = (.good h b, x)) : x.live = s.live := by
  unfold useTile at hgood
  split at hgood
  · next hfetch => rw [checkHeader_good hgood, fetchTile_tile_live hfetch]
  · cases (Prod.mk.inj hgood).1
  · cases (Prod.mk.inj hgood).1
  · cases (Prod.mk.inj hgood).1

theorem useTiles_all_live {who le crcEvent idFault : Nat} {rs : List TileRef} {ts : List (Header × Bytes)} {s x : State}
    (h : useTiles who le crcEvent idFault rs s = (.all ts, x)) : x.live = s.live := by
  induction rs generalizing ts s x with
  | nil =>
    obtain rfl := (Prod.mk.inj h).2
    rfl
  | cons r rs ih =>
    unfold useTiles at h
    split at h
    · next hgood =>
      split at h
      · next hrest =>
        obtain rfl := (Prod.mk.inj h).2
        exact (ih hrest).trans (useTile_good_live hgood)
      · cases (Prod.mk.inj h).1
      · next hnone _ => exact absurd h (hnone _ _)
    · cases (Prod.mk.inj h).1
    · cases (Prod.mk.inj h).1
    · cases (Prod.mk.inj h).1

theorem seqTiles_some_live {who : Nat} {upd : (SeqUnit → SeqUnit) → State → State} {t : RunTask} {rs : List TileRef}
    {ts : List (Header × Bytes)} {s x : State} (h : seqTiles who upd t rs s = (some ts, x)) : x.live = s.live := by
  unfold seqTiles at h
  split at h
  · next hall =>
    obtain rfl := (Prod.mk.inj h).2
    exact useTiles_all_live hall
  · cases (Prod.mk.inj h).1
  · cases (Prod.mk.inj h).1
  · cases (Prod.mk.inj h).1

end Sys2Proof.Machine
end

section
/-! SUPPORT. GATHER and SCATTER_ADD of the gather-scatter engine (R303 to R305): the indices, the rows that a window takes, and the task's
end. -/
namespace Sys2Proof.Machine

/-! ## Elements of two lists joined, and of a list with a run replaced -/

theorem getD_append_front {α : Type} {xs : List α} {k : Nat} (h : k < xs.length) (ys : List α) (d : α) :
    (xs ++ ys).getD k d = xs.getD k d := by
  rw [List.getD_eq_getElem?_getD, List.getElem?_append_left h, List.getD_eq_getElem?_getD]

theorem getD_append_back {α : Type} {xs : List α} {k : Nat} (h : xs.length ≤ k) (ys : List α) (d : α) :
    (xs ++ ys).getD k d = ys.getD (k - xs.length) d := by
  rw [List.getD_eq_getElem?_getD, List.getElem?_append_right h, List.getD_eq_getElem?_getD]

theorem getD_splice_outside {α : Type} {xs ys : List α} {o k : Nat} (h : k < o ∨ o + ys.length ≤ k) (hreach : o + ys.length ≤ xs.length)
    (d : α) : (splice xs o ys).getD k d = xs.getD k d := by
  have htake : (xs.take o).length = o := List.length_take_of_le (by omega)
  have hfit : ys.take (xs.length - o) = ys := List.take_of_length_le (by omega)
  unfold splice
  rw [hfit, List.append_assoc]
  obtain hbefore | hafter := h
  · rw [getD_append_front (by omega)]
    simp only [List.getD_eq_getElem?_getD, List.getElem?_take_of_lt hbefore]
  · rw [getD_append_back (by omega), getD_append_back (by omega), htake]
    have hpos : o + ys.length + (k - o - ys.length) = k := by omega
    simp only [List.getD_eq_getElem?_getD, List.getElem?_drop, hpos]

theorem getD_splice_inside {α : Type} {xs ys : List α} {o k : Nat} (hlow : o ≤ k) (hhigh : k < o + ys.length)
    (hreach : o + ys.length ≤ xs.length) (d : α) : (splice xs o ys).getD k d = ys.getD (k - o) d := by
  have htake : (xs.take o).length = o := List.length_take_of_le (by omega)
  have hfit : ys.take (xs.length - o) = ys := List.take_of_length_le (by omega)
  unfold splice
  rw [hfit, List.append_assoc, getD_append_back (by omega), htake, getD_append_front (by omega)]

/-! ## A row added into a window (R305) -/

section
variable {w base k : Nat} {win : List Nat} {v : Nat × List Nat}

/-- A row of padding, and one that lies outside the window or over its edge, leave the window. -/
theorem addRow_off (h : v.1 = padIndex ∨ v.1 * w < base ∨ base + win.length < v.1 * w + w) : addRow w base win v = win := by
  unfold addRow
  rw [if_pos]
  simpa only [Bool.or_eq_true, decide_eq_true_eq, or_assoc] using h

theorem addRow_on (hrow : v.1 ≠ padIndex) (hlow : base ≤ v.1 * w) (hhigh : v.1 * w + w ≤ base + win.length) :
    addRow w base win v = splice win (v.1 * w - base) (List.zipWith add32 ((win.drop (v.1 * w - base)).take w) v.2) := by
  unfold addRow
  rw [if_neg]
  simp only [Bool.or_eq_true, decide_eq_true_eq, hrow, false_or, not_or, Nat.not_lt]
  exact ⟨hlow, hhigh⟩

/-- The row's sums are as many as its elements, and the window reaches as far. -/
theorem rowSums_length (hw : v.2.length = w) {o : Nat} (h : o + w ≤ win.length) :
    (List.zipWith add32 ((win.drop o).take w) v.2).length = w := by
  simp only [List.length_zipWith, List.length_take, List.length_drop, hw]
  omega

theorem addRow_outside (hw : v.2.length = w) (h : v.1 = padIndex ∨ base + k < v.1 * w ∨ v.1 * w + w ≤ base + k) :
    (addRow w base win v).getD k 0 = win.getD k 0 := by
  by_cases hoff : v.1 = padIndex ∨ v.1 * w < base ∨ base + win.length < v.1 * w + w
  · rw [addRow_off hoff]
  · obtain ⟨hrow, hlow, hhigh⟩ : v.1 ≠ padIndex ∧ base ≤ v.1 * w ∧ v.1 * w + w ≤ base + win.length := by
      simpa only [ne_eq, not_or, Nat.not_lt] using hoff
    have hreach : v.1 * w - base + w ≤ win.length := by omega
    have hlen := rowSums_length hw hreach
    rw [addRow_on hrow hlow hhigh]
    refine getD_splice_outside ?_ (by omega) 0
    have hout := h.resolve_left hrow
    omega

theorem addRow_inside (hw : v.2.length = w) (hrow : v.1 ≠ padIndex) (hlow : base ≤ v.1 * w) (hhigh : v.1 * w + w ≤ base + win.length)
    (hfrom : v.1 * w ≤ base + k) (hto : base + k < v.1 * w + w) :
    (addRow w base win v).getD k 0 = add32 (win.getD k 0) (v.2.getD (base + k - v.1 * w) 0) := by
  have hreach : v.1 * w - base + w ≤ win.length := by omega
  have hlen := rowSums_length hw hreach
  have hpos : k - (v.1 * w - base) = base + k - v.1 * w := by omega
  have hback : v.1 * w - base + (base + k - v.1 * w) = k := by omega
  have hin : base + k - v.1 * w < w := by omega
  rw [addRow_on hrow hlow hhigh, getD_splice_inside (by omega) (by omega) (by omega), hpos]
  have hwin : k < win.length := by omega
  have hv : base + k - v.1 * w < v.2.length := by omega
  simp only [List.getD_eq_getElem?_getD, List.getElem?_zipWith, List.getElem?_take_of_lt hin, List.getElem?_drop, hback,
    List.getElem?_eq_getElem hwin, List.getElem?_eq_getElem hv, Option.getD_some]

end

/-! ## The task's end -/

/-- The task is complete at r, its n padding rows counted, its tiles written at q; the other gather-scatter engines, the memories, the
other engines and the numerics stay. -/
def GatherEnded (die : Nat) (t : RunTask) (n : Nat) (q r : State) : Prop :=
  let m := SMap.get r.gse die {}
  (t.task.le, t.task.idx) ∈ r.beam.done ∧ m.run = none ∧ m.count = satAdd 32 (SMap.get q.gse die {}).count n
    ∧ (∀ k, k ≠ die → SMap.get r.gse k {} = SMap.get q.gse k {})
    ∧ r.lpd = q.lpd ∧ r.tst = q.tst ∧ r.me = q.me ∧ r.ve = q.ve ∧ r.ae = q.ae ∧ r.num = q.num

theorem endGather_ended (die : Nat) (t : RunTask) (n endAt : Nat) (q : State) : GatherEnded die t n q (endGather die t n endAt q) := by
  have hgse : (endGather die t n endAt q).gse
      = (updGse die (fun m => { SeqUnit.finished t 1 endAt m with count := satAdd 32 m.count n, item := 0, busy := m.busy }) q).gse :=
    finishTask_gse _ _ _ _ _
  unfold GatherEnded
  rw [hgse, get_updGse_same]
  exact ⟨finishTask_done _ _ _ _ _, rfl, rfl, fun k hk => get_updGse_other _ _ hk, finishTask_lpd _ _ _ _ _, finishTask_tst _ _ _ _ _,
    finishTask_me _ _ _ _ _, finishTask_ve _ _ _ _ _, finishTask_ae _ _ _ _ _, finishTask_num _ _ _ _ _⟩

/-! ## From the command to the rows -/

section
variable {die : Fin 8} {s x : State} {i : Image} {t : RunTask} {rs : List TileRef} {ts : List (Header × Bytes)}

/-- What a task does once its indices are checked. -/
def gseRows (die : Nat) (i : Image) (t : RunTask) (endAt : Nat) (xs : List Nat) (s : State) : State :=
  if isScatter t.task then scatterRows die i t xs endAt s else gatherRows die i t xs endAt s

theorem exec_gse (htask : seqTask s (SMap.get s.gse die {}) = some (i, t)) (endAt : Nat) :
    exec (if isScatter t.task then Instr.scatterAdd die endAt else Instr.gather die endAt) s
      = .next (runGse die i t endAt (gseRows die i t endAt) s) := by
  cases hop : isScatter t.task
  case true =>
    change execScatterAdd die endAt s = _
    unfold execScatterAdd gseRows
    simp only [htask, hop, if_true]
  case false =>
    change execGather die endAt s = _
    unfold execGather gseRows
    simp only [htask, hop, Bool.false_eq_true, if_false]

theorem gseRows_gather {y z : State} {xs : List Nat} {ks os : List TileRef} {tiles : List (Header × Bytes)} {endAt die : Nat}
    (hop : isScatter t.task = false) (hks : (tableTiles t.task xs).mapM (buoyTileRef i t (tableAcc t.task)) = some ks)
    (hos : elemRefs i t (dataAcc t.task) (gseRow0 t.task * rowWidth t.task) (gseCount t.task * rowWidth t.task) = some os)
    (htiles : seqTiles (gseCode die) (updGse die) t ks x = (some tiles, y))
    (hwrite : writeAllCopied (gseCode die) i t (gseOrdinal t.task) false
      (fun r e => e.plain && r.entry.format == accFormat i t (tableAcc t.task)) os
      (tilesFrom os.length (xs.flatMap (gatherRow t.task
        (((tableTiles t.task xs).zip tiles).foldl (fun m v => SMap.insert m v.1 (srcElems v.2.1 v.2.2)) [])))) y = (true, z)) :
    gseRows die i t endAt xs x = endGather die t (padRows xs) endAt z := by
  unfold gseRows gatherRows
  simp only [hop, hks, hos, htiles, hwrite, Bool.false_eq_true, if_false]

theorem gseRows_scatter {y z : State} {xs : List Nat} {ds ss : List TileRef} {tiles : List (Header × Bytes)} {endAt die : Nat}
    (hop : isScatter t.task = true)
    (hds : tileRefs i t (tableAcc t.task) ((List.range (payloadField t.task 139 135)).map (· + payloadField t.task 159 140)) = some ds)
    (hss : elemRefs i t (dataAcc t.task) (gseRow0 t.task * rowWidth t.task) (gseCount t.task * rowWidth t.task) = some ss)
    (htiles : seqTiles (gseCode die) (updGse die) t (ds ++ ss) x = (some tiles, y))
    (hwrite : scatterWindow die i t ds (tilesFrom ds.length ((xs.zip (sourceRows t (tiles.drop ds.length))).foldl
      (addRow (rowWidth t.task) (windowElems t).1) ((tiles.take ds.length).flatMap (fun v => tileElems v.2)))) y = (true, z)) :
    gseRows die i t endAt xs x = endGather die t (padRows xs) endAt z := by
  unfold gseRows scatterRows
  simp only [hop, hds, hss, htiles, hwrite, if_true]

variable (hrs : elemRefs i t (payloadField t.task 43 41) (gseIdx0 t.task) (gseCount t.task) = some rs)
  (hts : seqTiles (gseCode die) (updGse die) t rs s = (some ts, x))
include hrs hts

theorem runGse_bad {b : Nat × Nat} (hbad : badIndex (tableRows i t) (gseIdx0 t.task) (gseIndices t ts) = some b) (endAt : Nat)
    (act : List Nat → State → State) :
    runGse die i t endAt act s = raiseFault 0x8801 (detail [(2, gseCode die), (2, t.task.idx), (4, b.1), (4, b.2)]) x := by
  unfold runGse
  simp only [hrs, hts, hbad]

theorem runGse_good (hgood : badIndex (tableRows i t) (gseIdx0 t.task) (gseIndices t ts) = none) {endAt : Nat}
    (hend : endAt < periodOf x.live) (act : List Nat → State → State) : runGse die i t endAt act s = act (gseIndices t ts) x := by
  have hmay : mayEnd s endAt = true := decide_eq_true (seqTiles_some_live hts ▸ hend)
  unfold runGse
  simp only [hrs, hts, hgood, hmay, if_true]

end

/-- Settles O38: by the check of the indices, then by the tiles that each operation reads and writes, and a row by its place in the window. -/
theorem gatherScatterTasksComplete : Obligations.GatherScatterTasksComplete := by
  unfold Obligations.GatherScatterTasksComplete
  intro die endAt s x i t rs ts htask hrs hts xs c w rows ends
  have hexec : exec c s = .next (runGse die i t endAt (gseRows die i t endAt) s) := exec_gse htask endAt
  have hgood (hnone : badIndex (tableRows i t) (gseIdx0 t.task) xs = none) (hend : endAt < periodOf x.live) :
      exec c s = .next (gseRows die i t endAt xs x) := by
    rw [hexec, runGse_good hrs hts hnone hend]
  refine ⟨?fault, ?gather, ?scatter, fun base win v k hw _ => ⟨addRow_outside hw, addRow_inside hw⟩⟩
  case fault =>
    intro b hbad
    refine ⟨_, hexec, ?_⟩
    rw [runGse_bad hrs hts hbad]
    exact raiseFault_faulted _ _ x
  case gather =>
    intro ks os y z tiles hop hnone hend hks hos htiles read hwrite
    refine ⟨_, hgood hnone hend, ?_⟩
    rw [gseRows_gather hop hks hos htiles hwrite]
    exact endGather_ended die t (padRows xs) endAt z
  case scatter =>
    intro ds ss y z tiles hop hnone hend hds hss htiles old new hwrite
    refine ⟨_, hgood hnone hend, ?_⟩
    rw [gseRows_scatter hop hds hss htiles hwrite]
    exact endGather_ended die t (padRows xs) endAt z

end Sys2Proof.Machine
end

section
/-! SUPPORT. The layout engine (R307, R308, Table 8.7): the rows and columns of a tile, the elements that each operation takes, and the
task's end. -/
namespace Sys2Proof.Machine

/-! ## Rows and columns of a tile -/

section
variable {α : Type}

/-- Rows of one width, one after another: an element by its row and its column. -/
theorem getD_flatMap_range {f : Nat → List α} {n w r c : Nat} (hlen : ∀ k < n, (f k).length = w) (hr : r < n) (hc : c < w) (d : α) :
    ((List.range n).flatMap f).getD (w * r + c) d = (f r).getD c d := by
  induction n with
  | zero => omega
  | succ n ih =>
    have hbefore : ∀ k < n, (f k).length = w := fun k hk => hlen k (by omega)
    have hwidths : (List.range n).map (fun k => (f k).length) = List.replicate n w := by
      rw [List.map_congr_left (fun k hk => hbefore k (List.mem_range.mp hk)), List.map_const', List.length_range]
    have hfront : ((List.range n).flatMap f).length = w * n := by
      rw [List.length_flatMap, hwidths, List.sum_replicate_nat, Nat.mul_comm]
    rw [List.range_succ, List.flatMap_append, List.flatMap_singleton]
    obtain hin | rfl := Nat.lt_succ_iff_lt_or_eq.mp hr
    · have hpos : w * r + c < w * n := calc
        w * r + c < w * (r + 1) := by rw [Nat.mul_add_one]; omega
        _ ≤ w * n := Nat.mul_le_mul_left w hin
      rw [getD_append_front (by omega), ih hbefore hin]
    · rw [getD_append_back (by omega), hfront, Nat.add_sub_cancel_left]

/-- Row r of a tile's elements. -/
def tileRow (xs : List α) (r : Nat) : List α := (xs.drop (128 * r)).take 128

theorem rowsOf_eq_map (n : Nat) (xs : List α) : rowsOf n xs = (List.range n).map (tileRow xs) := by
  induction n generalizing xs with
  | zero => rfl
  | succ n ih =>
    have hnext (r : Nat) : tileRow (xs.drop 128) r = tileRow xs (r + 1) := by
      unfold tileRow
      rw [List.drop_drop, Nat.mul_add_one, Nat.add_comm]
    rw [List.range_succ_eq_map, List.map_cons, List.map_map, rowsOf, ih]
    exact congrArg _ (List.map_congr_left (fun r _ => hnext r))

theorem filterMap_eq_map_of_some {β : Type} {f : α → Option β} {g : α → β} {as : List α} (h : ∀ x ∈ as, f x = some (g x)) :
    as.filterMap f = as.map g := by
  induction as with
  | nil => rfl
  | cons x as ih =>
    rw [List.filterMap_cons_some (h x List.mem_cons_self), List.map_cons, ih (fun y hy => h y (List.mem_cons_of_mem x hy))]

theorem columnsOf_eq_map (n : Nat) (rows : List (List α)) :
    columnsOf n rows = (List.range n).map (fun c => rows.filterMap (fun row => row[c]?)) := by
  induction n generalizing rows with
  | zero => rfl
  | succ n ih =>
    have hhead : (List.head? : List α → Option α) = fun row => row[0]? := funext fun _ => List.head?_eq_getElem?
    have hnext (c : Nat) : (rows.map List.tail).filterMap (fun row => row[c]?) = rows.filterMap (fun row => row[c + 1]?) := by
      simp only [List.filterMap_map, Function.comp_def, List.getElem?_tail]
    rw [List.range_succ_eq_map, List.map_cons, List.map_map, columnsOf, ih, hhead]
    exact congrArg _ (List.map_congr_left (fun c _ => hnext c))

/-- Columns c to c + n − 1 of row r. -/
def rowPart (c n : Nat) (xs : List α) (r : Nat) : List α := ((tileRow xs r).drop c).take n

variable {xs : List α} {r c : Nat}

theorem tileRow_getElem? (hc : c < 128) : (tileRow xs r)[c]? = xs[128 * r + c]? := by
  rw [tileRow, List.getElem?_take_of_lt hc, List.getElem?_drop]

theorem rowPart_getD {n k : Nat} (hk : k < n) (hc : c + k < 128) (d : α) : (rowPart c n xs r).getD k d = xs.getD (128 * r + (c + k)) d := by
  rw [List.getD_eq_getElem?_getD, List.getD_eq_getElem?_getD, rowPart, List.getElem?_take_of_lt hk, List.getElem?_drop, tileRow_getElem? hc]

section
variable (hxs : xs.length = 16384) (hr : r < 128)
include hxs hr

theorem rowPart_length {n : Nat} (hc : c + n ≤ 128) : (rowPart c n xs r).length = n := by
  simp only [rowPart, tileRow, List.length_take, List.length_drop]
  omega

theorem transpose128_getD (hc : c < 128) (d : α) : (transpose128 xs).getD (128 * r + c) d = xs.getD (128 * c + r) d := by
  have hcolumn : ∀ k < 128, ((List.range 128).map (tileRow xs)).filterMap (fun row => row[k]?)
      = (List.range 128).map (fun q => xs.getD (128 * q + k) d) := by
    intro k hk
    rw [List.filterMap_map]
    refine filterMap_eq_map_of_some fun q hq => ?_
    have hin : 128 * q + k < xs.length := by have := List.mem_range.mp hq; omega
    rw [Function.comp_apply, tileRow_getElem? hk, List.getD_eq_getElem?_getD, List.getElem?_eq_getElem hin, Option.getD_some]
  unfold transpose128
  rw [rowsOf_eq_map, columnsOf_eq_map, ← List.flatMap_def,
    getD_flatMap_range (fun k hk => by rw [hcolumn k hk, List.length_map, List.length_range]) hr hc, hcolumn r hr]
  have hin : c < ((List.range 128).map (fun q => xs.getD (128 * q + r) d)).length := by rwa [List.length_map, List.length_range]
  rw [List.getD_eq_getElem?_getD, List.getElem?_eq_getElem hin, Option.getD_some, List.getElem_map, List.getElem_range]

end
end

/-! ## The operations (Table 8.7) -/

theorem columnsFrom_eq_map (c n : Nat) (xs : List SrcElem) : columnsFrom c n xs = (List.range 128).map (rowPart c n xs) := by
  unfold columnsFrom
  rw [rowsOf_eq_map, List.map_map]
  rfl

section
variable {a b : List SrcElem} {r c : Nat} (ha : a.length = 16384) (hr : r < 128) (hc : c < 128) (d : SrcElem)
include ha hr hc

/-- A row of SPLIT64's output: the half's 64 columns, then zeros. -/
theorem splitHalf_getD (half : Bool) : (splitHalf (b01 half) a).getD (128 * r + c) d
    = if c < 64 then a.getD (128 * r + (c + if half then 64 else 0)) d else { plain := true } := by
  have hfits : 64 * b01 half + 64 ≤ 128 := by cases half <;> decide
  have hlen : ∀ k < 128, (rowPart (64 * b01 half) 64 a k).length = 64 := fun k hk => rowPart_length ha hk hfits
  unfold splitHalf
  rw [columnsFrom_eq_map, List.flatMap_map, getD_flatMap_range (fun k hk => by rw [List.length_append, hlen k hk, List.length_replicate]) hr hc]
  split
  · next hlow =>
    rw [getD_append_front (by rw [hlen r hr]; exact hlow), rowPart_getD hlow (by omega), Nat.add_comm (64 * b01 half)]
    cases half <;> rfl
  · have hpos : c - 64 < 64 := by omega
    rw [getD_append_back (by rw [hlen r hr]; omega), hlen r hr, List.getD_eq_getElem?_getD, List.getElem?_replicate, if_pos hpos,
      Option.getD_some]

/-- A row of JOIN64's output: 64 columns of each input. -/
theorem joinHalves_getD (hb : b.length = 16384) : (joinHalves a b).getD (128 * r + c) d
    = if c < 64 then a.getD (128 * r + c) d else b.getD (128 * r + (c - 64)) d := by
  have hlen : ∀ k < 128, (rowPart 0 64 a k).length = 64 ∧ (rowPart 0 64 b k).length = 64 :=
    fun k hk => ⟨rowPart_length ha hk (by decide), rowPart_length hb hk (by decide)⟩
  unfold joinHalves
  rw [columnsFrom_eq_map, columnsFrom_eq_map, List.zipWith_map, List.zipWith_self, ← List.flatMap_def,
    getD_flatMap_range (fun k hk => by rw [List.length_append, (hlen k hk).1, (hlen k hk).2]) hr hc]
  split
  · next hlow =>
    rw [getD_append_front (by rw [(hlen r hr).1]; exact hlow), rowPart_getD hlow (by omega), Nat.zero_add]
  · rw [getD_append_back (by rw [(hlen r hr).1]; omega), (hlen r hr).1, rowPart_getD (by omega) (by omega), Nat.zero_add]

end

section
variable {t : TaskEntry}

/-- CONVERT and RESHAPE keep the order of the elements. -/
theorem layoutElems_same (h : lyeOp t = 1 ∨ lyeOp t = 5) (a : List SrcElem) : layoutElems t [a] = a := by
  unfold layoutElems
  obtain h | h := h <;> simp only [h] <;> rfl

theorem layoutElems_transpose (h : lyeOp t = 2) (a : List SrcElem) : layoutElems t [a] = transpose128 a := by
  unfold layoutElems
  simp only [h]
  rfl

theorem layoutElems_split (h : lyeOp t = 3) (a : List SrcElem) : layoutElems t [a] = splitHalf (b01 (t.payload.testBit 123)) a := by
  unfold layoutElems
  simp only [h]
  rfl

theorem layoutElems_join (h : lyeOp t = 4) (a b : List SrcElem) : layoutElems t [a, b] = joinHalves a b := by
  unfold layoutElems
  simp only [h]
  rfl

end

/-! ## The task's end -/

/-- The task is complete at r, its tiles written at x; the other layout engines, the memories, the other engines and the numerics stay. -/
def LayoutEnded (die : Nat) (t : RunTask) (x r : State) : Prop :=
  let m := SMap.get r.lye die {}
  (t.task.le, t.task.idx) ∈ r.beam.done ∧ m.run = none ∧ m.item = lyeCount t.task - 1 ∧ m.count = (SMap.get x.lye die {}).count
    ∧ (∀ n, n ≠ die → SMap.get r.lye n {} = SMap.get x.lye n {})
    ∧ r.lpd = x.lpd ∧ r.tst = x.tst ∧ r.me = x.me ∧ r.ve = x.ve ∧ r.ae = x.ae ∧ r.gse = x.gse ∧ r.num = x.num

theorem endLayout_ended (die : Nat) (t : RunTask) (endAt : Nat) (x : State) : LayoutEnded die t x (endLayout die t endAt x) := by
  have hlye : (endLayout die t endAt x).lye = (updLye die (fun m => { SeqUnit.finished t (lyeCount t.task) endAt m with busy := m.busy }) x).lye :=
    finishTask_lye _ _ _ _ _
  unfold LayoutEnded
  rw [hlye, get_updLye_same]
  exact ⟨finishTask_done _ _ _ _ _, rfl, rfl, rfl, fun k hk => get_updLye_other _ _ hk, finishTask_lpd _ _ _ _ _, finishTask_tst _ _ _ _ _,
    finishTask_me _ _ _ _ _, finishTask_ve _ _ _ _ _, finishTask_ae _ _ _ _ _, finishTask_gse _ _ _ _ _, finishTask_num _ _ _ _ _⟩

/-- The command of the task's operation, once its tiles are written. -/
theorem runLayout_written {op die endAt : Nat} {s x : State} {i : Image} {t : RunTask} (htask : seqTask s (SMap.get s.lye die {}) = some (i, t))
    (hend : endAt < periodOf s.live) (hop : lyeOp t.task = op)
    (htiles : layoutTiles die i t (lyeCount t.task - (SMap.get s.lye die {}).item) (SMap.get s.lye die {}).item s = (true, x)) :
    runLayout op die endAt s = endLayout die t endAt x := by
  have hmay : mayEnd s endAt = true := decide_eq_true hend
  unfold runLayout
  simp only [htask, hop, hmay, htiles, decide_true, Bool.and_self, if_true]

/-- Settles O39: by the one run that the five operations share, and by the row and the column of an element of the output. -/
theorem layoutTasksComplete : Obligations.LayoutTasksComplete := by
  unfold Obligations.LayoutTasksComplete
  refine ⟨?tasks, ?elements⟩
  case tasks =>
    intro die endAt s x i t htask hend k htiles ends
    have hends {c : Instr} {op : Nat} (hexec : exec c s = .next (runLayout op die endAt s)) : ends c op := fun hop =>
      ⟨_, hexec.trans (congrArg _ (runLayout_written htask hend hop htiles)), endLayout_ended die t endAt x⟩
    exact ⟨hends rfl, hends rfl, hends rfl, hends rfl, hends rfl⟩
  case elements =>
    intro t a b r c ha hb hr hc out from_
    refine ⟨fun hop => ?same, fun hop => ?transpose, fun hop hlow => ?split, fun hop hhigh => ?zeros, fun hop => ?join⟩
    case same => exact congrArg (·.getD (128 * r + c) {}) (layoutElems_same hop a)
    case transpose =>
      simp only [out, from_, layoutElems_transpose hop]
      exact transpose128_getD ha hr hc {}
    case split =>
      simp only [out, from_, layoutElems_split hop]
      rw [splitHalf_getD ha hr hc, if_pos hlow]
    case zeros =>
      simp only [out, layoutElems_split hop]
      rw [splitHalf_getD ha hr hc, if_neg (by omega)]
    case join =>
      simp only [out, from_, layoutElems_join hop]
      exact joinHalves_getD ha hr hc {} hb

end Sys2Proof.Machine
end

section
/-! SUPPORT. Sparse maps read key by key: runs written, slices, shifts, merges, and the values that a run of keys reads as. -/
namespace Sys2Proof

/-! ## The key's entry after each operation -/

section
variable {α : Type}

theorem SMap.find?_cons (j : Nat) (v : α) (r : SMap α) (k : Nat) :
    SMap.find? ((j, v) :: r) k = if j = k then some v else SMap.find? r k := rfl

theorem SMap.sortedFrom_cons {lo k : Nat} {v : α} {r : SMap α} :
    SMap.sortedFrom lo ((k, v) :: r) = true ↔ lo ≤ k ∧ SMap.sortedFrom (k + 1) r = true := by
  simp [SMap.sortedFrom]

theorem SMap.find?_of_sortedFrom {m : SMap α} {lo k : Nat} (h : SMap.sortedFrom lo m = true) (hk : k < lo) : SMap.find? m k = none := by
  induction m generalizing lo with
  | nil => rfl
  | cons e r ih =>
    obtain ⟨j, v⟩ := e
    rw [SMap.sortedFrom_cons] at h
    rw [SMap.find?, if_neg (by omega)]
    exact ih h.2 (by omega)

theorem SMap.find?_of_keys_lt {m : SMap α} {n k : Nat} (h : ∀ e ∈ m, e.1 < n) (hk : n ≤ k) : SMap.find? m k = none := by
  cases hf : SMap.find? m k with
  | none => rfl
  | some v =>
    have := h _ (Machine.find?_mem hf)
    dsimp only at this
    omega

/-- A listed entry of a map in order is what its key reads as. -/
theorem SMap.find?_of_mem {m : SMap α} {lo : Nat} {e : Nat × α} (h : SMap.sortedFrom lo m = true) (he : e ∈ m) :
    SMap.find? m e.1 = some e.2 := by
  induction m generalizing lo with
  | nil => simp at he
  | cons x r ih =>
    obtain ⟨j, v⟩ := x
    rw [SMap.sortedFrom_cons] at h
    obtain rfl | he := List.mem_cons.1 he
    · simp [SMap.find?]
    · have hr := ih h.2 he
      have hne : j ≠ e.1 := by
        rintro rfl
        rw [SMap.find?_of_sortedFrom h.2 (Nat.lt_succ_self _)] at hr
        simp at hr
      rw [SMap.find?, if_neg hne, hr]

/-- Entries kept by their keys. -/
theorem SMap.find?_filter_key (f : Nat → Bool) (m : SMap α) (k : Nat) :
    SMap.find? (m.filter (fun e => f e.1)) k = if f k then SMap.find? m k else none := by
  induction m with
  | nil => simp
  | cons e r ih =>
    obtain ⟨j, v⟩ := e
    by_cases hj : j = k
    · subst hj
      by_cases hf : f j = true
      · simp [hf, SMap.find?]
      · simpa [hf] using ih
    · by_cases hf : f j = true
      · simpa [hf, SMap.find?, hj] using ih
      · simpa [hf, SMap.find?, hj] using ih

theorem SMap.find?_append (m n : SMap α) (k : Nat) : SMap.find? (m ++ n) k = (SMap.find? m k).or (SMap.find? n k) := by
  induction m with
  | nil => rfl
  | cons e r ih =>
    obtain ⟨j, v⟩ := e
    simp only [List.cons_append, SMap.find?]
    split
    · rfl
    · exact ih

theorem SMap.find?_slice (m : SMap α) (a n k : Nat) :
    SMap.find? (SMap.slice m a n) k = if a ≤ k ∧ k < a + n then SMap.find? m k else none := by
  have h := SMap.find?_filter_key (fun j => decide (a ≤ j) && decide (j < a + n)) m k
  simp only [Bool.and_eq_true, decide_eq_true_eq] at h
  exact h

theorem SMap.find?_keyed (a : Nat) (vs : List α) (k : Nat) : SMap.find? (SMap.keyed a vs) k = if a ≤ k then vs[k - a]? else none := by
  induction vs generalizing a with
  | nil => simp [SMap.keyed]
  | cons v r ih =>
    rw [SMap.keyed, SMap.find?, ih]
    obtain hlt | heq | hgt := Nat.lt_trichotomy a k
    · have hsub : k - a = k - (a + 1) + 1 := by omega
      rw [if_neg (by omega), if_pos (by omega), if_pos (by omega), hsub, List.getElem?_cons_succ]
    · subst heq
      simp
    · rw [if_neg (by omega), if_neg (by omega), if_neg (by omega)]

/-- A run written reads back, and every other key stays. -/
theorem SMap.find?_writeAll (m : SMap α) (a : Nat) (vs : List α) (k : Nat) :
    SMap.find? (SMap.writeAll m a vs) k = if a ≤ k ∧ k < a + vs.length then vs[k - a]? else SMap.find? m k := by
  have hlow := SMap.find?_filter_key (fun j => decide (j < a)) m k
  have hhigh := SMap.find?_filter_key (fun j => decide (a + vs.length ≤ j)) m k
  simp only [decide_eq_true_eq] at hlow hhigh
  rw [SMap.writeAll, SMap.find?_append, SMap.find?_append, hlow, hhigh, SMap.find?_keyed]
  obtain hk | hk | hk : k < a ∨ (a ≤ k ∧ k < a + vs.length) ∨ a + vs.length ≤ k := by omega
  · rw [if_pos hk, if_neg (by omega), if_neg (by omega), if_neg (by omega), Option.or_none, Option.or_none]
  · rw [if_neg (by omega), if_pos hk.1, if_neg (by omega), if_pos hk, Option.or_none, Option.none_or]
  · rw [if_neg (by omega), if_pos (by omega), if_pos hk, if_neg (by omega), List.getElem?_eq_none (by omega), Option.none_or,
      Option.none_or]

theorem SMap.find?_shift (m : SMap α) (d k : Nat) : SMap.find? (SMap.shift m d) k = if d ≤ k then SMap.find? m (k - d) else none := by
  induction m with
  | nil => simp [SMap.shift]
  | cons e r ih =>
    obtain ⟨j, v⟩ := e
    rw [SMap.shift, List.map_cons, SMap.find?, SMap.find?]
    split
    · rw [if_pos (by omega), if_pos (by omega)]
    · rw [show List.map (fun e : Nat × α => (e.1 + d, e.2)) r = SMap.shift r d from rfl, ih]
      split
      · rw [if_neg (by omega)]
      · rfl

theorem SMap.find?_mergeFuel {n lo : Nat} {a b : SMap α} (ha : SMap.sortedFrom lo a = true) (hb : SMap.sortedFrom lo b = true)
    (hn : a.length + b.length ≤ n) (k : Nat) : SMap.find? (SMap.mergeFuel n a b) k = (SMap.find? a k).or (SMap.find? b k) := by
  induction n generalizing lo a b with
  | zero =>
    obtain rfl : a = [] := List.length_eq_zero_iff.1 (by omega)
    obtain rfl : b = [] := List.length_eq_zero_iff.1 (by omega)
    rfl
  | succ n ih =>
    match a, b with
    | [], b => simp [SMap.mergeFuel]
    | e :: r, [] => simp [SMap.mergeFuel]
    | (i, v) :: r, (j, w) :: q =>
      obtain ⟨_, hr⟩ := SMap.sortedFrom_cons.1 ha
      obtain ⟨_, hq⟩ := SMap.sortedFrom_cons.1 hb
      rw [SMap.mergeFuel]
      obtain hij | rfl | hij := Nat.lt_trichotomy i j
      · rw [if_pos hij, SMap.find?, SMap.find?, ih hr (SMap.sortedFrom_cons.2 ⟨hij, hq⟩)
          (by simp only [List.length_cons] at hn ⊢; omega)]
        split <;> rfl
      · rw [if_neg (Nat.lt_irrefl i), if_pos rfl, SMap.find?, SMap.find?, SMap.find?,
          ih hr hq (by simp only [List.length_cons] at hn; omega)]
        split <;> rfl
      · have hlow : SMap.sortedFrom (j + 1) ((i, v) :: r) = true := SMap.sortedFrom_cons.2 ⟨hij, hr⟩
        rw [if_neg (by omega), if_neg (by omega), SMap.find?_cons j w, SMap.find?_cons j w q,
          ih hlow hq (by simp only [List.length_cons] at hn ⊢; omega)]
        split
        · rename_i hk
          rw [SMap.find?_of_sortedFrom hlow (by omega), Option.none_or]
        · rfl

/-- Of two maps merged, the upper one's entry wins. -/
theorem SMap.find?_overlay {a b : SMap α} (ha : SMap.sorted a = true) (hb : SMap.sorted b = true) (k : Nat) :
    SMap.find? (SMap.overlay a b) k = (SMap.find? a k).or (SMap.find? b k) := SMap.find?_mergeFuel ha hb (Nat.le_refl _) k

/-- Where unlisted keys read as d, it makes no difference whether entries that hold d are listed. -/
theorem SMap.find?_filter_value [DecidableEq α] {m : SMap α} {lo : Nat} (h : SMap.sortedFrom lo m = true) (k : Nat) (d : α) :
    (SMap.find? (m.filter (fun e => e.2 != d)) k).getD d = (SMap.find? m k).getD d := by
  induction m generalizing lo with
  | nil => rfl
  | cons e r ih =>
    obtain ⟨j, v⟩ := e
    rw [SMap.sortedFrom_cons] at h
    by_cases hv : v = d
    · subst hv
      rw [List.filter_cons_of_neg (by simp), ih h.2, SMap.find?]
      split
      · rename_i hj
        rw [SMap.find?_of_sortedFrom h.2 (by omega)]
        rfl
      · rfl
    · rw [List.filter_cons_of_pos (by simpa using hv), SMap.find?, SMap.find?]
      split
      · rfl
      · exact ih h.2

/-! ## The values of a run of keys -/

/-- A run of keys filled from entries in order: each key's entry, or the value of an unlisted one. -/
theorem SMap.fill_eq_map (d : Nat → α) {n p : Nat} {m : SMap α} (h : SMap.sortedFrom p m = true) :
    SMap.fill d n p m = (List.range' p n).map (fun k => (SMap.find? m k).getD (d k)) := by
  induction n generalizing p m with
  | zero => rfl
  | succ n ih =>
    match m with
    | [] => simp [SMap.fill, List.range'_succ, ih (m := []) (p := p + 1) rfl]
    | (j, v) :: r =>
      obtain ⟨hj, hr⟩ := SMap.sortedFrom_cons.1 h
      rw [List.range'_succ, List.map_cons, SMap.fill]
      by_cases hjp : j = p
      · subst hjp
        have hrest : ∀ k ∈ List.range' (j + 1) n, (SMap.find? r k).getD (d k) = (SMap.find? ((j, v) :: r) k).getD (d k) := fun k hk => by
          have := (List.mem_range'_1.1 hk).1
          rw [SMap.find?, if_neg (by omega)]
        rw [if_pos rfl, ih hr, List.map_congr_left hrest, SMap.find?, if_pos rfl]
        rfl
      · have hlater : SMap.sortedFrom (p + 1) ((j, v) :: r) = true := SMap.sortedFrom_cons.2 ⟨by omega, hr⟩
        rw [if_neg hjp, ih hlater, SMap.find?_of_sortedFrom hlater (Nat.lt_succ_self p)]
        rfl

/-- A fill from entries moved down, of keys moved down with them. -/
theorem SMap.fill_moved (v : α) {b n p : Nat} {m : SMap α} (hp : b ≤ p) (hm : ∀ e ∈ m, b ≤ e.1) :
    SMap.fill (fun _ => v) n (p - b) (m.map (fun e => (e.1 - b, e.2))) = SMap.fill (fun _ => v) n p m := by
  induction n generalizing p m with
  | zero => cases m <;> rfl
  | succ n ih =>
    match m with
    | [] =>
      have := ih (p := p + 1) (m := []) (by omega) hm
      rw [show p + 1 - b = p - b + 1 by omega] at this
      simpa [SMap.fill] using this
    | (j, w) :: r =>
      have hj := hm (j, w) List.mem_cons_self
      dsimp only at hj
      have hr : ∀ e ∈ r, b ≤ e.1 := fun e he => hm e (List.mem_cons_of_mem _ he)
      have hnext : p + 1 - b = p - b + 1 := by omega
      rw [List.map_cons, SMap.fill, SMap.fill]
      by_cases hjp : j = p
      · rw [if_pos (by omega), if_pos hjp, ← ih (p := p + 1) (by omega) hr, hnext]
      · rw [if_neg (by omega), if_neg hjp, ← ih (p := p + 1) (by omega) hm, hnext]
        rfl

theorem SMap.fill_length (d : Nat → α) (n p : Nat) (m : SMap α) : (SMap.fill d n p m).length = n := by
  induction n generalizing p m with
  | zero => cases m <;> rfl
  | succ n ih =>
    cases m with
    | nil => simp [SMap.fill, ih]
    | cons e r =>
      rw [SMap.fill]
      split <;> simp [ih]

@[simp] theorem SMap.read_length (m : SMap α) (a n : Nat) (d : Nat → α) : (SMap.read m a n d).length = n := SMap.fill_length _ _ _ _

/-! ## Runs written and read -/

theorem SMap.slice_append (m n : SMap α) (b k : Nat) : SMap.slice (m ++ n) b k = SMap.slice m b k ++ SMap.slice n b k :=
  List.filter_append ..

theorem SMap.slice_of_outside {m : SMap α} {b n : Nat} (h : ∀ e ∈ m, e.1 < b ∨ b + n ≤ e.1) : SMap.slice m b n = [] := by
  refine List.filter_eq_nil_iff.2 (fun e he => ?_)
  have := h e he
  simp only [Bool.and_eq_true, decide_eq_true_eq]
  omega

theorem SMap.slice_of_inside {m : SMap α} {b n : Nat} (h : ∀ e ∈ m, b ≤ e.1 ∧ e.1 < b + n) : SMap.slice m b n = m :=
  List.filter_eq_self.2 (fun e he => by simp [h e he])

/-- A slice of the entries that a test on keys keeps, where it keeps those of the slice. -/
theorem SMap.slice_filter_key {f : Nat → Bool} {b n : Nat} (h : ∀ k, b ≤ k → k < b + n → f k = true) (m : SMap α) :
    SMap.slice (m.filter (fun e => f e.1)) b n = SMap.slice m b n := by
  unfold SMap.slice
  rw [List.filter_filter]
  refine List.filter_congr (fun e _ => ?_)
  by_cases hin : b ≤ e.1 ∧ e.1 < b + n
  · rw [h e.1 hin.1 hin.2, Bool.and_true]
  · have hout : (decide (b ≤ e.1) && decide (e.1 < b + n)) = false := by simpa using hin
    rw [hout, Bool.false_and]

theorem SMap.slice_below {a b n : Nat} (h : b + n ≤ a) (m : SMap α) : SMap.slice (m.filter (fun e => e.1 < a)) b n = SMap.slice m b n :=
  SMap.slice_filter_key (f := fun k => decide (k < a)) (fun k _ _ => decide_eq_true (by omega)) m

theorem SMap.slice_above {a b n : Nat} (h : a ≤ b) (m : SMap α) : SMap.slice (m.filter (fun e => a ≤ e.1)) b n = SMap.slice m b n :=
  SMap.slice_filter_key (f := fun k => decide (a ≤ k)) (fun k _ _ => decide_eq_true (by omega)) m

theorem SMap.slice_below_outside {a b n : Nat} (h : a ≤ b) (m : SMap α) : SMap.slice (m.filter (fun e => e.1 < a)) b n = [] :=
  SMap.slice_of_outside (fun e he => by
    have := of_decide_eq_true (List.mem_filter.1 he).2
    omega)

theorem SMap.slice_above_outside {a b n : Nat} (h : b + n ≤ a) (m : SMap α) : SMap.slice (m.filter (fun e => a ≤ e.1)) b n = [] :=
  SMap.slice_of_outside (fun e he => by
    have := of_decide_eq_true (List.mem_filter.1 he).2
    omega)

variable [DecidableEq α]

/-- A run read back where it was written. -/
theorem SMap.read_write_same (m : SMap α) (a : Nat) (vs : List α) (d : α) :
    SMap.read (SMap.write m a vs d) a vs.length (fun _ => d) = vs := by
  have hsorted := SMap.keyed_sorted a vs
  have hmid : SMap.slice ((SMap.keyed a vs).filter (fun e => e.2 != d)) a vs.length = (SMap.keyed a vs).filter (fun e => e.2 != d) :=
    SMap.slice_of_inside (fun e he => SMap.mem_keyed (List.mem_filter.1 he).1)
  rw [SMap.read, SMap.write, SMap.slice_append, SMap.slice_append, SMap.slice_below_outside (Nat.le_refl a), hmid,
    SMap.slice_above_outside (Nat.le_refl _), List.nil_append, List.append_nil, SMap.fill_eq_map _ (SMap.sortedFrom_filter _ hsorted)]
  refine List.ext_getElem (by simp) (fun k hk hlen => ?_)
  rw [List.getElem_map, SMap.find?_filter_value hsorted, SMap.find?_keyed, List.getElem_range', Nat.one_mul, if_pos (by omega),
    Nat.add_sub_cancel_left, List.getElem?_eq_getElem hlen, Option.getD_some]

/-- A run that holds no key written reads as before. -/
theorem SMap.read_write_disjoint (m : SMap α) {a b n : Nat} {vs : List α} (h : b + n ≤ a ∨ a + vs.length ≤ b) (d : α) (u : Nat → α) :
    SMap.read (SMap.write m a vs d) b n u = SMap.read m b n u := by
  have hmid : SMap.slice ((SMap.keyed a vs).filter (fun e => e.2 != d)) b n = [] :=
    SMap.slice_of_outside (fun e he => by
      have := SMap.mem_keyed (List.mem_filter.1 he).1
      omega)
  rw [SMap.read, SMap.write, SMap.slice_append, SMap.slice_append, hmid, List.append_nil]
  obtain h | h := h
  · rw [SMap.slice_below h, SMap.slice_above_outside (by omega), List.append_nil]
    rfl
  · rw [SMap.slice_below_outside (by omega), SMap.slice_above h]
    rfl

end

end Sys2Proof
end

section
/-! SUPPORT. Words of a tile store (R311, R329, R332): what each reads as after one was written whole. -/
namespace Sys2Proof.Machine

@[simp] theorem wordBytes_length (x : TileStore) (w : Nat) : (wordBytes x w).length = 64 := by
  unfold wordBytes
  dsimp only
  split
  · simp
  · split <;> exact SMap.read_length _ _ _ _

/-- What a word reads as hangs on its mark, its place in the save buffer, and the bytes there (R329, R332). -/
theorem wordBytes_congr {x y : TileStore} {w : Nat} (hundef : SMap.get y.undef w 0 = SMap.get x.undef w 0)
    (hslot : saveSlot y w = saveSlot x w)
    (hsave : ∀ k, saveSlot x w = some k → SMap.read y.save (k * 64) 64 (fun _ => 0) = SMap.read x.save (k * 64) 64 (fun _ => 0))
    (hcells : saveSlot x w = none → SMap.read y.cells (w * 64) 64 (fun _ => 0) = SMap.read x.cells (w * 64) 64 (fun _ => 0)) :
    wordBytes y w = wordBytes x w := by
  unfold wordBytes
  rw [hundef, hslot]
  cases hs : saveSlot x w with
  | none => simp only [hcells hs]
  | some k => simp only [hsave k hs]

theorem wordBytes_saved {x : TileStore} {w k : Nat} (h : SMap.get x.undef w 0 = 0) (hs : saveSlot x w = some k) :
    wordBytes x w = SMap.read x.save (k * 64) 64 (fun _ => 0) := by
  simp [wordBytes, h, hs]

theorem wordBytes_cells {x : TileStore} {w : Nat} (h : SMap.get x.undef w 0 = 0) (hs : saveSlot x w = none) :
    wordBytes x w = SMap.read x.cells (w * 64) 64 (fun _ => 0) := by
  simp [wordBytes, h, hs]

theorem putWord_saved {x : TileStore} {w k : Nat} (h : saveSlot x w = some k) (b : Bytes) :
    putWord x w b = { x with undef := SMap.set x.undef w 0 0, save := SMap.write x.save (k * 64) b 0 } := by
  simp [putWord, h]

theorem putWord_cells {x : TileStore} {w : Nat} (h : saveSlot x w = none) (b : Bytes) :
    putWord x w b = { x with undef := SMap.set x.undef w 0 0, cells := SMap.write x.cells (w * 64) b 0 } := by
  simp [putWord, h]

/-- A word written changes the contents alone. -/
theorem putWord_frame (x : TileStore) (w : Nat) (b : Bytes) :
    putWord x w b = { x with cells := (putWord x w b).cells, undef := (putWord x w b).undef, save := (putWord x w b).save } := by
  unfold putWord
  split <;> rfl

@[simp] theorem saveSlot_putWord (x : TileStore) (w : Nat) (b : Bytes) (v : Nat) : saveSlot (putWord x w b) v = saveSlot x v := by
  rw [putWord_frame]
  rfl

theorem putWord_undef (x : TileStore) (w : Nat) (b : Bytes) : (putWord x w b).undef = SMap.set x.undef w 0 0 := by
  unfold putWord
  split <;> rfl

/-- A word in the save buffer stands there at its offset from the redirected region's first word. -/
theorem saveSlot_cases {x : TileStore} {w k : Nat} (h : saveSlot x w = some k) :
    ∃ base, redirected x = some base ∧ base ≤ w ∧ k = w - base := by
  unfold saveSlot at h
  cases hr : redirected x with
  | none => simp [hr] at h
  | some base =>
    simp only [hr] at h
    split at h
    · rename_i hin
      simp only [Bool.and_eq_true, decide_eq_true_eq] at hin
      exact ⟨base, rfl, hin.1, (Option.some.inj h).symm⟩
    · simp at h

/-- A word holds what was last written whole (R329). -/
theorem wordBytes_putWord_same (x : TileStore) (w : Nat) {b : Bytes} (h : b.length = 64) : wordBytes (putWord x w b) w = b := by
  have hundef : SMap.get (putWord x w b).undef w 0 = 0 := by simp [putWord_undef]
  cases hs : saveSlot x w with
  | none =>
    rw [wordBytes_cells hundef (by rw [saveSlot_putWord, hs]), putWord_cells hs, ← h]
    exact SMap.read_write_same x.cells (w * b.length) b 0
  | some k =>
    rw [wordBytes_saved hundef (by rw [saveSlot_putWord, hs]), putWord_saved hs, ← h]
    exact SMap.read_write_same x.save (k * b.length) b 0

/-- No other word changes. -/
theorem wordBytes_putWord_other (x : TileStore) {w v : Nat} {b : Bytes} (h : b.length = 64) (hv : v ≠ w) :
    wordBytes (putWord x w b) v = wordBytes x v := by
  refine wordBytes_congr (by rw [putWord_undef, SMap.get_set_other _ _ _ hv]) (saveSlot_putWord x w b v) (fun k hk => ?_) (fun _ => ?_)
  · cases hs : saveSlot x w with
    | none => rw [putWord_cells hs]
    | some j =>
      obtain ⟨base, hbase, hlow, rfl⟩ := saveSlot_cases hk
      obtain ⟨base', hbase', hlow', rfl⟩ := saveSlot_cases hs
      obtain rfl : base = base' := Option.some.inj (hbase.symm.trans hbase')
      rw [putWord_saved hs]
      exact SMap.read_write_disjoint x.save (by omega) 0 _
  · cases hs : saveSlot x w with
    | none =>
      rw [putWord_cells hs]
      exact SMap.read_write_disjoint x.cells (by omega) 0 _
    | some j => rw [putWord_saved hs]

end Sys2Proof.Machine
end

section
/-! SUPPORT. The lane window (R326, R327, R329): a lane within its word, what each operation on it leaves, and what a refused one records. -/
namespace Sys2Proof.Machine
open Claims

/-! ## A lane within its word -/

theorem splice_eq {α : Type} {xs ys : List α} {o : Nat} (h : o + ys.length ≤ xs.length) :
    splice xs o ys = xs.take o ++ (ys ++ xs.drop (o + ys.length)) := by
  rw [splice, List.take_of_length_le (by omega : ys.length ≤ xs.length - o), List.append_assoc]

section
variable {b : Bytes} {lane : Nat} (hb : b.length = 64) (hlane : lane < 8)
include hb hlane

theorem withLane_length (v : W64) : (withLane b lane v).length = 64 := by
  rw [withLane, splice_eq (by rw [leBytes_length]; omega)]
  simp only [List.length_append, List.length_take, List.length_drop, leBytes_length]
  omega

/-- A lane written reads back. -/
theorem natAt_withLane (v : W64) : natAt (withLane b lane v) (8 * lane) 8 = v.toNat := by
  have hv : v.toNat % 256 ^ 8 = v.toNat := Nat.mod_eq_of_lt v.isLt
  rw [withLane, natAt_middle (b.take (8 * lane)) (b.drop (8 * lane + (leBytes 8 v.toNat).length))
    (splice_eq (by rw [leBytes_length]; omega)) (List.length_take_of_le (by omega)), hv]

end

theorem laneWord_putWord (x : TileStore) (w : Nat) (b : Bytes) : laneWord (putWord x w b) = laneWord x := by
  rw [putWord_frame]
  rfl

theorem laneIndex_putWord (x : TileStore) (w : Nat) (b : Bytes) : laneIndex (putWord x w b) = laneIndex x := by
  rw [putWord_frame]
  rfl

theorem laneStore_defined {x : TileStore} (h : SMap.get x.undef (laneWord x) 0 = 0) (v : W64) :
    laneStore v x = putWord x (laneWord x) (withLane (wordBytes x (laneWord x)) (laneIndex x % 8) v) := by
  simp [laneStore, h]

/-- A lane stored in a defined word reads back (R327). -/
theorem laneValue_laneStore {x : TileStore} (h : SMap.get x.undef (laneWord x) 0 = 0) (v : W64) : laneValue (laneStore v x) = v := by
  have hlane : laneIndex x % 8 < 8 := Nat.mod_lt _ (by decide)
  have hlen := wordBytes_length x (laneWord x)
  rw [laneStore_defined h, laneValue, laneWord_putWord, laneIndex_putWord, wordBytes_putWord_same x _ (withLane_length hlen hlane v),
    natAt_withLane hlen hlane, w64_toNat]

/-- A lane stored changes no other word. -/
theorem wordBytes_laneStore_other {x : TileStore} (h : SMap.get x.undef (laneWord x) 0 = 0) (v : W64) {k : Nat} (hk : k ≠ laneWord x) :
    wordBytes (laneStore v x) k = wordBytes x k := by
  rw [laneStore_defined h, wordBytes_putWord_other x (withLane_length (wordBytes_length x _) (Nat.mod_lt _ (by decide)) v) hk]

/-! ## What a transfer notes (R311, R325) -/

/-- Waiting is counted in the conflict counters alone. -/
theorem tstOf_countWaits_same (t m : Nat) (s : State) : ∃ c, tstOf (countWaits t m s) t = { tstOf s t with conflict := c } :=
  ⟨_, tstOf_updTst_same t _ _⟩

theorem tstOf_countWaits_other {t n : Nat} (h : n ≠ t) (m : Nat) (s : State) : tstOf (countWaits t m s) n = tstOf s n :=
  tstOf_updTst_other _ _ h

theorem eccOf_lt (s : State) (t w : Nat) : eccOf s t w < 3 := by
  unfold eccOf
  dsimp only
  split
  · omega
  · split
    · omega
    · split <;> omega

/-- A word that the ECC delivers: a correction is counted, and nothing else changes (R311). -/
theorem noteEcc_readable {s : State} {t w : Nat} (h : eccOf s t w ≠ 2) :
    ∃ m, noteEcc t w s = { s with tst := m } ∧ tstOf { s with tst := m } t =
      { tstOf s t with corrected := if eccOf s t w = 1 then satAdd 32 (tstOf s t).corrected 1 else (tstOf s t).corrected } := by
  have hlt := eccOf_lt s t w
  obtain hecc | hecc : eccOf s t w = 0 ∨ eccOf s t w = 1 := by omega
  · exact ⟨s.tst, by simp [noteEcc, hecc], by simp [hecc]⟩
  · refine ⟨(updTst t (fun x => { x with corrected := satAdd 32 x.corrected 1 }) s).tst, by simp only [noteEcc, hecc]; rfl, ?_⟩
    rw [if_pos hecc]
    exact tstOf_updTst_same t (fun x => { x with corrected := satAdd 32 x.corrected 1 }) s

/-! ## The operations (R326, R327) -/

section
variable {p : Port} {t : Fin 9} {s : State}

theorem exec_laneDataRead (h : Reaches p (.tst t .laneData) 0 s) : exec (.tstLaneDataRead p t) s =
    .next { (laneRead t s).2 with out := .csr p (tstOffset t 0x28) (laneRead t s).1 :: (laneRead t s).2.out } := by
  have hexec : exec (.tstLaneDataRead p t) s = execTstLaneDataRead p t s := rfl
  have hopen : writePath p (.tst t .laneData) 0 s = .open := h
  rw [hexec, execTstLaneDataRead, hopen]

theorem laneRead_barred (h : laneBarred s t = true) : laneRead t s = (0, record 0x4902 [] s) := by
  simp [laneRead, h]

/-- A lane delivered: a correction and the clocks waited are noted in the store, and the contents stay. -/
theorem laneRead_open (h : laneBarred s t = false) (hecc : eccOf s t (laneWord (tstOf s t)) ≠ 2) :
    ∃ m n c, laneRead t s = (laneValue (tstOf s t), { s with tst := m, freeCount := n }) ∧ SMap.get m t {} =
      let x := tstOf s t
      { x with corrected := if eccOf s t (laneWord x) = 1 then satAdd 32 x.corrected 1 else x.corrected, conflict := c } := by
  obtain ⟨m, hnote, hstore⟩ := noteEcc_readable hecc
  obtain ⟨c, hwaits⟩ := tstOf_countWaits_same t 11 { s with tst := m }
  rw [hstore] at hwaits
  refine ⟨(countWaits t 11 { s with tst := m }).tst, s.freeCount + 1, c, ?_, hwaits⟩
  simp only [laneRead, h, hecc, Bool.false_eq_true, if_false, hnote]
  rfl

theorem regWrite_lane {v : W64} {r : TstReg} {a : RegAccess} (hspec : (Reg.tst t r).spec = ⟨a, [], [⟨63, 0, .any⟩]⟩)
    (hreach : Reaches p (.tst t r) v.toNat s) (g : W64 → W64 → W64) :
    regWrite p (.tst t r) v (fun _ => 0) (fun x s => laneChange t (g (w64 x)) s) s = laneChange t (g v) s := by
  rw [regWrite_word hreach hspec, w64_toNat]

/-- A write, a set and a clear are the changes of the lane that Table 9.5 names. -/
theorem exec_laneChange {v : W64} {c : Instr} {r : TstReg} {f : W64 → W64}
    (h : (c, r, f) = (.tstLaneDataWrite p t v, .laneData, fun _ => v) ∨ (c, r, f) = (.tstLaneSet p t v, .laneSet, fun l => l ||| v)
      ∨ (c, r, f) = (.tstLaneClr p t v, .laneClr, fun l => l &&& ~~~v)) (hreach : Reaches p (.tst t r) v.toNat s) :
    exec c s = .next (laneChange t f s) := by
  simp only [Prod.mk.injEq] at h
  obtain ⟨rfl, rfl, rfl⟩ | ⟨rfl, rfl, rfl⟩ | ⟨rfl, rfl, rfl⟩ := h
  · exact congrArg Host.Outcome.next (regWrite_lane rfl hreach (fun x _ => x))
  · exact congrArg Host.Outcome.next (regWrite_lane rfl hreach (fun x l => l ||| x))
  · exact congrArg Host.Outcome.next (regWrite_lane rfl hreach (fun x l => l &&& ~~~x))

theorem laneChange_barred (h : laneChangeBarred s t = true) (f : W64 → W64) : laneChange t f s = record 0x4902 [] s := by
  simp [laneChange, h]

theorem laneChange_open (h : laneChangeBarred s t = false) (f : W64 → W64) :
    laneChange t f s = countWaits t 11 (updTst t (fun x => laneStore (f (laneValue x)) x) s) := by
  simp [laneChange, h]

end

/-- What leaves the module is among what a record may change. -/
theorem upToRecords_withOut {s y : State} (h : UpToRecords s y) (o : List Out) : UpToRecords s { y with out := o } := by
  unfold UpToRecords withRecords at *
  dsimp only at *
  rw [h]

/-- Settles O40: by the lane's place in its word, and by what a transfer notes besides. -/
theorem laneWindowActs : Obligations.LaneWindowActs := by
  unfold Obligations.LaneWindowActs
  intro p t v s x w
  refine ⟨fun hreach => ⟨fun hbarred => ?readRefused, fun hbarred _ hecc => ?read⟩,
    fun c r f hc hreach => ⟨fun hbarred => ?changeRefused, fun hbarred hdef => ?change⟩, rfl⟩
  case readRefused =>
    refine ⟨_, exec_laneDataRead hreach, ?_⟩
    rw [laneRead_barred hbarred]
    exact ⟨rfl, upToRecords_withOut (record_frame _ _ _) _, record_logged 0x4902 [] s⟩
  case read =>
    obtain ⟨m, n, c, hread, hstore⟩ := laneRead_open hbarred hecc
    refine ⟨_, exec_laneDataRead hreach, ?_⟩
    rw [hread]
    exact ⟨rfl, (congrArg TileStore.cells hstore :), (congrArg TileStore.save hstore :), (congrArg TileStore.undef hstore :),
      (congrArg TileStore.corrected hstore :)⟩
  case changeRefused =>
    exact ⟨_, (exec_laneChange hc hreach).trans (congrArg _ (laneChange_barred hbarred f)), record_frame _ _ _, record_logged _ _ _⟩
  case change =>
    obtain ⟨conflicts, hwaits⟩ := tstOf_countWaits_same t 11 (updTst t (fun x => laneStore (f (laneValue x)) x) s)
    rw [tstOf_updTst_same] at hwaits
    refine ⟨_, (exec_laneChange hc hreach).trans (congrArg _ (laneChange_open hbarred f)), rfl, ?_, fun k hk => ?_,
      fun n hn => (tstOf_countWaits_other hn _ _).trans (tstOf_updTst_other _ _ hn)⟩
    · rw [hwaits]
      exact laneValue_laneStore hdef _
    · rw [hwaits]
      exact wordBytes_laneStore_other hdef _ hk

end Sys2Proof.Machine
end

section
/-! SUPPORT. The background test (R331 to R334): the region redirected to the save buffer, and where a region's end leaves the test. -/
namespace Sys2Proof.Machine
open Claims

/-! ## The region in the save buffer (R331, R332) -/

/-- The save buffer holds each word of the region at its offset from the region's first word. -/
theorem read_regionCells (m : SMap Byte) {base k : Nat} (hlow : base ≤ k) (hhigh : k < base + 1024) :
    SMap.read (regionCells m base) ((k - base) * 64) 64 (fun _ => 0) = SMap.read m (k * 64) 64 (fun _ => 0) := by
  have hslice : SMap.slice (regionCells m base) ((k - base) * 64) 64 =
      (SMap.slice m (k * 64) 64).map (fun e => (e.1 - base * 64, e.2)) := by
    rw [← SMap.slice_filter_key (f := fun j => decide (base * 64 ≤ j) && decide (j < base * 64 + 65536)) (b := k * 64)
      (fun j _ _ => by simp only [Bool.and_eq_true, decide_eq_true_eq]; omega) m]
    unfold regionCells SMap.slice
    rw [List.filter_map]
    refine congrArg _ (List.filter_congr (fun e he => ?_))
    have hin := (List.mem_filter.1 he).2
    simp only [Bool.and_eq_true, decide_eq_true_eq] at hin
    rw [Bool.eq_iff_iff]
    simp only [Function.comp_apply, Bool.and_eq_true, decide_eq_true_eq]
    omega
  have hstart : (k - base) * 64 = k * 64 - base * 64 := by omega
  rw [SMap.read, hslice, hstart]
  exact SMap.fill_moved 0 (by omega) (fun e he => by
    have := (List.mem_filter.1 he).2
    simp only [Bool.and_eq_true, decide_eq_true_eq] at this
    omega)

theorem redirected_idle {x : TileStore} (htesting : x.testing = false) (hfailed : x.failedRegion = none) : redirected x = none := by
  simp [redirected, htesting, hfailed]

theorem redirected_startRegion {x : TileStore} (hfailed : x.failedRegion = none) (b r : Nat) :
    redirected (startRegion b r x) = some (b * bankWords + r * 1024) := by
  simp [redirected, startRegion, hfailed]

/-- Every word reads as before while its region is under test (R332). -/
theorem wordBytes_startRegion {x : TileStore} (htesting : x.testing = false) (hfailed : x.failedRegion = none) (b r k : Nat) :
    wordBytes (startRegion b r x) k = wordBytes x k := by
  have hbefore : saveSlot x k = none := by simp [saveSlot, redirected_idle htesting hfailed]
  have hsame : (startRegion b r x).undef = x.undef := rfl
  by_cases hundef : SMap.get x.undef k 0 = 0
  · rw [wordBytes_cells hundef hbefore]
    by_cases hin : b * bankWords + r * 1024 ≤ k ∧ k < b * bankWords + r * 1024 + 1024
    · have hslot : saveSlot (startRegion b r x) k = some (k - (b * bankWords + r * 1024)) := by
        simp [saveSlot, redirected_startRegion hfailed, hin]
      rw [wordBytes_saved (hsame ▸ hundef) hslot]
      exact read_regionCells x.cells hin.1 hin.2
    · have hslot : saveSlot (startRegion b r x) k = none := by
        simpa [saveSlot, redirected_startRegion hfailed] using hin
      exact wordBytes_cells (hsame ▸ hundef) hslot
  · simp [wordBytes, hsame, hundef]

/-! ## Where the test may start, and where it goes on (R333, R334) -/

theorem testMayStart_idle {s : State} {t : Nat} (h : testMayStart s t = true) :
    (tstOf s t).testing = false ∧ (tstOf s t).failedRegion = none := by
  simp only [testMayStart, Bool.and_eq_true, Bool.not_eq_true', Option.isNone_iff_eq_none] at h
  obtain ⟨⟨⟨⟨-, htesting⟩, hfailed⟩, -⟩, -⟩ := h
  exact ⟨htesting, hfailed⟩

/-- What changes no owner changes no bank's turn. -/
theorem nextTestBank_updTst {f : TileStore → TileStore} (hf : ∀ x, (f x).owner = x.owner) (t b : Nat) (s : State) :
    nextTestBank (updTst t f s) t b = nextTestBank s t b := by
  have htestable (i : Nat) : testable (updTst t f s) t i = testable s t i := by
    unfold testable ownerOf
    rw [tstOf_updTst_same, hf]
    rfl
  simp only [nextTestBank, htestable]

theorem advanceTest_region {t : Nat} {s : State} (h : (tstOf s t).region < 63) :
    advanceTest t s = updTst t (fun x => { x with region := x.region + 1 }) s := by
  simp [advanceTest, h]

theorem advanceTest_pass {t : Nat} {s : State} (h : (tstOf s t).region = 63) (hnone : nextTestBank s t ((tstOf s t).bank + 1) = none) :
    advanceTest t s = passComplete t s := by
  simp [advanceTest, h, hnone]

section
variable {t : Fin 9} {s : State}

theorem exec_regionStart {b : Nat} (h : testMayStart s t = true) (hb : nextTestBank s t (tstOf s t).bank = some b) :
    exec (.backgroundTestRegion t) s =
      .next (updTst t (startRegion b (if b = (tstOf s t).bank then (tstOf s t).region else 0)) s) := by
  have hexec : exec (.backgroundTestRegion t) s = execBackgroundTestRegion t s := rfl
  rw [hexec, execBackgroundTestRegion]
  simp only [h, Bool.not_true, Bool.false_eq_true, if_false, hb]

theorem exec_regionStart_refused (h : testMayStart s t = false) : exec (.backgroundTestRegion t) s = .next s := by
  have hexec : exec (.backgroundTestRegion t) s = execBackgroundTestRegion t s := rfl
  rw [hexec, execBackgroundTestRegion, h]
  rfl

theorem exec_regionEnd_passed (h : (tstOf s t).testing = true) :
    exec (.backgroundTestRegionEnd t true) s = .next (advanceTest t (updTst t restoreRegion s)) := by
  have hexec : exec (.backgroundTestRegionEnd t true) s = execBackgroundTestRegionEnd t true s := rfl
  rw [hexec, execBackgroundTestRegionEnd]
  simp only [h, Bool.not_true, Bool.false_eq_true, if_false, if_true]

theorem exec_regionEnd_failed (h : (tstOf s t).testing = true) :
    exec (.backgroundTestRegionEnd t false) s =
      .next (record 0x4901 (detail [(1, t), (1, (tstOf s t).bank), (1, (tstOf s t).region)]) (updTst t failRegion s)) := by
  have hexec : exec (.backgroundTestRegionEnd t false) s = execBackgroundTestRegionEnd t false s := rfl
  rw [hexec, execBackgroundTestRegionEnd]
  simp only [h, Bool.not_true, Bool.false_eq_true, if_false]

theorem exec_regionEnd_idle (h : (tstOf s t).testing = false) (ok : Bool) : exec (.backgroundTestRegionEnd t ok) s = .next s := by
  have hexec : exec (.backgroundTestRegionEnd t ok) s = execBackgroundTestRegionEnd t ok s := rfl
  rw [hexec, execBackgroundTestRegionEnd]
  simp only [h, Bool.not_false, if_true]

end

@[simp] theorem tstOf_record (code : Nat) (d : Bytes) (s : State) (n : Nat) : tstOf (record code d s) n = tstOf s n := by
  rw [tstOf, record_tst]
  rfl

/-- A record made after a store's change is one made at the state before it: neither the sequence number nor the beam is the store's. -/
theorem logged_of_updTst {code : Nat} {d : Bytes} {t : Nat} {f : TileStore → TileStore} {s y : State}
    (h : Logged code d (updTst t f s) y) : Logged code d s y := h

/-- Settles O41: by the save buffer's copy of the region, and by the branches of a region's end. -/
theorem backgroundTestsRun : Obligations.BackgroundTestsRun := by
  unfold Obligations.BackgroundTestsRun
  intro t s x
  refine ⟨fun b hmay hb => ⟨_, exec_regionStart hmay hb, ?start⟩, fun hmay => ⟨_, exec_regionStart_refused hmay, rfl⟩,
    fun htesting hregion => ⟨_, exec_regionEnd_passed htesting, ?nextRegion⟩,
    fun htesting hregion hlast => ⟨_, exec_regionEnd_passed htesting, ?passEnd⟩,
    fun htesting => ⟨_, exec_regionEnd_failed htesting, ?failure⟩, fun hidle ok => ⟨_, exec_regionEnd_idle hidle ok, rfl⟩⟩
  case start =>
    obtain ⟨htesting, hfailed⟩ := testMayStart_idle hmay
    dsimp only
    rw [tstOf_updTst_same]
    exact ⟨rfl, rfl, rfl, rfl, rfl, rfl, wordBytes_startRegion htesting hfailed _ _, fun n hn => tstOf_updTst_other _ _ hn⟩
  case nextRegion =>
    have hrestored : tstOf (updTst t restoreRegion s) t = restoreRegion x := tstOf_updTst_same _ _ _
    rw [advanceTest_region (by rw [hrestored]; exact hregion)]
    dsimp only
    rw [tstOf_updTst_same, hrestored]
    exact ⟨rfl, rfl, rfl, rfl, rfl, rfl, rfl, fun n hn => (tstOf_updTst_other _ _ hn).trans (tstOf_updTst_other _ _ hn)⟩
  case passEnd =>
    have hrestored : tstOf (updTst t restoreRegion s) t = restoreRegion x := tstOf_updTst_same _ _ _
    have hnone : nextTestBank (updTst t restoreRegion s) t ((restoreRegion x).bank + 1) = none := by
      rw [nextTestBank_updTst (f := restoreRegion) (fun _ => rfl)]
      exact hlast
    rw [← hrestored] at hnone
    have hpasses : (restoreRegion x).passes = x.passes := rfl
    rw [advanceTest_pass (by rw [hrestored]; exact hregion) hnone, passComplete, hrestored, hpasses]
    dsimp only
    rw [tstOf_record, tstOf_updTst_same, hrestored]
    exact ⟨rfl, rfl, rfl, logged_of_updTst (logged_of_updTst (record_logged _ _ _))⟩
  case failure =>
    dsimp only
    rw [tstOf_record, tstOf_updTst_same, record_tst]
    exact ⟨record_frame _ _ _, rfl, rfl, rfl, rfl, rfl, logged_of_updTst (record_logged _ _ _)⟩

end Sys2Proof.Machine
end

section
/-! SUPPORT. T1 byte by byte (R390, R397, R399): what an offset reads as, and what accepting bytes and writing buffers out make of it. -/
namespace Sys2Proof.Machine

/-! ## Entries of a buffer -/

/-- What the entries of a buffer hold at a local offset. -/
def entryByte (es : List WcbEntry) (k : Nat) : Option Byte :=
  (es.find? (fun e => e.line == k / 64)).bind (fun e => SMap.find? e.bytes (k % 64))

/-- The bytes of an entry are in order and within its line. -/
def LineBytes (e : WcbEntry) : Prop := SMap.sorted e.bytes = true ∧ ∀ b ∈ e.bytes, b.1 < 64

/-- No line has two entries. -/
def OneEntryPerLine (es : List WcbEntry) : Prop := ∀ e ∈ es, ∀ x ∈ es, e.line = x.line → e = x

section
variable {es : List WcbEntry} {k : Nat}

theorem entryByte_of_no_line (h : ∀ e ∈ es, e.line ≠ k / 64) : entryByte es k = none := by
  have hnone : es.find? (fun e => e.line == k / 64) = none := List.find?_eq_none.2 (fun e he => by simpa using h e he)
  rw [entryByte, hnone]
  rfl

theorem find?_line_of_mem (h : OneEntryPerLine es) {e : WcbEntry} (he : e ∈ es) : es.find? (fun x => x.line == e.line) = some e := by
  cases hf : es.find? (fun x => x.line == e.line) with
  | none => simpa using List.find?_eq_none.1 hf e he
  | some x => rw [h x (List.mem_of_find?_eq_some hf) e he (by simpa using List.find?_some hf)]

theorem entryByte_of_mem (h : OneEntryPerLine es) {e : WcbEntry} (he : e ∈ es) (hk : e.line = k / 64) :
    entryByte es k = SMap.find? e.bytes (k % 64) := by
  rw [entryByte, ← hk, find?_line_of_mem h he]
  rfl

theorem entryByte_cons (e : WcbEntry) (r : List WcbEntry) (k : Nat) :
    entryByte (e :: r) k = if e.line = k / 64 then SMap.find? e.bytes (k % 64) else entryByte r k := by
  unfold entryByte
  rw [List.find?_cons]
  by_cases h : e.line = k / 64
  · rw [if_pos h, beq_iff_eq.2 h]
    rfl
  · rw [if_neg h, beq_eq_false_iff_ne.2 h]

/-- Buffers with the same entry of an offset's line hold the same there. -/
theorem entryByte_congr {fs : List WcbEntry} (hes : OneEntryPerLine es) (hfs : OneEntryPerLine fs)
    (h : ∀ e, e.line = k / 64 → (e ∈ es ↔ e ∈ fs)) : entryByte es k = entryByte fs k := by
  by_cases hex : ∃ e ∈ es, e.line = k / 64
  · obtain ⟨e, he, hk⟩ := hex
    rw [entryByte_of_mem hes he hk, entryByte_of_mem hfs ((h e hk).1 he) hk]
  · have hno : ∀ e ∈ es, e.line ≠ k / 64 := fun e he hk => hex ⟨e, he, hk⟩
    rw [entryByte_of_no_line hno, entryByte_of_no_line (fun e he hk => hno e ((h e hk).2 he) hk)]

theorem OneEntryPerLine.filter (h : OneEntryPerLine es) (f : WcbEntry → Bool) : OneEntryPerLine (es.filter f) :=
  fun e he x hx => h e (List.mem_filter.1 he).1 x (List.mem_filter.1 hx).1

/-- The entries that a test takes out and those that it leaves hold together what all of them hold. -/
theorem entryByte_split (h : OneEntryPerLine es) (f : WcbEntry → Bool) :
    (entryByte (es.filter (fun e => !f e)) k).or (entryByte (es.filter f) k) = entryByte es k := by
  by_cases hex : ∃ e ∈ es, e.line = k / 64
  · obtain ⟨e, he, hk⟩ := hex
    have honly (g : WcbEntry → Bool) (hg : g e = false) : entryByte (es.filter g) k = none :=
      entryByte_of_no_line (fun x hx hxk => by
        obtain ⟨hx, hgx⟩ := List.mem_filter.1 hx
        rw [h x hx e he (hxk.trans hk.symm), hg] at hgx
        simp at hgx)
    have htaken (g : WcbEntry → Bool) (hg : g e = true) : entryByte (es.filter g) k = entryByte es k := by
      rw [entryByte_of_mem h he hk, entryByte_of_mem (h.filter g) (List.mem_filter.2 ⟨he, hg⟩) hk]
    cases hf : f e
    · rw [honly f hf, htaken (fun e => !f e) (by simp [hf]), Option.or_none]
    · rw [honly (fun e => !f e) (by simp [hf]), htaken f hf, Option.none_or]
  · have hno : ∀ e ∈ es, e.line ≠ k / 64 := fun e he hk => hex ⟨e, he, hk⟩
    have hfilter (g : WcbEntry → Bool) : entryByte (es.filter g) k = none :=
      entryByte_of_no_line (fun e he => hno e (List.mem_filter.1 he).1)
    rw [hfilter, hfilter, entryByte_of_no_line hno]
    rfl

/-- An entry's bytes at their local offsets. -/
theorem find?_shift_line {e : WcbEntry} (h : LineBytes e) (k : Nat) :
    SMap.find? (SMap.shift e.bytes (e.line * 64)) k = if e.line = k / 64 then SMap.find? e.bytes (k % 64) else none := by
  rw [SMap.find?_shift]
  obtain hk | hk | hk : k / 64 < e.line ∨ e.line = k / 64 ∨ e.line < k / 64 := by omega
  · rw [if_neg (by omega), if_neg (by omega)]
  · have hpos : k - e.line * 64 = k % 64 := by omega
    rw [if_pos (by omega), if_pos hk, hpos]
  · rw [if_pos (by omega), if_neg (by omega)]
    exact SMap.find?_of_keys_lt h.2 (by omega)

theorem shift_line_sorted {e : WcbEntry} (h : LineBytes e) : SMap.sorted (SMap.shift e.bytes (e.line * 64)) = true :=
  SMap.sortedFrom_mono (SMap.sortedFrom_shift _ h.1) (Nat.zero_le _)

/-- A later entry of a line repeats what the first one holds, so that a pass over the entries may take any of them. -/
theorem entryByte_tail {e : WcbEntry} {r : List WcbEntry} (h : OneEntryPerLine (e :: r)) (o : Option Byte) :
    (entryByte r k).or ((if e.line = k / 64 then SMap.find? e.bytes (k % 64) else none).or o) = (entryByte (e :: r) k).or o := by
  have htail : OneEntryPerLine r := fun x hx y hy => h x (List.mem_cons_of_mem _ hx) y (List.mem_cons_of_mem _ hy)
  rw [entryByte_cons]
  by_cases hk : e.line = k / 64
  · rw [if_pos hk, if_pos hk]
    by_cases hex : ∃ x ∈ r, x.line = k / 64
    · obtain ⟨x, hx, hxk⟩ := hex
      obtain rfl := h x (List.mem_cons_of_mem _ hx) e List.mem_cons_self (hxk.trans hk.symm)
      rw [entryByte_of_mem htail hx hxk, ← Option.or_assoc, Option.or_self]
    · rw [entryByte_of_no_line (fun x hx hxk => hex ⟨x, hx, hxk⟩), Option.none_or]
  · rw [if_neg hk, if_neg hk, Option.none_or]

/-- Entries laid over a map one after another. -/
def layEntries (es : List WcbEntry) (m : SMap Byte) : SMap Byte :=
  es.foldl (fun m e => SMap.overlay (SMap.shift e.bytes (e.line * 64)) m) m

theorem find?_layEntries (hbytes : ∀ e ∈ es, LineBytes e) (hone : OneEntryPerLine es) {m : SMap Byte} (hm : SMap.sorted m = true) :
    SMap.find? (layEntries es m) k = (entryByte es k).or (SMap.find? m k) := by
  induction es generalizing m with
  | nil => rfl
  | cons e r ih =>
    have he := hbytes e List.mem_cons_self
    rw [layEntries, List.foldl_cons, ← layEntries, ih (fun x hx => hbytes x (List.mem_cons_of_mem _ hx))
      (fun x hx y hy => hone x (List.mem_cons_of_mem _ hx) y (List.mem_cons_of_mem _ hy)) (SMap.sorted_over (shift_line_sorted he) hm),
      SMap.find?_overlay (shift_line_sorted he) hm, find?_shift_line he, entryByte_tail hone]

theorem layEntries_sorted (hbytes : ∀ e ∈ es, LineBytes e) {m : SMap Byte} (hm : SMap.sorted m = true) :
    SMap.sorted (layEntries es m) = true := by
  induction es generalizing m with
  | nil => exact hm
  | cons e r ih =>
    exact ih (fun x hx => hbytes x (List.mem_cons_of_mem _ hx)) (SMap.sorted_over (shift_line_sorted (hbytes e List.mem_cons_self)) hm)

theorem wcbWf_mem {l : Lpd} {p : Nat} (h : wcbWf l p es = true) {e : WcbEntry} (he : e ∈ es) :
    packageAt l (e.line * 64) = p ∧ LineBytes e := by
  induction es with
  | nil => simp at he
  | cons x r ih =>
    obtain ⟨hp, hs, hb, -, hr⟩ := wcbWf_cons.1 h
    obtain rfl | he := List.mem_cons.1 he
    · exact ⟨hp, hs, hb⟩
    · exact ih hr he

theorem wcbWf_oneEntryPerLine {l : Lpd} {p : Nat} (h : wcbWf l p es = true) : OneEntryPerLine es := by
  induction es with
  | nil => exact fun e he => by simp at he
  | cons y r ih =>
    obtain ⟨-, -, -, hne, hr⟩ := wcbWf_cons.1 h
    intro e he x hx hline
    obtain rfl | her := List.mem_cons.1 he
    · obtain rfl | hxr := List.mem_cons.1 hx
      · rfl
      · exact absurd hline.symm (hne x hxr)
    · obtain rfl | hxr := List.mem_cons.1 hx
      · exact absurd hline (hne e her)
      · exact ih hr e her x hxr hline

end

/-! ## What an offset of T1 reads as -/

/-- What the packages hold at a local offset. -/
def cellByte (l : Lpd) (k : Nat) : Byte := (SMap.find? l.cells k).getD (unlistedByte l k)

/-- What a local offset reads as: its controller's buffer over the packages (R397). -/
def byteOf (l : Lpd) (k : Nat) : Byte := (entryByte (wcbOf l (packageAt l k)) k).getD (cellByte l k)

/-- A line lies in one package. -/
theorem packageAt_line (l : Lpd) (k : Nat) : packageAt l (k / 64 * 64) = packageAt l k := by
  have h : k / 64 * 64 / 256 = k / 256 := by omega
  rw [packageAt, unitAt, h]
  rfl

/-- Every entry of every buffer. -/
def allEntries (l : Lpd) : List WcbEntry := l.wcb.flatMap (fun c => c.2)

/-- An entry whose line a run of n bytes from a touches. -/
def touchesRun (a n : Nat) (e : WcbEntry) : Bool := a < e.line * 64 + 64 && e.line * 64 < a + n

theorem wcbBytes_eq_layEntries (l : Lpd) (a n : Nat) : wcbBytes l a n = layEntries ((allEntries l).filter (touchesRun a n)) [] := by
  rw [allEntries, List.filter_flatMap]
  rfl

theorem slice_sortedFrom {m : SMap Byte} (h : SMap.sorted m = true) (a n : Nat) : SMap.sortedFrom a (SMap.slice m a n) = true :=
  SMap.sortedFrom_of_ge (SMap.sorted_filter _ h) (fun e he => by
    have hin := (List.mem_filter.1 he).2
    simp only [Bool.and_eq_true, decide_eq_true_eq] at hin
    exact hin.1)

section
variable {l : Lpd} (hwf : Lpd.wf l = true)
include hwf

/-- An entry stands in the buffer of its line's controller. -/
theorem mem_allEntries (e : WcbEntry) : e ∈ allEntries l ↔ e ∈ wcbOf l (packageAt l (e.line * 64)) := by
  obtain ⟨-, -, hwcb, hall⟩ := Lpd.wf_iff.1 hwf
  constructor
  · intro he
    obtain ⟨c, hc, hec⟩ := List.mem_flatMap.1 he
    have hfind := SMap.find?_of_mem (SMap.wf_iff.1 hwcb).1 hc
    rw [(wcbWf_mem (hall c hc) hec).1, wcbOf, SMap.get, hfind]
    exact hec
  · intro he
    unfold wcbOf SMap.get at he
    cases hf : SMap.find? l.wcb (packageAt l (e.line * 64)) with
    | none => simp [hf] at he
    | some es => exact List.mem_flatMap.2 ⟨_, find?_mem hf, by simpa [hf] using he⟩

theorem wcbOf_oneEntryPerLine (p : Nat) : OneEntryPerLine (wcbOf l p) := wcbWf_oneEntryPerLine (wcbOf_wf hwf p)

theorem allEntries_oneEntryPerLine : OneEntryPerLine (allEntries l) := by
  intro e he x hx hline
  rw [mem_allEntries hwf] at he hx
  rw [← hline] at hx
  exact wcbOf_oneEntryPerLine hwf _ e he x hx hline

theorem allEntries_lineBytes {e : WcbEntry} (he : e ∈ allEntries l) : LineBytes e :=
  (wcbWf_mem (wcbOf_wf hwf _) ((mem_allEntries hwf e).1 he)).2

theorem wcbBytes_sorted (a n : Nat) : SMap.sorted (wcbBytes l a n) = true := by
  rw [wcbBytes_eq_layEntries]
  exact layEntries_sorted (fun e he => allEntries_lineBytes hwf (List.mem_filter.1 he).1) rfl

/-- Within the run, the entries that it touches hold what the offset's buffer holds. -/
theorem find?_wcbBytes {a n k : Nat} (hlow : a ≤ k) (hhigh : k < a + n) :
    SMap.find? (wcbBytes l a n) k = entryByte (wcbOf l (packageAt l k)) k := by
  have hone : OneEntryPerLine ((allEntries l).filter (touchesRun a n)) := (allEntries_oneEntryPerLine hwf).filter _
  rw [wcbBytes_eq_layEntries, find?_layEntries (fun e he => allEntries_lineBytes hwf (List.mem_filter.1 he).1) hone rfl,
    SMap.find?_nil, Option.or_none]
  refine entryByte_congr hone (wcbOf_oneEntryPerLine hwf _) (fun e he => ?_)
  have htouches : touchesRun a n e = true := by
    simp only [touchesRun, Bool.and_eq_true, decide_eq_true_eq]
    omega
  rw [List.mem_filter, mem_allEntries hwf, he, packageAt_line]
  exact and_iff_left htouches

/-- A read of a run of T1 reads each of its offsets (R397). -/
theorem t1Bytes_eq_map (a n : Nat) : t1Bytes l a n = (List.range' a n).map (byteOf l) := by
  have hcells : SMap.sorted (SMap.slice l.cells a n) = true := SMap.sorted_filter _ (Lpd.wf_iff.1 hwf).1
  have hwcb := wcbBytes_sorted hwf a n
  unfold t1Bytes
  rw [SMap.fill_eq_map _ (slice_sortedFrom (SMap.sorted_over hwcb hcells) a n)]
  refine List.map_congr_left (fun k hk => ?_)
  obtain ⟨hlow, hhigh⟩ := List.mem_range'_1.1 hk
  rw [SMap.find?_slice, if_pos ⟨hlow, hhigh⟩, SMap.find?_overlay hwcb hcells, SMap.find?_slice, if_pos ⟨hlow, hhigh⟩,
    find?_wcbBytes hwf hlow hhigh, Option.getD_or]
  rfl

/-- One byte of T1. -/
theorem t1Bytes_one (k : Nat) : t1Bytes l k 1 = [byteOf l k] := t1Bytes_eq_map hwf k 1

end

/-! ## Entries written out (R390, R399) -/

theorem unlistedByte_writeOut (l : Lpd) (e : WcbEntry) (k : Nat) : unlistedByte (writeOut l e) k = unlistedByte l k := rfl

/-- Listed zeros make no difference where unlisted bytes read as zero. -/
theorem find?_canonCells {m : SMap Byte} (h : SMap.sorted m = true) (l : Lpd) (k : Nat) :
    (SMap.find? (canonCells l m) k).getD (unlistedByte l k) = (SMap.find? m k).getD (unlistedByte l k) := by
  unfold canonCells
  split
  · rename_i hz
    rw [unlistedByte, if_pos hz, SMap.find?_filter_value h]
  · rfl

/-- An entry written out is what the packages hold at its line, while the unit works. -/
theorem cellByte_writeOut {l : Lpd} {e : WcbEntry} {k : Nat} (hwf : Lpd.wf l = true) (he : LineBytes e)
    (hgood : lineFailed l (k / 64) = false) :
    cellByte (writeOut l e) k = ((if e.line = k / 64 then SMap.find? e.bytes (k % 64) else none).or (SMap.find? l.cells k)).getD
      (unlistedByte l k) := by
  have hcells : SMap.sorted l.cells = true := (Lpd.wf_iff.1 hwf).1
  rw [cellByte, unlistedByte_writeOut]
  by_cases hf : lineFailed l e.line = true
  · have hne : e.line ≠ k / 64 := fun h => by simp [h, hgood] at hf
    rw [writeOut, if_pos hf, if_neg hne, Option.none_or]
  · rw [writeOut, if_neg hf, find?_canonCells (SMap.sorted_over (shift_line_sorted he) hcells),
      SMap.find?_overlay (shift_line_sorted he) hcells, find?_shift_line he]

theorem lineFailed_congr {l m : Lpd} (hu : m.units = l.units) (hf : m.failed = l.failed) (n : Nat) : lineFailed m n = lineFailed l n := by
  rw [lineFailed, lineFailed, unitAt, unitAt, hu, hf]

theorem foldl_writeOut_frame (es : List WcbEntry) (l : Lpd) :
    es.foldl writeOut l = { l with cells := (es.foldl writeOut l).cells, mergeReads := (es.foldl writeOut l).mergeReads } := by
  induction es generalizing l with
  | nil => rfl
  | cons e r ih =>
    rw [List.foldl_cons, ih]
    rfl

/-- Entries written out one after another. -/
theorem cellByte_foldl_writeOut {es : List WcbEntry} {k : Nat} {l : Lpd} (hwf : Lpd.wf l = true) (hbytes : ∀ e ∈ es, LineBytes e)
    (hone : OneEntryPerLine es) (hgood : lineFailed l (k / 64) = false) :
    cellByte (es.foldl writeOut l) k = (entryByte es k).getD (cellByte l k) := by
  induction es generalizing l with
  | nil => rfl
  | cons e r ih =>
    have he := hbytes e List.mem_cons_self
    have htail := entryByte_tail (k := k) hone (SMap.find? l.cells k)
    rw [List.foldl_cons, ih (writeOut_wf hwf he.1) (fun x hx => hbytes x (List.mem_cons_of_mem _ hx))
      (fun x hx y hy => hone x (List.mem_cons_of_mem _ hx) y (List.mem_cons_of_mem _ hy)) hgood, cellByte_writeOut hwf he hgood,
      cellByte, ← Option.getD_or, ← Option.getD_or, htail]

theorem writeOutWhere_frame (l : Lpd) (p : Nat) (f : WcbEntry → Bool) :
    (writeOutWhere l p f).units = l.units ∧ (writeOutWhere l p f).failed = l.failed
      ∧ (writeOutWhere l p f).wcb = (setWcb l p ((wcbOf l p).filter (fun e => !f e))).wcb := by
  rw [writeOutWhere, foldl_writeOut_frame]
  exact ⟨rfl, rfl, rfl⟩

theorem lineFailed_writeOutWhere (l : Lpd) (p : Nat) (f : WcbEntry → Bool) (n : Nat) :
    lineFailed (writeOutWhere l p f) n = lineFailed l n := by
  obtain ⟨hu, hf, -⟩ := writeOutWhere_frame l p f
  exact lineFailed_congr hu hf n

theorem wcbOf_setWcb (l : Lpd) (p q : Nat) (es : List WcbEntry) : wcbOf (setWcb l p es) q = if q = p then es else wcbOf l q :=
  SMap.get_set _ _ _ _ _

/-- A buffer's entries written out: every byte of units that work reads as before (R399). -/
theorem byteOf_writeOutWhere {l : Lpd} {k : Nat} (hwf : Lpd.wf l = true) (hgood : lineFailed l (k / 64) = false) (p : Nat)
    (f : WcbEntry → Bool) : byteOf (writeOutWhere l p f) k = byteOf l k := by
  have hbuf := wcbOf_wf hwf p
  have hone := wcbWf_oneEntryPerLine hbuf
  have hkept : Lpd.wf (setWcb l p ((wcbOf l p).filter (fun e => !f e))) = true := setWcb_wf hwf (wcbWf_filter _ hbuf)
  have hcell : cellByte (writeOutWhere l p f) k = (entryByte ((wcbOf l p).filter f) k).getD (cellByte l k) :=
    cellByte_foldl_writeOut hkept (fun e he => (wcbWf_mem hbuf (List.mem_filter.1 he).1).2) (hone.filter f) hgood
  obtain ⟨hunits, -, hwcb⟩ := writeOutWhere_frame l p f
  have hentries : wcbOf (writeOutWhere l p f) (packageAt l k) =
      if packageAt l k = p then (wcbOf l p).filter (fun e => !f e) else wcbOf l (packageAt l k) := by
    rw [wcbOf, hwcb]
    exact wcbOf_setWcb _ _ _ _
  rw [byteOf, packageAt_congr hunits, hentries, hcell]
  by_cases hp : packageAt l k = p
  · rw [if_pos hp, ← Option.getD_or, entryByte_split hone, byteOf, hp]
  · have hnone : entryByte ((wcbOf l p).filter f) k = none := entryByte_of_no_line (fun e he hk => hp (by
      rw [← packageAt_line, ← hk]
      exact (wcbWf_mem hbuf (List.mem_filter.1 he).1).1))
    rw [if_neg hp, hnone]
    rfl

/-- The oldest entry is written out as the one entry of its line. -/
theorem writeOutOldest_eq_where {l : Lpd} {p : Nat} {e : WcbEntry} {es : List WcbEntry} (hwf : Lpd.wf l = true)
    (h : wcbOf l p = e :: es) : writeOutOldest l p = writeOutWhere l p (fun x => x.line == e.line) := by
  have hbuf := wcbOf_wf hwf p
  rw [h, wcbWf_cons] at hbuf
  obtain ⟨-, -, -, hne, -⟩ := hbuf
  have htaken : (e :: es).filter (fun x => x.line == e.line) = [e] := by
    rw [List.filter_cons_of_pos (by simp), List.filter_eq_nil_iff.2 (fun x hx => by simpa using hne x hx)]
  have hleft : (e :: es).filter (fun x => !(x.line == e.line)) = es := by
    rw [List.filter_cons_of_neg (by simp), List.filter_eq_self.2 (fun x hx => by simpa using hne x hx)]
  rw [writeOutOldest_cons h, writeOutWhere, h, htaken, hleft]
  rfl

theorem byteOf_writeOutOldest {l : Lpd} {k : Nat} (hwf : Lpd.wf l = true) (hgood : lineFailed l (k / 64) = false) (p : Nat) :
    byteOf (writeOutOldest l p) k = byteOf l k := by
  cases h : wcbOf l p with
  | nil => rw [writeOutOldest_nil h]
  | cons e es => rw [writeOutOldest_eq_where hwf h, byteOf_writeOutWhere hwf hgood]

theorem byteOf_foldl_writeOutWhere {l : Lpd} {k : Nat} (hwf : Lpd.wf l = true) (hgood : lineFailed l (k / 64) = false) (ps : List Nat)
    (f : WcbEntry → Bool) : byteOf (ps.foldl (fun l p => writeOutWhere l p f) l) k = byteOf l k := by
  induction ps generalizing l with
  | nil => rfl
  | cons p r ih =>
    rw [List.foldl_cons, ih (writeOutWhere_wf p f hwf) ((lineFailed_writeOutWhere l p f _).trans hgood), byteOf_writeOutWhere hwf hgood]

theorem byteOf_flushAll {l : Lpd} {k : Nat} (hwf : Lpd.wf l = true) (hgood : lineFailed l (k / 64) = false) :
    byteOf (flushAll l) k = byteOf l k := by
  rw [flushAll, byteOf_foldl_writeOutWhere hwf hgood]

/-- A counter is no part of what T1 holds. -/
theorem byteOf_recordFlushes (l : Lpd) (n k : Nat) : byteOf { l with recordFlushes := n } k = byteOf l k := rfl

theorem byteOf_flushWriter {l : Lpd} {k : Nat} (hwf : Lpd.wf l = true) (hgood : lineFailed l (k / 64) = false) (w : Nat) :
    byteOf (flushWriter l w) k = byteOf l k := by
  rw [flushWriter, byteOf_recordFlushes, byteOf_foldl_writeOutWhere hwf hgood]

end Sys2Proof.Machine
end

section
/-! SUPPORT. Stores into T1 (R390, R397, R399): the bytes that a controller accepts for a line, a run cut into lines, and what a store makes
of every byte. -/
namespace Sys2Proof.Machine

/-! ## A line accepted -/

/-- The entry of a line takes bytes from offset o on (R397). -/
def mergeBytes (w : Option Nat) (n o : Nat) (bs : Bytes) (e : WcbEntry) : WcbEntry :=
  if e.line = n then { e with bytes := SMap.writeAll e.bytes o bs, writers := addWriter w e.writers } else e

theorem mergeBytes_line (w : Option Nat) (n o : Nat) (bs : Bytes) (e : WcbEntry) : (mergeBytes w n o bs e).line = e.line := by
  unfold mergeBytes
  split <;> rfl

/-- A local offset lies among the bytes that line n takes from offset o on. -/
abbrev Covers (n o : Nat) (bs : Bytes) (k : Nat) : Prop := n = k / 64 ∧ o ≤ k % 64 ∧ k % 64 < o + bs.length

theorem mergeBytes_find? (w : Option Nat) (n o : Nat) (bs : Bytes) {e : WcbEntry} {k : Nat} (hk : e.line = k / 64) :
    SMap.find? (mergeBytes w n o bs e).bytes (k % 64) = if Covers n o bs k then bs[k % 64 - o]? else SMap.find? e.bytes (k % 64) := by
  unfold mergeBytes
  by_cases hn : e.line = n
  · have hcovers : Covers n o bs k ↔ o ≤ k % 64 ∧ k % 64 < o + bs.length := and_iff_right (hn.symm.trans hk)
    rw [if_pos hn, SMap.find?_writeAll]
    simp only [hcovers]
  · rw [if_neg hn, if_neg (fun h => hn (hk.trans h.1.symm))]

section
variable {es : List WcbEntry} {n : Nat}

theorem entryByte_mergeBytes (hex : ∃ e ∈ es, e.line = n) (w : Option Nat) (o : Nat) (bs : Bytes) (k : Nat) :
    entryByte (es.map (mergeBytes w n o bs)) k = if Covers n o bs k then bs[k % 64 - o]? else entryByte es k := by
  have hlines : (fun e : WcbEntry => e.line == k / 64) ∘ mergeBytes w n o bs = fun e => e.line == k / 64 :=
    funext (fun e => by rw [Function.comp_apply, mergeBytes_line])
  rw [entryByte, entryByte, List.find?_map, hlines]
  cases hf : es.find? (fun e => e.line == k / 64) with
  | none =>
    obtain ⟨e, he, hn⟩ := hex
    have hne : e.line ≠ k / 64 := by simpa using List.find?_eq_none.1 hf e he
    rw [if_neg (fun h => hne (hn.trans h.1))]
    rfl
  | some e =>
    exact mergeBytes_find? w n o bs (by simpa using List.find?_some hf)

theorem entryByte_append_new (hno : ∀ e ∈ es, e.line ≠ n) (o : Nat) (bs : Bytes) (ws : List Nat) (k : Nat) :
    entryByte (es ++ [⟨n, SMap.keyed o bs, ws⟩]) k = if Covers n o bs k then bs[k % 64 - o]? else entryByte es k := by
  by_cases hn : n = k / 64
  · have hold : es.find? (fun e => e.line == k / 64) = none := List.find?_eq_none.2 (fun e he => by simpa [hn] using hno e he)
    have hnew : entryByte (es ++ [⟨n, SMap.keyed o bs, ws⟩]) k = if o ≤ k % 64 then bs[k % 64 - o]? else none := by
      rw [entryByte, List.find?_append, hold, ← SMap.find?_keyed]
      simp [hn]
    rw [hnew, entryByte, hold]
    by_cases hc : Covers n o bs k
    · obtain ⟨-, hlow, -⟩ := id hc
      rw [if_pos hc, if_pos hlow]
    · rw [if_neg hc]
      split
      · rename_i hlow
        have hend : ¬k % 64 < o + bs.length := fun h => hc ⟨hn, hlow, h⟩
        exact List.getElem?_eq_none (by omega)
      · rfl
  · rw [if_neg (fun h => hn h.1), entryByte, List.find?_append, entryByte]
    cases es.find? (fun e => e.line == k / 64) <;> simp [hn]

end

theorem acceptLine_of_failed {l : Lpd} {n : Nat} (h : lineFailed l n = true) (w : Option Nat) (o : Nat) (bs : Bytes) :
    acceptLine w l (n, o, bs) = l := if_pos h

/-- The line has an entry: the bytes merge into it. -/
theorem acceptLine_merges {l : Lpd} {n : Nat} (h : lineFailed l n = false) (hex : ∃ e ∈ wcbOf l (packageAt l (n * 64)), e.line = n)
    (w : Option Nat) (o : Nat) (bs : Bytes) : acceptLine w l (n, o, bs) =
      setWcb l (packageAt l (n * 64)) ((wcbOf l (packageAt l (n * 64))).map (mergeBytes w n o bs)) := by
  have hany : (wcbOf l (packageAt l (n * 64))).any (fun e => e.line == n) = true := by simpa using hex
  rw [acceptLine]
  simp only [h, hany, if_true, Bool.false_eq_true, if_false]
  rfl

/-- The line has no entry: it takes a new one, for which the oldest makes room where the buffer is full. -/
theorem acceptLine_appends {l : Lpd} {n : Nat} (h : lineFailed l n = false) (hno : ∀ e ∈ wcbOf l (packageAt l (n * 64)), e.line ≠ n)
    (w : Option Nat) (o : Nat) (bs : Bytes) :
    ∃ m, (m = l ∨ m = writeOutOldest l (packageAt l (n * 64))) ∧ acceptLine w l (n, o, bs) =
      setWcb m (packageAt l (n * 64)) (wcbOf m (packageAt l (n * 64)) ++ [⟨n, SMap.keyed o bs, addWriter w []⟩]) := by
  have hany : (wcbOf l (packageAt l (n * 64))).any (fun e => e.line == n) = false := by simpa using hno
  rw [acceptLine]
  simp only [h, hany, Bool.false_eq_true, if_false]
  split
  · exact ⟨_, .inr rfl, rfl⟩
  · exact ⟨_, .inl rfl, rfl⟩

theorem writeOutOldest_failed (l : Lpd) (p : Nat) : (writeOutOldest l p).failed = l.failed := by
  cases h : wcbOf l p with
  | nil => rw [writeOutOldest_nil h]
  | cons e es => rw [writeOutOldest_cons h]; rfl

theorem lineFailed_acceptLine (w : Option Nat) (l : Lpd) (c : Nat × Nat × Bytes) (n : Nat) :
    lineFailed (acceptLine w l c) n = lineFailed l n := by
  have hsame : (acceptLine w l c).units = l.units ∧ (acceptLine w l c).failed = l.failed := by
    unfold acceptLine
    dsimp only
    split
    · exact ⟨rfl, rfl⟩
    · split
      · exact ⟨rfl, rfl⟩
      · split
        · exact ⟨writeOutOldest_units _ _, writeOutOldest_failed _ _⟩
        · exact ⟨rfl, rfl⟩
  exact lineFailed_congr hsame.1 hsame.2 n

/-- A buffer replaced: what it holds at the offsets of its controller. -/
theorem byteOf_setWcb (l : Lpd) (p : Nat) (es : List WcbEntry) (k : Nat) :
    byteOf (setWcb l p es) k = if packageAt l k = p then (entryByte es k).getD (cellByte l k) else byteOf l k := by
  rw [byteOf, packageAt_congr (setWcb_units l p es), wcbOf_setWcb]
  split <;> rfl

/-- The controller of line n has bs from offset o on in the line's entry, and its other bytes as they were. -/
theorem byteOf_setWcb_takes {l : Lpd} {n o k : Nat} {bs : Bytes} {es : List WcbEntry}
    (h : entryByte es k = if Covers n o bs k then bs[k % 64 - o]? else entryByte (wcbOf l (packageAt l (n * 64))) k) :
    byteOf (setWcb l (packageAt l (n * 64)) es) k = if Covers n o bs k then bs.getD (k % 64 - o) 0 else byteOf l k := by
  rw [byteOf_setWcb]
  by_cases hc : Covers n o bs k
  · obtain ⟨hline, hlow, hhigh⟩ := id hc
    have hlt : k % 64 - o < bs.length := by omega
    rw [if_pos (by rw [hline, packageAt_line]), h, if_pos hc, if_pos hc, List.getD_eq_getElem?_getD, List.getElem?_eq_getElem hlt]
    rfl
  · rw [h, if_neg hc, if_neg hc, byteOf]
    split
    · rename_i hp
      rw [hp]
    · rfl

/-- A controller accepts bytes of a line: they read back, and every other byte of units that work stays (R397, R399). -/
theorem byteOf_acceptLine {l : Lpd} {k : Nat} (hwf : Lpd.wf l = true) (hgood : lineFailed l (k / 64) = false) (w : Option Nat)
    (n o : Nat) (bs : Bytes) :
    byteOf (acceptLine w l (n, o, bs)) k = if Covers n o bs k then bs.getD (k % 64 - o) 0 else byteOf l k := by
  by_cases hf : lineFailed l n = true
  · rw [acceptLine_of_failed hf, if_neg (fun h => by simp [h.1, hgood] at hf)]
  have hworks : lineFailed l n = false := by simpa using hf
  by_cases hex : ∃ e ∈ wcbOf l (packageAt l (n * 64)), e.line = n
  · rw [acceptLine_merges hworks hex]
    exact byteOf_setWcb_takes (entryByte_mergeBytes hex w o bs k)
  · have hno : ∀ e ∈ wcbOf l (packageAt l (n * 64)), e.line ≠ n := fun e he h => hex ⟨e, he, h⟩
    obtain ⟨m, hm, haccept⟩ := acceptLine_appends hworks hno w o bs
    have hsame : byteOf m k = byteOf l k ∧ packageAt m (n * 64) = packageAt l (n * 64)
        ∧ ∀ e ∈ wcbOf m (packageAt l (n * 64)), e.line ≠ n := by
      obtain rfl | rfl := hm
      · exact ⟨rfl, rfl, hno⟩
      · refine ⟨byteOf_writeOutOldest hwf hgood _, packageAt_congr (writeOutOldest_units l _) _, fun e he => ?_⟩
        rw [wcbOf_writeOutOldest] at he
        exact hno e (List.mem_of_mem_tail he)
    obtain ⟨hbyte, hpackage, hno⟩ := hsame
    rw [haccept, ← hbyte]
    rw [← hpackage] at hno ⊢
    exact byteOf_setWcb_takes (entryByte_append_new hno o bs _ k)

/-! ## A run of bytes (R397, R399) -/

/-- The lines of a run, accepted one after another; the fuel reaches to the run's end. -/
theorem byteOf_foldl_acceptLine {l : Lpd} {k fuel a : Nat} {bs : Bytes} (hwf : Lpd.wf l = true) (hgood : lineFailed l (k / 64) = false)
    (w : Option Nat) (hfuel : a % 64 + bs.length ≤ 64 * fuel) :
    byteOf ((lineChunks fuel a bs).foldl (acceptLine w) l) k = if a ≤ k ∧ k < a + bs.length then bs.getD (k - a) 0 else byteOf l k := by
  induction fuel generalizing l a bs with
  | zero =>
    rw [if_neg (by omega)]
    rfl
  | succ n ih =>
    rw [lineChunks]
    by_cases hempty : bs = []
    · rw [if_pos (by simpa using hempty), if_neg (by simp [hempty])]
      rfl
    rw [if_neg (by simpa using hempty), List.foldl_cons]
    have hfits : a % 64 + (bs.take (64 - a % 64)).length ≤ 64 := by
      rw [List.length_take]
      omega
    have hwf' : Lpd.wf (acceptLine w l (a / 64, a % 64, bs.take (64 - a % 64))) = true := acceptLine_wf w hfits hwf
    have hgood' := (lineFailed_acceptLine w l (a / 64, a % 64, bs.take (64 - a % 64)) (k / 64)).trans hgood
    rw [ih hwf' hgood' (by rw [List.length_drop]; omega), byteOf_acceptLine hwf hgood]
    have hnext : a / 64 * 64 + 64 = a + (64 - a % 64) := by omega
    rw [hnext, List.length_drop]
    obtain hout | hfirst | hlater : ¬(a ≤ k ∧ k < a + bs.length) ∨ (a ≤ k ∧ k < a + bs.length ∧ k < a + (64 - a % 64))
        ∨ (a + (64 - a % 64) ≤ k ∧ k < a + bs.length) := by omega
    · rw [if_neg (by omega), if_neg (by rw [Covers, List.length_take]; omega), if_neg hout]
    · have hpos : k % 64 - a % 64 = k - a := by omega
      rw [if_neg (by omega), if_pos (by rw [Covers, List.length_take]; omega), if_pos (by omega), hpos, List.getD_eq_getElem?_getD,
        List.getElem?_take_of_lt (by omega), List.getD_eq_getElem?_getD]
    · have hpos : 64 - a % 64 + (k - (a + (64 - a % 64))) = k - a := by omega
      rw [if_pos (by omega), if_pos (by omega), List.getD_eq_getElem?_getD, List.getElem?_drop, hpos, List.getD_eq_getElem?_getD]

/-- A store: its bytes read back, and every other byte of units that work stays (R397, R399). -/
theorem byteOf_t1Store {l : Lpd} {k : Nat} (hwf : Lpd.wf l = true) (hgood : lineFailed l (k / 64) = false) (a : Nat) (bs : Bytes)
    (w : Option Nat) :
    byteOf (t1Store l a bs w) k = if a ≤ k ∧ k < a + bs.length then bs.getD (k - a) 0 else byteOf l k :=
  byteOf_foldl_acceptLine hwf hgood w (by omega)

/-! ## Runs in failed units (R390) -/

theorem mem_linesOf {a n x : Nat} : x ∈ linesOf a n ↔ n ≠ 0 ∧ a / 64 ≤ x ∧ x ≤ (a + n - 1) / 64 := by
  unfold linesOf
  by_cases hn : n = 0
  · simp [hn]
  · rw [if_neg hn]
    simp only [List.mem_map, List.mem_range]
    constructor
    · rintro ⟨i, hi, rfl⟩
      omega
    · rintro ⟨-, hlow, hhigh⟩
      exact ⟨x - a / 64, by omega, by omega⟩

/-- A run is cut into the lines that it touches. -/
theorem lineChunks_linesOf {fuel a : Nat} {bs : Bytes} {c : Nat × Nat × Bytes} (hc : c ∈ lineChunks fuel a bs) :
    c.1 ∈ linesOf a bs.length := by
  induction fuel generalizing a bs with
  | zero => simp [lineChunks] at hc
  | succ n ih =>
    rw [lineChunks] at hc
    by_cases hempty : bs = []
    · rw [if_pos (by simpa using hempty)] at hc
      simp at hc
    have hlen : bs.length ≠ 0 := fun h => hempty (List.length_eq_zero_iff.1 h)
    rw [if_neg (by simpa using hempty)] at hc
    obtain rfl | hc := List.mem_cons.1 hc
    · exact mem_linesOf.2 ⟨hlen, Nat.le_refl _, Nat.div_le_div_right (by omega)⟩
    · have hrest := mem_linesOf.1 (ih hc)
      rw [List.length_drop] at hrest
      exact mem_linesOf.2 ⟨hlen, by omega, by omega⟩

/-- Lines of failed units keep nothing (R390). -/
theorem foldl_acceptLine_of_failed {l : Lpd} {cs : List (Nat × Nat × Bytes)} (h : ∀ c ∈ cs, lineFailed l c.1 = true) (w : Option Nat) :
    cs.foldl (acceptLine w) l = l := by
  induction cs with
  | nil => rfl
  | cons c r ih =>
    rw [List.foldl_cons, acceptLine_of_failed (h c List.mem_cons_self)]
    exact ih (fun x hx => h x (List.mem_cons_of_mem _ hx))

end Sys2Proof.Machine
end

section
/-! SUPPORT. The memories read back what was written (R311, R329, R390, R397, R399). -/
namespace Sys2Proof.Machine

/-- Settles O57: by what one offset of T1 reads as, through the buffers and the packages, and by the words of a tile store. -/
theorem memoriesReadBack : Obligations.MemoriesReadBack := by
  unfold Obligations.MemoriesReadBack
  refine ⟨fun l a bs w hwf => ⟨fun k hgood => ?stores, fun hfailed => ?failedUnits, fun k hgood => ⟨?flushed, fun p => ?oldest,
    fun w => ?writer⟩, fun n => ⟨?length, fun k hk => ?runs⟩⟩, fun x w b hb => ⟨wordBytes_putWord_same x w hb,
    fun v hv => wordBytes_putWord_other x hb hv⟩⟩
  case stores =>
    rw [t1Bytes_one (t1Store_wf a bs w hwf), byteOf_t1Store hwf hgood, t1Bytes_one hwf]
    split <;> rfl
  case failedUnits => exact foldl_acceptLine_of_failed (fun c hc => hfailed c.1 (lineChunks_linesOf hc)) w
  case flushed => rw [t1Bytes_one (flushAll_wf hwf), t1Bytes_one hwf, byteOf_flushAll hwf hgood]
  case oldest => rw [t1Bytes_one (writeOutOldest_wf p hwf), t1Bytes_one hwf, byteOf_writeOutOldest hwf hgood]
  case writer => rw [t1Bytes_one (flushWriter_wf w hwf), t1Bytes_one hwf, byteOf_flushWriter hwf hgood]
  case length => rw [t1Bytes_eq_map hwf, List.length_map, List.length_range']
  case runs =>
    rw [t1Bytes_one hwf, t1Bytes_eq_map hwf, List.getD_eq_getElem?_getD, List.getElem?_map, List.getElem?_range' hk]
    simp

end Sys2Proof.Machine
end

section
/-! SUPPORT. Placement's reads and writes of tiles (R178, R311, R338, R392): what they count and what they raise, the buoy table stays. -/
namespace Sys2Proof.Machine

/-- Equal tables hold equal entries. -/
theorem buoyOf_of_table {s t : State} (h : t.ple.table = s.ple.table) (n : Nat) : buoyOf t n = buoyOf s n := by
  unfold buoyOf
  rw [h]

theorem buoyOf_updCounts (f : PleCounts → PleCounts) (s : State) (n : Nat) : buoyOf (updCounts f s) n = buoyOf s n := rfl

/-! ## The memories and the links leave the PLE -/

@[simp] theorem raiseFault_ple (code : Nat) (d : Bytes) (s : State) : (raiseFault code d s).ple = s.ple := by
  obtain ⟨-, hframe, -⟩ := raiseFault_faulted code d s
  rw [hframe]
  rfl

@[simp] theorem noteEcc_ple (n w : Nat) (s : State) : (noteEcc n w s).ple = s.ple := by
  unfold noteEcc
  split
  · rfl
  · rfl
  · exact record_ple _ _ _

@[simp] theorem readWords_ple (n : Nat) (ws : List Nat) (s : State) : (readWords n ws s).2.ple = s.ple :=
  List.foldlRecOn (motive := fun t : State => t.ple = s.ple) ws _ rfl (fun t ht w _ => (noteEcc_ple n w t).trans ht)

@[simp] theorem t0Read_ple (n m first k j len : Nat) (s : State) : (t0Read n m first k j len s).2.ple = s.ple := by
  unfold t0Read
  split
  · exact raiseFault_ple _ _ _
  · split
    · exact raiseFault_ple _ _ _
    · exact readWords_ple _ _ _

@[simp] theorem t0Write_ple (n m first k j : Nat) (b : Bytes) (s : State) : (t0Write n m first k j b s).2.ple = s.ple := by
  unfold t0Write
  split
  · exact raiseFault_ple _ _ _
  · split
    · exact raiseFault_ple _ _ _
    · rfl

@[simp] theorem t1Read_ple (who a n : Nat) (s : State) : (t1Read who a n s).2.ple = s.ple := by
  unfold t1Read
  split
  · rfl
  · split
    · rfl
    · exact raiseFault_ple _ _ _

@[simp] theorem t1Write_ple (a : Nat) (bs : Bytes) (w : Option Nat) (s : State) : (t1Write a bs w s).ple = s.ple := by
  rw [t1Write_frame]

theorem ple_of_onlyLinks {s t : State} (h : OnlyLinks s t) : t.ple = s.ple := by rw [h]

@[simp] theorem sendRouted_ple (dest : Nat) (b : MsgBody) (s : State) : (sendRouted dest b s).ple = s.ple := by
  unfold sendRouted
  split
  · exact (ple_of_onlyLinks (sendFlit_frame _ _ _)).trans rfl
  · exact record_ple _ _ _

@[simp] theorem sendTransaction_ple (flow : Option Nat) (resp : Bool) (dest : Nat) (poison : Bool) (b : Bytes) (s : State) :
    (sendTransaction flow resp dest poison b s).ple = s.ple := by
  unfold sendTransaction
  split
  · rfl
  · unfold sendFree
    split
    · exact ple_of_onlyLinks (sendFlits_frame _ _ _)
    · exact record_ple _ _ _

@[simp] theorem readOwner_ple (flow : Option Nat) (target : Nat) (use : ReqUse) (buoy tile pitch : Nat) (s : State) :
    (readOwner flow target use buoy tile pitch s).ple = s.ple := by
  unfold readOwner
  split
  · rfl
  · exact sendTransaction_ple _ _ _ _ _ _

/-! ## Tiles fetched, stored and copied leave the buoy table -/

theorem countDecoded_table (b : Bytes) (s : State) : (countDecoded b s).ple.table = s.ple.table := by
  unfold countDecoded
  split <;> rfl

theorem fetchT0_ple (who store first count word pitch tile : Nat) (s : State) :
    (fetchT0 who store first count word pitch tile s).2.ple = s.ple := by
  have hread := t0Read_ple store (masterAt who store) first count (tileWord word pitch tile) (pitch / 64) s
  unfold fetchT0
  split <;> next hr => rwa [hr] at hread

theorem fetchT1_table (who offset pitch tile : Nat) (compressed : Bool) (s : State) :
    (fetchT1 who offset pitch tile compressed s).2.ple.table = s.ple.table := by
  have hread := congrArg Ple.table (t1Read_ple who (offset + tile * pitch) pitch s)
  unfold fetchT1
  split
  · exact (countDecoded_table _ _).trans hread
  · exact hread

theorem fetchOwner_table (le : Option Nat) (e : BuoyEntry) (tile m : Nat) (use : ReqUse) (s : State) :
    (fetchOwner le e tile m use s).2.ple.table = s.ple.table := by
  unfold fetchOwner
  split
  · exact countDecoded_table _ _
  · exact congrArg Ple.table (readOwner_ple _ _ _ _ _ _ _)

theorem fetchDeep_table (n pitch tile : Nat) (s : State) : (fetchDeep n pitch tile s).2.ple.table = s.ple.table := by
  unfold fetchDeep
  split
  · exact countDecoded_table _ _
  · rfl

/-- A fetch from any place leaves the buoy table, whatever comes of it. -/
theorem fetchFrom_table (who : Nat) (le : Option Nat) (e : BuoyEntry) (tile : Nat) (mo : Mooring) (use : ReqUse) (s : State) :
    (fetchFrom who le e tile mo use s).2.ple.table = s.ple.table := by
  unfold fetchFrom
  split
  · exact congrArg Ple.table (fetchT0_ple _ _ _ _ _ _ _ _)
  · exact fetchT1_table _ _ _ _ _ _
  · exact fetchOwner_table _ _ _ _ _ _
  · exact fetchDeep_table _ _ _ _

theorem storeTile_table (who : Nat) (le : Option Nat) (pitch tile : Nat) (mo : Mooring) (b : Bytes) (s : State) :
    (storeTile who le pitch tile mo b s).2.ple.table = s.ple.table := by
  unfold storeTile
  split
  · exact congrArg Ple.table (t0Write_ple _ _ _ _ _ _ _)
  · dsimp only
    rw [countEncoded_frame, t1Write_ple]
  · rfl
  · rfl

theorem copyTile_table (e : BuoyEntry) (src dst : Mooring) (tile : Nat) (s : State) :
    (copyTile e src dst tile s).ple.table = s.ple.table := by
  have hfetch := fetchFrom_table (engineCode 8 8) none e tile src (.replica e.id tile) s
  unfold copyTile
  split
  · next hr =>
    rw [hr] at hfetch
    exact (storeTile_table _ _ _ _ _ _ _).trans hfetch
  · next hr => rwa [hr] at hfetch

theorem copyAll_table (e : BuoyEntry) (src dst : Mooring) (s : State) : (copyAll e src dst s).ple.table = s.ple.table :=
  List.foldlRecOn (motive := fun t : State => t.ple.table = s.ple.table) _ _ rfl (fun t ht j _ => (copyTile_table e src dst j t).trans ht)

/-! ## Evictions touch the evicted buoys alone (R362, R363) -/

theorem buoyEntry_id {i : Image} {id : Nat} {e : BuoyEntry} (h : buoyEntry i id = some e) : e.id = id := by
  simpa using List.find?_some h

theorem buoyOf_evictNow_other {e : BuoyEntry} {n : Nat} (h : n ≠ e.id) (s : State) : buoyOf (evictNow e s) n = buoyOf s n := by
  unfold evictNow
  dsimp only
  rw [buoyOf_updCounts]
  split
  · exact buoyOf_updBuoy_other _ s h
  · exact (buoyOf_updBuoy_other _ _ h).trans (buoyOf_of_table (copyAll_table _ _ _ _) n)

theorem buoyOf_evictId_other (i : Image) {v n : Nat} (h : n ≠ v) (s : State) : buoyOf (evictId i v s) n = buoyOf s n := by
  unfold evictId
  split
  · next he => exact buoyOf_evictNow_other (by rwa [buoyEntry_id he]) s
  · rfl

theorem buoyOf_foldl_evictId (i : Image) {vs : List Nat} {n : Nat} (h : n ∉ vs) (s : State) :
    buoyOf (vs.foldl (fun s v => evictId i v s) s) n = buoyOf s n :=
  List.foldlRecOn (motive := fun t => buoyOf t n = buoyOf s n) vs _ rfl
    (fun t ht _ hv => (buoyOf_evictId_other i (fun hn => h (by rwa [hn])) t).trans ht)

/-- Retained moorings discarded leave every authoritative one (R362). -/
theorem dropRetainedIn_auth (i : Image) (p : Place) (len : Nat) (s : State) (n : Nat) :
    (buoyOf (dropRetainedIn i p len s) n).auth = (buoyOf s n).auth := by
  refine List.foldlRecOn (motive := fun t => (buoyOf t n).auth = (buoyOf s n).auth) _ _ rfl (fun t ht x _ => ?_)
  dsimp only
  split
  · exact ht
  · rw [buoyOf_updCounts, ← ht]
    by_cases hx : n = x.1
    · subst hx
      rw [buoyOf_updBuoy_same]
    · rw [buoyOf_updBuoy_other _ t hx]

end Sys2Proof.Machine
end

section
/-! SUPPORT. Promotions, moves and replicas (R356 to R362, R365, R378): what each leaves in the buoy's entry. -/
namespace Sys2Proof.Machine
open Claims

/-- A command on a declared buoy of the live image acts on it. -/
theorem onBuoy_declared {s : State} {i : Image} {id : Nat} {e : BuoyEntry} (hlive : s.img.live = some i) (he : buoyEntry i id = some e)
    (f : Image → BuoyEntry → State → State) : onBuoy id f s = f i e s := by
  simp only [onBuoy, hlive, he]

/-! ## Promotion (R356, R362) -/

theorem moorIn_place (s : State) (i : Image) (e : BuoyEntry) (p : Place) : (moorIn s i e p).place = p := by
  cases p <;> rfl

/-- The buoy is MOVING, and its move to dest has copied nothing. -/
def StartsMove (kind : MoveKind) (dest : Place) (b : BuoyState) : Prop :=
  b.phase = .moving ∧ ∃ m, b.move = some m ∧ m.kind = kind ∧ m.dest.place = dest ∧ m.next = 0 ∧ m.marked = []

theorem beginMove_starts (kind : MoveKind) (id : Nat) (m : Mooring) (s : State) :
    StartsMove kind m.place (buoyOf (beginMove kind id m s) id) := by
  unfold beginMove
  rw [buoyOf_updBuoy_same]
  exact ⟨rfl, _, rfl, rfl, rfl, rfl, rfl⟩

theorem beginMove_auth (kind : MoveKind) (id : Nat) (m : Mooring) (s : State) :
    (buoyOf (beginMove kind id m s) id).auth = (buoyOf s id).auth := by
  rw [beginMove, buoyOf_updBuoy_same]

theorem not_mem_blockers (s : State) (i : Image) (id : Nat) (p : Place) (n : Nat) : id ∉ blockers s i id p n := by
  simp [blockers]

/-- The victims' evictions leave the promoted buoy's own mooring. -/
theorem takePlace_auth (i : Image) (e : BuoyEntry) (dest : Place) (s : State) :
    (buoyOf (takePlace i e dest s) e.id).auth = (buoyOf s e.id).auth := by
  unfold takePlace
  dsimp only
  rw [beginMove_auth, buoyOf_foldl_evictId i (not_mem_blockers _ _ _ _ _), dropRetainedIn_auth]

theorem takePlace_starts (i : Image) (e : BuoyEntry) (dest : Place) (s : State) :
    StartsMove .promotion dest (buoyOf (takePlace i e dest s) e.id) := by
  have h := beginMove_starts .promotion e.id (moorIn s i e dest)
    ((blockers s i e.id dest (homeBytes e)).foldl (fun s v => evictId i v s) (dropRetainedIn i dest (homeBytes e) s))
  rwa [moorIn_place] at h

theorem promote_free {s : State} {i : Image} {e : BuoyEntry} {dest : Place}
    (h : (blockers s i e.id dest (homeBytes e)).find? (keepsPlace s i) = none) : promote i e dest s = takePlace i e dest s := by
  simp only [promote, h]

theorem promote_refused {s : State} {i : Image} {e : BuoyEntry} {dest : Place} {v : Nat}
    (h : (blockers s i e.id dest (homeBytes e)).find? (keepsPlace s i) = some v) (hnone : nextVictim s i e dest = none) :
    promote i e dest s = refuseEviction e.id v true s := by
  simp only [promote, h, hnone]

/-- The PLE is none of what a record may change. -/
theorem upToRecords_withPle {s t : State} (h : UpToRecords s t) (q : Ple) : UpToRecords { s with ple := q } { t with ple := q } := by
  unfold UpToRecords at *
  rw [h]
  rfl

/-- A refused promotion is counted and recorded, and nothing else (R362). -/
theorem refuseEviction_stays (id v : Nat) (s : State) : let y := refuseEviction id v true s
    UpToRecords { s with ple := y.ple } y
      ∧ y.ple = { s.ple with counts := { s.ple.counts with stayed := satAdd 32 s.ple.counts.stayed 1 } }
      ∧ Logged 0x0A01 (detail [(4, id), (4, v), (1, 1)]) s y := by
  have hkept : refuseEviction id v true s = { record 0x0A01 (detail [(4, id), (4, v), (1, 1)]) s with
      ple := { s.ple with counts := { s.ple.counts with stayed := satAdd 32 s.ple.counts.stayed 1 } } } := by
    unfold refuseEviction updCounts
    rw [record_ple]
    rfl
  rw [hkept]
  exact ⟨upToRecords_withPle (record_frame _ _ _) _, rfl, logged_of_ring (record_logged 0x0A01 _ s) rfl⟩

/-! ## Moves (R357, R359, R378) -/

/-- A repair asked for is queued (R373, R378). -/
theorem requestRepair_queued (who : Option Nat) (buoy tile : Nat) (s : State) :
    ∃ q ∈ (requestRepair who buoy tile s).ple.repairs, q.buoy = buoy ∧ q.tile = tile := by
  unfold requestRepair updBuoy setBuoy
  dsimp only
  split
  · next hany =>
    obtain ⟨r, hr, hmatch⟩ := List.any_eq_true.1 hany
    refine ⟨_, List.mem_map_of_mem hr, ?_⟩
    rw [if_pos hmatch]
    simpa using hmatch
  · exact ⟨_, List.mem_append_right _ (List.mem_singleton.2 rfl), rfl, rfl⟩

theorem buoyOf_requestRepair_same (who : Option Nat) (buoy tile : Nat) (s : State) :
    buoyOf (requestRepair who buoy tile s) buoy
      = { buoyOf s buoy with phase := .repairing, move := (buoyOf s buoy).move.map (fun m => { m with paused := true }) } := by
  unfold requestRepair
  rw [buoyOf_updBuoy_same]
  rfl

theorem buoyOf_dropMove_same (id : Nat) (s : State) : buoyOf (dropMove id s) id = BuoyState.unmoved (buoyOf s id) := buoyOf_updBuoy_same id _ s

/-- A move that meets a failed tile is given up, and the buoy waits for the repair (R360, R378). -/
theorem buoyOf_moveFails (id tile : Nat) (s : State) :
    (buoyOf (moveFails id tile s) id).move = none ∧ (buoyOf (moveFails id tile s) id).phase = .repairing := by
  rw [moveFails, buoyOf_requestRepair_same, buoyOf_dropMove_same]
  exact ⟨rfl, rfl⟩

theorem moveFails_logged (id tile : Nat) (s : State) : Logged 0x4A00 (detail [(4, id), (4, tile)]) s (moveFails id tile s) :=
  logged_of_ring (record_logged _ _ _) rfl

/-- A whole move has switched: the shadow is the authoritative mooring, the old one is retained where it may stay, and no other buoy's
entry changes (R357, R359). -/
def Switched (e : BuoyEntry) (m : Move) (s y : State) : Prop :=
  y = { s with ple := y.ple } ∧ (buoyOf y e.id).auth = m.dest ∧ (buoyOf y e.id).phase = .moored ∧ (buoyOf y e.id).move = none
    ∧ (buoyOf y e.id).retained = (if keepsOld e (buoyOf s e.id).auth then (buoyOf s e.id).retained ++ [(buoyOf s e.id).auth]
        else (buoyOf s e.id).retained)
    ∧ ∀ n, n ≠ e.id → buoyOf y n = buoyOf s n

/-- What the switch makes of the entry. -/
def switchedEntry (e : BuoyEntry) (m : Move) (b : BuoyState) : BuoyState :=
  { b with phase := .moored, move := none, auth := m.dest, retained := if keepsOld e b.auth then b.retained ++ [b.auth] else b.retained }

theorem finishMove_frame (e : BuoyEntry) (m : Move) (s : State) : finishMove e m s = { s with ple := (finishMove e m s).ple } := by
  unfold finishMove
  dsimp only
  split <;> rfl

theorem finishMove_table (e : BuoyEntry) (m : Move) (s : State) :
    (finishMove e m s).ple.table = (updBuoy e.id (switchedEntry e m) s).ple.table := by
  unfold finishMove
  dsimp only
  split <;> rfl

theorem countMove_finishMove_switched (k : MoveKind) (e : BuoyEntry) (m : Move) (s : State) :
    Switched e m s (countMove k (finishMove e m s)) := by
  have htable (n : Nat) : buoyOf (countMove k (finishMove e m s)) n = buoyOf (updBuoy e.id (switchedEntry e m) s) n :=
    buoyOf_of_table (finishMove_table e m s) n
  have hown := (htable e.id).trans (buoyOf_updBuoy_same e.id _ s)
  unfold Switched
  rw [hown]
  refine ⟨?_, rfl, rfl, rfl, rfl, fun n hn => (htable n).trans (buoyOf_updBuoy_other _ s hn)⟩
  unfold countMove updCounts
  rw [finishMove_frame]

/-! ## Replicas (R365) -/

theorem startReplica_auth (i : Image) (e : BuoyEntry) (dest : Place) (s : State) :
    (buoyOf (startReplica i e dest s) e.id).auth = (buoyOf s e.id).auth := by
  unfold startReplica
  rw [buoyOf_of_table (congrArg Ple.table (sendRouted_ple _ _ _)), beginMove_auth, dropRetainedIn_auth]

theorem startReplica_starts (i : Image) (e : BuoyEntry) (dest : Place) (s : State) :
    StartsMove .replica dest (buoyOf (startReplica i e dest s) e.id) := by
  unfold startReplica
  rw [buoyOf_of_table (congrArg Ple.table (sendRouted_ple _ _ _))]
  have h := beginMove_starts .replica e.id (moorIn s i e dest) (dropRetainedIn i dest (homeBytes e) s)
  rwa [moorIn_place] at h

/-! ## The commands -/

section
variable {s : State} {i : Image} {e : BuoyEntry} {m : Move} {dest : Place} (hlive : s.img.live = some i) (he : buoyEntry i e.id = some e)
include hlive he

theorem exec_promotion_asked (hmay : promotable s i e = true) (hfrom : tierOf (buoyOf s e.id).auth.place ≠ 2)
    (hto : tierOf dest < tierOf (buoyOf s e.id).auth.place) (hdest : destOk s i e dest = true)
    (hfree : awaitsFree s i dest (homeBytes e) = false) : exec (.promotion e.id dest) s = .next (promote i e dest s) := by
  change execPromotion e.id dest s = _
  unfold execPromotion
  rw [onBuoy_declared hlive he]
  simp [tryPromotion, hmay, hfrom, hto, hdest, hfree]

theorem exec_moveTileCopy_runs {k : Nat} (hm : (buoyOf s e.id).move = some m) (hk : moveTile (buoyTiles e) m = some k)
    (hgoing : m.paused = false) (hrun : s.glb.state = .running) (hbefore : beforeEclipse s = true) :
    exec (.moveTileCopy e.id) s = .next (copyNext e m k s) := by
  change execMoveTileCopy e.id s = _
  unfold execMoveTileCopy
  rw [onBuoy_declared hlive he]
  simp [hm, hk, hgoing, hrun, hbefore]

theorem exec_moveSwitch_whole (hm : (buoyOf s e.id).move = some m) (hwhole : moveWhole e m = true) (hkind : m.kind ≠ .replica) :
    exec (.moveSwitch e.id) s = .next (countMove m.kind (finishMove e m s)) := by
  change execMoveSwitch e.id s = _
  unfold execMoveSwitch
  rw [onBuoy_declared hlive he]
  simp [hm, hwhole, hkind]

theorem exec_replicaFillComplete_whole (hm : (buoyOf s e.id).move = some m) (hwhole : moveWhole e m = true) (hkind : m.kind = .replica) :
    exec (.replicaFillComplete e.id) s = .next (countMove .replica (finishMove e m s)) := by
  change execReplicaFillComplete e.id s = _
  unfold execReplicaFillComplete
  rw [onBuoy_declared hlive he]
  simp [hm, hwhole, hkind]

theorem exec_replicaFill_starts (hmay : replicaMay s i e dest = true) :
    exec (.replicaFill e.id dest) s = .next (startReplica i e dest s) := by
  change execReplicaFill e.id dest s = _
  unfold execReplicaFill
  rw [onBuoy_declared hlive he, if_pos hmay]

end

/-- The entry once the next of n tiles of its move is copied (R357). -/
def stepMove (n : Nat) (b : BuoyState) : BuoyState := { b with move := b.move.map (Move.step n) }

theorem copyNext_done {e : BuoyEntry} {m : Move} {k : Nat} {s x : State}
    (h : copyUnit e (buoyOf s e.id).auth m.dest k (moveUse m.kind e.id k) s = (.done, x)) :
    copyNext e m k s = updBuoy e.id (stepMove (buoyTiles e)) x := by
  simp only [copyNext, h]
  rfl

theorem copyNext_failed {e : BuoyEntry} {m : Move} {k : Nat} {s x : State}
    (h : copyUnit e (buoyOf s e.id).auth m.dest k (moveUse m.kind e.id k) s = (.failed, x)) : copyNext e m k s = moveFails e.id k x := by
  simp only [copyNext, h]

/-- Settles O42: each command by the state that it leaves, the promoted buoy being none of the victims. -/
theorem placementMovesBuoys : Obligations.PlacementMovesBuoys := by
  unfold Obligations.PlacementMovesBuoys
  intro id dest s i e hlive he
  obtain rfl := buoyEntry_id he
  refine ⟨fun hmay hfrom hto hdest hfree => ?promotion, fun m k x hm hk hgoing hrun hbefore => ?tile, fun m hm hwhole => ?switch,
    fun hmay => ?replica⟩
  case promotion =>
    have hexec := exec_promotion_asked hlive he hmay hfrom hto hdest hfree
    refine ⟨fun hnone => ⟨_, hexec, ?_⟩, fun v hv hvictim => ⟨_, hexec, ?_⟩⟩
    · rw [promote_free hnone]
      obtain ⟨hphase, hmove⟩ := takePlace_starts i e dest s
      exact ⟨hphase, takePlace_auth i e dest s, hmove⟩
    · rw [promote_refused hv hvictim]
      exact refuseEviction_stays e.id v s
  case tile =>
    have hexec := exec_moveTileCopy_runs hlive he hm hk hgoing hrun hbefore
    refine ⟨fun hdone => ⟨_, hexec, ?_⟩, fun hfailed => ⟨_, hexec, ?_⟩⟩
    · rw [copyNext_done hdone]
      have hown := buoyOf_updBuoy_same e.id (stepMove (buoyTiles e)) x
      exact ⟨rfl, congrArg BuoyState.move hown, (congrArg BuoyState.auth hown).trans rfl, fun n hn => buoyOf_updBuoy_other _ x hn⟩
    · rw [copyNext_failed hfailed]
      obtain ⟨hmove, hphase⟩ := buoyOf_moveFails e.id k x
      exact ⟨hmove, hphase, requestRepair_queued _ _ _ _, moveFails_logged e.id k x⟩
  case switch =>
    exact ⟨fun hkind => ⟨_, exec_moveSwitch_whole hlive he hm hwhole hkind, countMove_finishMove_switched _ e m s⟩,
      fun hkind => ⟨_, exec_replicaFillComplete_whole hlive he hm hwhole hkind, countMove_finishMove_switched _ e m s⟩⟩
  case replica =>
    obtain ⟨hphase, m, hm, hkind, hplace, hnext, -⟩ := startReplica_starts i e dest s
    exact ⟨_, exec_replicaFill_starts hlive he hmay, hphase, startReplica_auth i e dest s, m, hm, hkind, hplace, hnext⟩

end Sys2Proof.Machine
end

section
/-! SUPPORT. Windows (R344, R345): what is left of a job once its last tile is copied. -/
namespace Sys2Proof.Machine

/-- A job with no tile left stands no more among the windows as it was, unless none was left before. -/
theorem setLeft_windows {j k : WindowJob} {s : State} (h : k ∈ (setLeft j 0 s).ple.windows) : k ≠ j ∨ j.left = 0 := by
  obtain ⟨x, -, rfl⟩ := List.mem_map.1 h
  by_cases hx : x = j
  · rw [if_pos hx, ← hx]
    by_cases hleft : x.left = 0
    · exact .inr hleft
    · exact .inl (fun heq => hleft (congrArg WindowJob.left heq).symm)
  · rw [if_neg hx]
    exact .inl hx

section
variable {i : Image} {e : BuoyEntry} {j : WindowJob} {s x : State}

theorem fillWindow_last (h : copyRest e (buoyOf (yieldMove e.id s) e.id).auth ⟨residenceAt s.img.binding i e (j.planBeam + 1), false⟩ j.left
    (yieldMove e.id s) = (0, x)) :
    fillWindow i e j s = updCounts (fun c => { c with fills := satAdd 32 c.fills 1 }) (setLeft j 0 x) := by
  have hbinding : (yieldMove e.id s).img = s.img := by
    unfold yieldMove
    split <;> rfl
  unfold fillWindow
  dsimp only
  rw [hbinding, h]
  rfl

theorem writeWindow_last (h : copyRest e (buoyOf s e.id).auth (moorIn s i e (buoyOf s e.id).home) j.left s = (0, x)) :
    writeWindow i e j s = updCounts (fun c => { c with writebacks := satAdd 32 c.writebacks 1 })
      (updBuoy e.id (homeAgain (moorIn s i e (buoyOf s e.id).home)) (setLeft j 0 x)) := by
  unfold writeWindow
  dsimp only
  rw [h]
  rfl

variable (hlive : s.img.live = some i) (he : buoyEntry i e.id = some e) (hrun : planRuns s = true) (hbefore : beforeEclipse s = true)
include hlive he hrun hbefore

theorem exec_windowFill_runs (hj : jobOf s e.id true = some j) : exec (.windowFill e.id) s = .next (fillWindow i e j s) := by
  change execWindowFill e.id s = _
  unfold execWindowFill
  rw [onBuoy_declared hlive he]
  simp only [hj, hrun, hbefore, Bool.and_self, if_true]

theorem exec_writeBack_runs (hj : jobOf s e.id false = some j) : exec (.writeBack e.id) s = .next (writeWindow i e j s) := by
  change execWriteBack e.id s = _
  unfold execWriteBack
  rw [onBuoy_declared hlive he]
  simp only [hj, hrun, hbefore, Bool.and_self, if_true]

end

/-- Settles O43: the last tile's copy leaves the job empty, its counter one higher and, for a write-back, the buoy at home. -/
theorem windowsFillAndEmpty : Obligations.WindowsFillAndEmpty := by
  unfold Obligations.WindowsFillAndEmpty
  intro id s x i e j hlive he hrun hbefore
  obtain rfl := buoyEntry_id he
  refine ⟨fun hj hcopied => ⟨_, exec_windowFill_runs hlive he hrun hbefore hj, ?fill⟩,
    fun hj hcopied => ⟨_, exec_writeBack_runs hlive he hrun hbefore hj, ?writeBack⟩⟩
  case fill =>
    rw [fillWindow_last hcopied]
    exact ⟨rfl, rfl, rfl, fun k hk => setLeft_windows hk⟩
  case writeBack =>
    rw [writeWindow_last hcopied]
    have hown := buoyOf_updBuoy_same e.id (homeAgain (moorIn s i e (buoyOf s e.id).home)) (setLeft j 0 x)
    exact ⟨rfl, rfl, congrArg BuoyState.auth hown, congrArg BuoyState.retained hown, fun n hn => buoyOf_updBuoy_other _ (setLeft j 0 x) hn⟩

end Sys2Proof.Machine
end

section
/-! SUPPORT. Accesses to T1 from outside (R397, R549, R553 to R560, R564, R566, R584): what a violation, a write under a byte mask, a guarded
write and a read through the aperture leave. -/
namespace Sys2Proof.Machine
open Claims

/-! ## Writes under a byte mask (R549) -/

theorem lineFailed_t1Store (l : Lpd) (a : Nat) (bs : Bytes) (w : Option Nat) (n : Nat) : lineFailed (t1Store l a bs w) n = lineFailed l n :=
  List.foldlRecOn (motive := fun m : Lpd => lineFailed m n = lineFailed l n) _ _ rfl
    (fun m hm c _ => (lineFailed_acceptLine w m c n).trans hm)

/-- Byte k of a masked write: stored where the mask enables it. -/
def maskStep (a mask : Nat) (data : Bytes) (l : Lpd) (k : Nat) : Lpd :=
  if mask.testBit k then t1Store l (a + k) [data.getD k 0] none else l

theorem maskedStore_eq_foldl (a mask : Nat) (data : Bytes) (l : Lpd) :
    maskedStore a mask data l = (List.range 64).foldl (maskStep a mask data) l := rfl

section
variable {l : Lpd} {a mask j : Nat} {data : Bytes}

theorem maskStep_wf (hwf : Lpd.wf l = true) (k : Nat) : Lpd.wf (maskStep a mask data l k) = true := by
  unfold maskStep
  split
  · exact t1Store_wf _ _ _ hwf
  · exact hwf

theorem lineFailed_maskStep (k n : Nat) : lineFailed (maskStep a mask data l k) n = lineFailed l n := by
  unfold maskStep
  split
  · exact lineFailed_t1Store _ _ _ _ _
  · rfl

variable (hwf : Lpd.wf l = true) (hgood : lineFailed l (j / 64) = false)
include hwf hgood

theorem byteOf_maskStep (k : Nat) :
    byteOf (maskStep a mask data l k) j = if j = a + k ∧ mask.testBit k = true then data.getD k 0 else byteOf l j := by
  unfold maskStep
  by_cases hbit : mask.testBit k = true
  · rw [if_pos hbit, byteOf_t1Store hwf hgood]
    by_cases hj : j = a + k
    · rw [if_pos ⟨Nat.le_of_eq hj.symm, by rw [List.length_singleton]; omega⟩, if_pos ⟨hj, hbit⟩, hj, Nat.sub_self]
      rfl
    · rw [if_neg (by rw [List.length_singleton]; omega), if_neg (fun h => hj h.1)]
  · rw [if_neg hbit, if_neg (fun h => hbit h.2)]

theorem byteOf_foldl_maskStep (ks : List Nat) :
    byteOf (ks.foldl (maskStep a mask data) l) j =
      if a ≤ j ∧ j - a ∈ ks ∧ mask.testBit (j - a) = true then data.getD (j - a) 0 else byteOf l j := by
  induction ks generalizing l with
  | nil => simp
  | cons k ks ih =>
    rw [List.foldl_cons, ih (maskStep_wf hwf k) ((lineFailed_maskStep k _).trans hgood), byteOf_maskStep hwf hgood]
    by_cases hk : j = a + k
    · obtain rfl := hk
      cases hbit : mask.testBit k <;> simp [hbit]
    · have hin : a ≤ j ∧ j - a ∈ k :: ks ∧ mask.testBit (j - a) = true ↔ a ≤ j ∧ j - a ∈ ks ∧ mask.testBit (j - a) = true :=
        and_congr_right (fun hle => by rw [List.mem_cons, or_iff_right (by omega)])
      rw [if_neg (c := j = a + k ∧ _) (fun h => hk h.1)]
      simp only [hin]

/-- A masked write changes the enabled bytes of its 64, and no other byte of units that work (R549). -/
theorem t1Bytes_maskedStore (mask : W64) : t1Bytes (maskedStore a mask.toNat data l) j 1 =
    if a ≤ j ∧ j < a + 64 ∧ mask.getLsbD (j - a) = true then [data.getD (j - a) 0] else t1Bytes l j 1 := by
  have hin : a ≤ j ∧ j - a ∈ List.range 64 ∧ mask.toNat.testBit (j - a) = true ↔ a ≤ j ∧ j < a + 64 ∧ mask.getLsbD (j - a) = true := by
    rw [List.mem_range, BitVec.testBit_toNat]
    constructor <;> rintro ⟨hlow, hhigh, hbit⟩ <;> exact ⟨hlow, by omega, hbit⟩
  rw [t1Bytes_one (maskedStore_wf a _ data hwf), t1Bytes_one hwf, maskedStore_eq_foldl, byteOf_foldl_maskStep hwf hgood]
  simp only [hin]
  split <;> rfl

end

/-! ## Violations (R584) -/

/-- The state in which a violation is counted and latched, before its record. -/
def latchViolation (who : Nat) (write : Bool) (line : Nat) (s : State) : State :=
  { s with host := { s.host with
    violations := satAdd 32 s.host.violations 1, thisSecond := satAdd 32 s.host.thisSecond 1,
    fwlLast := w64 (at_ 61 who + at_ 60 (b01 write) + line * 64 % 2 ^ 45),
    violated := if s.host.violated.contains who then s.host.violated else who :: s.host.violated } }

section
variable (who : Nat) (write : Bool) (line : Nat) (s : State)

theorem violate_eq : violate who write line s = if s.host.violated.contains who then latchViolation who write line s
    else record 0x5001 (detail [(1, who), (1, b01 write), (8, line * 64)]) (latchViolation who write line s) := rfl

theorem violate_upToRecords : UpToRecords (latchViolation who write line s) (violate who write line s) := by
  rw [violate_eq]
  split
  · exact upToRecords_refl _
  · exact record_frame _ _ _

theorem violate_host : (violate who write line s).host = (latchViolation who write line s).host := by
  rw [violate_upToRecords]
  rfl

@[simp] theorem violate_lpd : (violate who write line s).lpd = s.lpd := by
  rw [violate_upToRecords]
  rfl

@[simp] theorem violate_violations : (violate who write line s).host.violations = satAdd 32 s.host.violations 1 := by
  rw [violate_host]
  rfl

@[simp] theorem violate_fwlLast :
    (violate who write line s).host.fwlLast = w64 (at_ 61 who + at_ 60 (b01 write) + line * 64 % 2 ^ 45) := by
  rw [violate_host]
  rfl

/-- The latch of a read names the requester and the line alone. -/
theorem violate_read_fwlLast : (violate who false line s).host.fwlLast = w64 (at_ 61 who + line * 64 % 2 ^ 45) := by
  simp [b01, at_]

variable {who s}

/-- The requester's first violation in the signalling period is recorded. -/
theorem violate_logged (h : who ∉ s.host.violated) :
    Logged 0x5001 (detail [(1, who), (1, b01 write), (8, line * 64)]) s (violate who write line s) := by
  rw [violate_eq, if_neg (by simpa using h)]
  exact record_logged _ _ (latchViolation who write line s)

end

/-! ## CXL.mem (R549) -/

section
variable {line : Nat} {s : State}

theorem exec_cxlMemRead_served (hserved : hostServed s = true) (hcovers : hdmCovers s line = true) :
    exec (.cxlMemRead line) s = .next (memRead line s) :=
  congrArg Host.Outcome.next (if_pos (by rw [hserved, hcovers]; rfl))

theorem exec_cxlMemWrite_served (hserved : hostServed s = true) (hcovers : hdmCovers s line = true) (mask : W64) (data : Bytes) :
    exec (.cxlMemWrite line mask data) s =
      .next { memWrite line mask data s with out := .memDone line :: (memWrite line mask data s).out } :=
  congrArg Host.Outcome.next (if_pos (by rw [hserved, hcovers]; rfl))

variable (hstate : s.glb.state ≠ .hostLost)
include hstate

theorem memRead_granted (h : firstBarred s.live 0 false (s.host.regionBase + 64 * line) 64 = none)
    (hbad : badLines s (s.host.regionBase + 64 * line) 64 = [])
    (hgood : ∀ n ∈ linesOf (s.host.regionBase + 64 * line) 64, lineFailed s.lpd n = false) :
    memRead line s = { s with out := .memData line (t1Bytes s.lpd (s.host.regionBase + 64 * line) 64) false :: s.out } := by
  have hpoison : (linesOf (s.host.regionBase + 64 * line) 64).any (lineFailed s.lpd) = false :=
    List.any_eq_false.2 (fun n hn => by simp [hgood n hn])
  unfold memRead
  dsimp only
  rw [if_neg hstate, h, t1Read_good hbad, hpoison]

theorem memRead_barred {x : Nat} (h : firstBarred s.live 0 false (s.host.regionBase + 64 * line) 64 = some x) :
    memRead line s = { violate 0 false x s with out := .memData line (ones 64) true :: (violate 0 false x s).out } := by
  unfold memRead
  dsimp only
  rw [if_neg hstate, h]

theorem memWrite_granted (h : firstBarred s.live 0 true (s.host.regionBase + 64 * line) 64 = none) (mask : W64) (data : Bytes) :
    memWrite line mask data s = { s with lpd := maskedStore (s.host.regionBase + 64 * line) mask.toNat data s.lpd } := by
  unfold memWrite
  dsimp only
  rw [if_neg hstate, h]

theorem memWrite_barred {x : Nat} (h : firstBarred s.live 0 true (s.host.regionBase + 64 * line) 64 = some x) (mask : W64) (data : Bytes) :
    memWrite line mask data s = violate 0 true x s := by
  unfold memWrite
  dsimp only
  rw [if_neg hstate, h]

end

/-! ## Guarded writes (R564, R566, R584) -/

theorem t1Write_lpd (a : Nat) (bs : Bytes) (w : Option Nat) (s : State) : (t1Write a bs w s).lpd = t1Store s.lpd a bs w := by
  unfold t1Write tellHost
  split <;> rfl

section
variable {who producer a : Nat} {data : Bytes} {s : State}

theorem guardedWrite_refused {x : Nat} (h : firstRefused s who producer a data.length = some x) (act : State → State) :
    guardedWrite who producer a data act s = violate who true x s := by
  unfold guardedWrite
  rw [h]

variable (h : firstRefused s who producer a data.length = none)
include h

theorem guardedWrite_performed (hlocked : lockedTouched s producer a data.length = []) (act : State → State) :
    guardedWrite who producer a data act s = act (t1Write a data none s) := by
  unfold guardedWrite
  rw [h, hlocked]

theorem guardedWrite_dropped {n : Nat} (hlocked : lockedTouched s producer a data.length = [n]) (act : State → State) :
    guardedWrite who producer a data act s = dropWrite s n := by
  unfold guardedWrite
  rw [h, hlocked]
  rfl

end

/-- The state in which window n has dropped a write. -/
def noteDropped (n : Nat) (w : LockedWin) (s : State) : State :=
  { s with host := { s.host with locked := SMap.insert s.host.locked n { w with dropped := true } } }

/-- The first write to a locked window (R566). -/
theorem dropWrite_first {s : State} {n : Nat} {w : LockedWin} (h : SMap.find? s.host.locked n = some w) (hfirst : w.dropped = false) :
    dropWrite s n = record 0x5005 (detail [(1, n)]) (noteDropped n w s) := by
  unfold dropWrite
  rw [h]
  exact if_neg (by simp [hfirst])

/-! ## The read buffers of the aperture (R554 to R556) -/

/-- Nothing but the host site and the count of free values differs. -/
def OnlyBuffers (s t : State) : Prop := t = { s with host := t.host, freeCount := t.freeCount }

theorem onlyBuffers_refl (s : State) : OnlyBuffers s s := rfl

theorem onlyBuffers_trans {s t u : State} (h : OnlyBuffers s t) (k : OnlyBuffers t u) : OnlyBuffers s u := by
  unfold OnlyBuffers at *
  rw [k, h]

theorem OnlyBuffers.env {s t : State} (h : OnlyBuffers s t) : t.env = s.env := by
  unfold OnlyBuffers at h
  rw [h]

@[simp] theorem apertureBuf_setApertureBuf (site : Site) (b : List (Nat × Bytes × Bool)) (s : State) :
    apertureBuf (setApertureBuf site b s) site = b := by
  cases site <;> rfl

theorem setApertureBuf_onlyBuffers (site : Site) (b : List (Nat × Bytes × Bool)) (s : State) : OnlyBuffers s (setApertureBuf site b s) := by
  cases site <;> rfl

theorem bufferLine_onlyBuffers (site : Site) (x : Nat × Bytes × Bool) (s : State) : OnlyBuffers s (bufferLine site x s) := by
  unfold bufferLine
  dsimp only
  split
  · exact setApertureBuf_onlyBuffers _ _ _
  · exact onlyBuffers_trans (t := { s with freeCount := s.freeCount + 1 }) rfl (setApertureBuf_onlyBuffers _ _ _)

/-- A line placed in the buffer is found there, also where the buffer was full. -/
theorem find?_bufferLine (site : Site) (x : Nat × Bytes × Bool) (s : State) :
    (apertureBuf (bufferLine site x s) site).find? (fun y => y.1 == x.1) = some x := by
  unfold bufferLine
  dsimp only
  split <;> simp

theorem linesOf_line (x : Nat) : linesOf (x * 64) 64 = [x] := by
  have hfirst : x * 64 / 64 = x := by omega
  have hlast : (x * 64 + 64 - 1) / 64 = x := by omega
  rw [linesOf, if_neg (by omega), hfirst, hlast, Nat.sub_self]
  simp

section
variable {s : State} (hbad : s.env.badT1 = [])
include hbad

theorem badLines_of_noBad (a n : Nat) : badLines s a n = [] := by
  simp [badLines, hbad]

theorem fetchLine_noBad (site : Site) (line : Nat) :
    fetchLine site line s = bufferLine site (line, t1Bytes s.lpd (line * 64) 64, lineFailed s.lpd line) s := by
  unfold fetchLine
  rw [t1Read_good (badLines_of_noBad hbad _ _), linesOf_line, List.any_cons, List.any_nil, Bool.or_false]

theorem prefetchLine_onlyBuffers (site : Site) (line : Nat) : OnlyBuffers s (prefetchLine site s line) := by
  unfold prefetchLine
  split
  · exact onlyBuffers_refl s
  · rw [fetchLine_noBad hbad]
    exact bufferLine_onlyBuffers _ _ _

theorem prefetch_onlyBuffers (site : Site) (line n : Nat) :
    OnlyBuffers s ((List.range n).foldl (fun s k => prefetchLine site s (line + 1 + k)) s) :=
  List.foldlRecOn (motive := OnlyBuffers s) _ _ (onlyBuffers_refl s)
    (fun t ht k _ => onlyBuffers_trans ht (prefetchLine_onlyBuffers (by rw [ht.env, hbad]) site (line + 1 + k)))

/-- A line that the buffer does not hold comes from T1; its fetch and the prefetches change the buffer (R554). -/
theorem apertureLine_miss {site : Site} {line : Nat} (hmiss : (apertureBuf s site).find? (fun y => y.1 == line) = none) :
    (apertureLine site line s).1 = (t1Bytes s.lpd (line * 64) 64, lineFailed s.lpd line) ∧ OnlyBuffers s (apertureLine site line s).2 := by
  have hfetch := fetchLine_noBad (s := { s with freeCount := s.freeCount + 1 }) hbad site line
  have hfetched : OnlyBuffers s (fetchLine site line { s with freeCount := s.freeCount + 1 }) := by
    rw [hfetch]
    exact onlyBuffers_trans (t := { s with freeCount := s.freeCount + 1 }) rfl (bufferLine_onlyBuffers _ _ _)
  unfold apertureLine
  rw [hmiss]
  refine ⟨?data, onlyBuffers_trans hfetched (prefetch_onlyBuffers (by rw [hfetched.env, hbad]) site line _)⟩
  dsimp only
  rw [hfetch, find?_bufferLine site (line, t1Bytes s.lpd (line * 64) 64, lineFailed s.lpd line)]
  rfl

end

theorem apertureLine_hit {site : Site} {line : Nat} {s : State} {y : Nat × Bytes × Bool}
    (hhit : (apertureBuf s site).find? (fun y => y.1 == line) = some y) : apertureLine site line s = (y.2, s) := by
  unfold apertureLine
  rw [hhit]

theorem apertureLines_one (site : Site) (line : Nat) (s : State) : apertureLines site [line] s = apertureLine site line s := by
  simp [apertureLines]

/-! ## Accesses through the aperture (R553 to R556) -/

section
variable {site : Site} {off : Nat} {s : State}

theorem exec_apertureRead_served {len : Nat} (hserved : siteServed site s = true) (hbar : inBar2 off len = true) :
    exec (.apertureRead site off len) s = .next (readAperture site off len s) :=
  congrArg Host.Outcome.next (if_pos (by rw [hserved, hbar]; rfl))

theorem exec_apertureWrite_served {data : Bytes} (hserved : siteServed site s = true) (hbar : inBar2 off data.length = true) :
    exec (.apertureWrite site off data) s = .next (writeAperture site off data s) :=
  congrArg Host.Outcome.next (if_pos (by rw [hserved, hbar]; rfl))

theorem exec_apertureDrain_served (hserved : siteServed site s = true) : exec (.apertureDrain site) s =
    .next { (drainAperture site s).2 with out := .drained site (drainAperture site s).1 :: (drainAperture site s).2.out } :=
  congrArg Host.Outcome.next (if_pos hserved)

theorem refuseAperture_logged (site : Site) (off : Nat) (s : State) :
    Logged 0x5006 (detail [(1, siteCode site), (8, off)]) s (refuseAperture site off s) := record_logged _ _ s

theorem refuseAperture_frame (site : Site) (off : Nat) (s : State) : UpToRecords s (refuseAperture site off s) := record_frame _ _ s

theorem readAperture_refused {len : Nat} (h : s.glb.state = .hostLost ∨ apertureBarred s (apertureAt s off) len = true) :
    readAperture site off len s =
      { refuseAperture site off s with out := .apertureData site (ones len) false false :: (refuseAperture site off s).out } := if_pos h

theorem readAperture_barred {len x : Nat} (h : ¬(s.glb.state = .hostLost ∨ apertureBarred s (apertureAt s off) len = true))
    (hbarred : firstBarred s.live (siteRequester site) false (apertureAt s off) len = some x) :
    readAperture site off len s = { violate (siteRequester site) false x s with
      out := .apertureData site (ones len) false true :: (violate (siteRequester site) false x s).out } := by
  unfold readAperture
  dsimp only
  rw [if_neg h, hbarred]

/-- A read within one line takes its bytes out of the line's, which come from the buffer or from T1 (R554). -/
theorem readAperture_line {len x : Nat} (h : ¬(s.glb.state = .hostLost ∨ apertureBarred s (apertureAt s off) len = true))
    (hgranted : firstBarred s.live (siteRequester site) false (apertureAt s off) len = none) (hline : linesOf (apertureAt s off) len = [x]) :
    readAperture site off len s = { (apertureLine site x s).2 with
      out := .apertureData site (((apertureLine site x s).1.1.drop (apertureAt s off % 64)).take len) (apertureLine site x s).1.2 false
        :: (apertureLine site x s).2.out } := by
  unfold readAperture
  dsimp only
  rw [if_neg h, hgranted, hline, apertureLines_one]

theorem writeAperture_refused {data : Bytes}
    (h : s.glb.state = .hostLost ∨ inJob s = true ∨ apertureBarred s (apertureAt s off) data.length = true) :
    writeAperture site off data s = refuseAperture site off s := if_pos h

theorem writeAperture_guarded {data : Bytes}
    (h : ¬(s.glb.state = .hostLost ∨ inJob s = true ∨ apertureBarred s (apertureAt s off) data.length = true)) :
    writeAperture site off data s =
      guardedWrite (siteRequester site) 0 (apertureAt s off) data (dropBuffered (apertureAt s off) data.length) s := if_neg h

end

/-- The lines of a write are in neither buffer afterwards, and nothing else comes in (R556). -/
theorem mem_dropBuffered {a n : Nat} {s : State} {x : Nat × Bytes × Bool}
    (hx : x ∈ (dropBuffered a n s).host.bufHost ++ (dropBuffered a n s).host.bufPartner) :
    x ∈ s.host.bufHost ++ s.host.bufPartner ∧ x.1 ∉ linesOf a n := by
  have hkept : x ∈ (s.host.bufHost ++ s.host.bufPartner).filter (fun y => !(linesOf a n).contains y.1) := by
    rw [List.filter_append]
    exact hx
  obtain ⟨hin, hline⟩ := List.mem_filter.1 hkept
  exact ⟨hin, by simpa using hline⟩

/-! ## Root ports (R558 to R560) -/

section
variable {port addr : Nat} {s : State}

theorem readInbound_unsupported {n : Nat} (h : inboundUnsupported s addr n = true) :
    readInbound port addr n s = { s with out := .unsupported port :: s.out } := if_pos h

theorem readInbound_granted {n : Nat} (h : inboundUnsupported s addr n = false) (hgranted : firstBarred s.live (3 + port) false addr n = none)
    (hbad : badLines s addr n = []) : readInbound port addr n s =
      { s with out := .peerData port (t1Bytes s.lpd addr n) ((linesOf addr n).any (lineFailed s.lpd)) false :: s.out } := by
  unfold readInbound
  rw [if_neg (by simp [h]), hgranted, t1Read_good hbad]

theorem readInbound_barred {n x : Nat} (h : inboundUnsupported s addr n = false)
    (hbarred : firstBarred s.live (3 + port) false addr n = some x) : readInbound port addr n s =
      { violate (3 + port) false x s with out := .peerData port (ones n) false true :: (violate (3 + port) false x s).out } := by
  unfold readInbound
  rw [if_neg (by simp [h]), hbarred]

end

section
variable {port : Fin 2} {s : State} (hup : (rootPort s port.val).up = true)
include hup

theorem exec_inboundRead_up (addr len : Nat) : exec (.inboundRead port addr len) s = .next (readInbound port.val addr len s) :=
  congrArg Host.Outcome.next (if_pos hup)

theorem exec_inboundWrite_unsupported {addr : Nat} {data : Bytes} (h : inboundUnsupported s addr data.length = true) :
    exec (.inboundWrite port addr data) s = .next { s with out := .unsupported port.val :: s.out } := by
  change execInboundWrite port addr data s = _
  simp [execInboundWrite, hup, h]

theorem exec_inboundWrite_guarded {addr : Nat} {data : Bytes} (h : inboundUnsupported s addr data.length = false) :
    exec (.inboundWrite port addr data) s = .next (guardedWrite (3 + port.val) (port.val + 1) addr data id s) := by
  change execInboundWrite port addr data s = _
  simp [execInboundWrite, hup, h]

end

/-- What leaves for the peer of a BAR4 offset (R560). -/
theorem accessPeer_eq (off : Nat) (data : Option Bytes) (reply : Bytes) (s : State) :
    let up := (rootPort s (off / 2 ^ 29)).up
    let sent := if up then Out.peerAccess (off / 2 ^ 29) (0x200000000000 + off % 2 ^ 29) data :: s.out else s.out
    accessPeer off data reply s = { s with
      out := if data = none then .bar4Data (if up then reply else ones reply.length) :: sent else sent } := by
  dsimp only
  unfold accessPeer bar4At
  dsimp only
  cases data <;> cases (rootPort s (off / 2 ^ 29)).up <;> rfl

theorem exec_bar4Access_served {off : Nat} {s : State} (hserved : hostServed s = true) (hoff : off < 2 ^ 30) (data : Option Bytes)
    (reply : Bytes) : exec (.bar4Access off data reply) s = .next (accessPeer off data reply s) :=
  congrArg Host.Outcome.next (if_pos (by rw [hserved, decide_eq_true hoff]; rfl))

/-! ## Configuration accesses (R560) -/

section
variable {p : Port} {s : State} (hreach : Reaches p .aptCfgData 0 s)
include hreach

/-- No word decides whether a write reaches APT_CFG_DATA. -/
theorem reaches_aptCfgData (v : Nat) : Reaches p .aptCfgData v s := by
  have hsame : writePath p .aptCfgData v s = writePath p .aptCfgData 0 s := by cases p <;> rfl
  exact hsame.trans hreach

theorem exec_aptCfgDataRead_open (reply : Option W32) : exec (.aptCfgDataRead p reply) s =
    .next { (cfgRead reply s).2 with out := .csr p cfgDataOffset (cfgRead reply s).1 :: (cfgRead reply s).2.out } := by
  change execAptCfgDataRead p reply s = _
  unfold execAptCfgDataRead
  rw [show writePath p .aptCfgData 0 s = .open from hreach]

/-- A word of 32 bits holds no reserved bit of APT_CFG_DATA, and its field takes it whole (Table 16.20). -/
theorem exec_aptCfgDataWrite_open (d : W32) (ok : Bool) :
    exec (.aptCfgDataWrite p (w64 d.toNat) ok) s = .next (cfgWrite d.toNat ok s) := by
  have hd : d.toNat < 2 ^ 32 := d.isLt
  have hword : (w64 d.toNat).toNat = d.toNat := Nat.mod_eq_of_lt (by omega)
  have hreserved : bits d.toNat 63 33 = 0 := by
    simp only [bits]
    omega
  have hfield : bits d.toNat 31 0 = d.toNat := by
    simp only [bits]
    omega
  have hkept : writeRefused Reg.aptCfgData.spec d.toNat = false := by
    simp [writeRefused, Reg.spec, hreserved, Takes.accepts]
  have htaken : acceptFields Reg.aptCfgData.spec.fields 0 d.toNat = d.toNat := by
    simp [acceptFields, Reg.spec, hfield, Takes.accepts]
  change execAptCfgDataWrite p (w64 d.toNat) ok s = _
  unfold execAptCfgDataWrite
  rw [regWrite_open (reaches_aptCfgData hreach _), hword, noteDiscard_kept hkept, htaken]

end

section
variable {s : State} (hup : (rootPort s (cfgPort s)).up = true)
include hup

theorem sendCfg_up (data : Option W32) : sendCfg data s = { s with out := .cfgAccess s.host.cfgAddr data :: s.out } := if_pos hup

theorem cfgRead_up (reply : Option W32) : cfgRead reply s =
    (w64 (at_ 32 (b01 reply.isNone) + (reply.getD 0xFFFFFFFF).toNat),
      noteCfg reply { s with out := .cfgAccess s.host.cfgAddr none :: s.out }) := by
  unfold cfgRead
  rw [if_pos hup, sendCfg_up hup]
  rfl

theorem cfgWrite_up (d : W32) : cfgWrite d.toNat true s = noteCfg (some d) { s with out := .cfgAccess s.host.cfgAddr (some d) :: s.out } := by
  have hd : BitVec.ofNat 32 d.toNat = d := BitVec.ofNat_toNat 32 d
  unfold cfgWrite
  dsimp only
  rw [hd, sendCfg_up hup, Bool.true_and, if_pos hup]

end

end Sys2Proof.Machine
end

section
/-! SUPPORT. Accesses to T1 from outside (R397, R549, R553 to R560, R564, R566, R584): what each port's command leaves. -/
namespace Sys2Proof.Machine
open Claims

/-- Settles O52: each port's command by whether the device refuses it, a window bars it, or it reaches T1; a masked write by what one offset
of T1 reads as, and an aperture read by whether the site's buffer holds the line. -/
theorem outsideAccessesReachT1 : Obligations.OutsideAccessesReachT1 := by
  unfold Obligations.OutsideAccessesReachT1
  refine ⟨fun s hserved hstate line hcovers => ?mem, fun site off s hserved => ⟨fun len hbar => ?apertureRead, fun data hbar => ?apertureWrite,
    ?apertureDrain⟩, fun port addr s hup => ⟨fun len h => ⟨_, exec_inboundRead_up hup addr len, readInbound_unsupported h⟩,
    fun data h => ⟨_, exec_inboundWrite_unsupported hup h, rfl⟩, fun len h => ?inboundRead, fun data h => ?inboundWrite⟩,
    fun off data reply s hserved hoff => ?bar4, fun p s hreach hup => ?cfg⟩
  case mem =>
    have hread := exec_cxlMemRead_served hserved hcovers
    have hwrite := exec_cxlMemWrite_served hserved hcovers
    refine ⟨fun hgranted hbad hgood => ⟨_, hread, memRead_granted hstate hgranted hbad hgood⟩, fun x hbarred => ⟨_, hread, ?_⟩,
      fun mask data hgranted => ⟨_, hwrite mask data, ?_⟩, fun mask data x hbarred => ⟨_, hwrite mask data, ?_⟩⟩
    · rw [memRead_barred hstate hbarred]
      exact ⟨rfl, violate_violations .., by simp [b01, at_], fun hfirst => logged_of_ring (violate_logged false x hfirst) rfl⟩
    · rw [memWrite_granted hstate hgranted]
      exact ⟨rfl, fun hwf k hgood => t1Bytes_maskedStore hwf hgood mask⟩
    · rw [memWrite_barred hstate hbarred]
      exact ⟨violate_lpd .., violate_violations .., rfl⟩
  case apertureRead =>
    have hexec := exec_apertureRead_served hserved hbar
    refine ⟨fun hrefused => ⟨_, hexec, ?_⟩, fun hstate hreaches => ?_⟩
    · rw [readAperture_refused hrefused]
      exact ⟨logged_of_ring (refuseAperture_logged site off s) rfl, rfl, upToRecords_trans (refuseAperture_frame site off s) rfl⟩
    have hserves : ¬(s.glb.state = .hostLost ∨ apertureBarred s (apertureAt s off) len = true) := by simp [hstate, hreaches]
    refine ⟨fun x hbarred => ⟨_, hexec, ?_⟩, fun x hgranted hline => ⟨fun y hhit => ⟨_, hexec, ?_⟩, fun hmiss hbad hgood => ⟨_, hexec, ?_⟩⟩⟩
    · rw [readAperture_barred hserves hbarred]
      exact ⟨rfl, violate_violations ..⟩
    · rw [readAperture_line hserves hgranted hline, apertureLine_hit hhit]
    · obtain ⟨hdata, hframe⟩ := apertureLine_miss hbad hmiss
      rw [readAperture_line hserves hgranted hline, hdata, hgood]
      dsimp only
      rw [hframe]
  case apertureWrite =>
    have hexec := exec_apertureWrite_served hserved hbar
    refine ⟨fun hrefused => ⟨_, hexec, ?_⟩, fun hstate hjob hreaches => ?_⟩
    · rw [writeAperture_refused hrefused]
      exact ⟨refuseAperture_frame site off s, refuseAperture_logged site off s⟩
    rw [writeAperture_guarded (by simp [hstate, hjob, hreaches])] at hexec
    refine ⟨fun hallowed hlocked => ⟨_, hexec, ?_⟩, fun x hrefused => ⟨_, hexec, ?_⟩⟩
    · rw [guardedWrite_performed hallowed hlocked, t1Write_frame]
      exact ⟨t1Write_lpd .., rfl, fun x => mem_dropBuffered⟩
    · rw [guardedWrite_refused hrefused]
      exact ⟨violate_lpd .., violate_violations ..⟩
  case apertureDrain =>
    refine ⟨_, exec_apertureDrain_served hserved, ?_⟩
    cases site <;> exact ⟨rfl, rfl, rfl⟩
  case inboundRead =>
    refine ⟨fun hgranted hbad => ⟨_, exec_inboundRead_up hup addr len, readInbound_granted h hgranted hbad⟩,
      fun x hbarred => ⟨_, exec_inboundRead_up hup addr len, ?_⟩⟩
    rw [readInbound_barred h hbarred]
    exact ⟨rfl, violate_violations .., violate_read_fwlLast ..⟩
  case inboundWrite =>
    have hexec := exec_inboundWrite_guarded hup h
    refine ⟨fun hallowed => ⟨fun hlocked => ⟨_, hexec, ?_⟩, fun n w hlocked hfound hfirst => ⟨_, hexec, ?_⟩⟩,
      fun x hrefused => ⟨_, hexec, ?_⟩⟩
    · rw [guardedWrite_performed hallowed hlocked]
      exact ⟨rfl, t1Write_lpd ..⟩
    · rw [guardedWrite_dropped hallowed hlocked, dropWrite_first hfound hfirst]
      refine ⟨record_lpd _ _ _, record_logged 0x5005 (detail [(1, n)]) (noteDropped n w s), ?_⟩
      rw [record_host]
      exact SMap.find?_insert_same _ _ _
    · rw [guardedWrite_refused hrefused]
      exact ⟨violate_lpd .., violate_violations .., violate_fwlLast ..⟩
  case bar4 =>
    have hexec := exec_bar4Access_served hserved hoff data reply
    rw [accessPeer_eq] at hexec
    refine ⟨fun hwrite => ⟨_, hexec, ?_⟩, fun hread => ⟨_, hexec, ?_⟩⟩
    · rw [if_neg hwrite]
    · rw [if_pos hread]
  case cfg =>
    refine ⟨fun d => ⟨_, exec_aptCfgDataRead_open hreach _, ?_⟩, ⟨_, exec_aptCfgDataRead_open hreach _, ?_⟩,
      fun d => ⟨_, exec_aptCfgDataWrite_open hreach d true, ?_⟩⟩
    · rw [cfgRead_up hup]
      simp [noteCfg, b01, at_]
    · rw [cfgRead_up hup]
      exact ⟨rfl, rfl⟩
    · rw [cfgWrite_up hup]
      rfl

end Sys2Proof.Machine
end
